-- ==== Sys2Proof/Word.lean ====
section
/-! DEFINITION. The words of the Avelda 880: bytes, timebase stamps, CRC registers. -/

namespace Sys2Proof

/-- One byte of a frame, of the store or of a track. -/
abbrev Byte := BitVec 8

/-- One value of the 32-bit microsecond timebase (R1), and of a ring sequence number (R150). -/
abbrev Word32 := BitVec 32

/-- One CRC-16 register (R17). -/
abbrev Word16 := BitVec 16

end Sys2Proof
end

