-- ==== Sys2Proof/Config.lean ====
section
/-! DEFINITION. What the manual leaves open: the free values. Each is a constant with no body, applied to the
count of values drawn so far (State's freeDraws), so nothing can be proved of any one of them. -/

namespace Sys2Proof.Config

/-- FREE VALUE (entry 14). The order in which the channels of one cancelled job offer their records is not
fixed (R72, R152: "Either may be first"): of two channels, the one of smaller rank offers first. -/
opaque noticeRank : Nat → Nat → Nat

/-- FREE VALUE (entry 15). The slot named by an overrun whose INDEX edge comes inside the fixed part of the
track, before any slot's sector (R132 names none there); taken modulo the sector count. -/
opaque earlyOverrunSlot : Nat → Nat

/-- FREE VALUE (entry 16). The data bit "before" the first bit of a write stream, which the MFM clock rule
reads (R8) and no rule states. -/
opaque bitBeforeStream : Nat → Bool

end Sys2Proof.Config
end

