-- ==== Sys2Proof/Syntax.lean ====
section
/-! DEFINITION. The commands of the block: one constructor for each row of spec/opcode_table.json. -/

namespace Sys2Proof

/-- The two station ports (R174). -/
inductive PortId where
  | a | b
  deriving DecidableEq, Repr

/-- A drive channel, 0 to 7 (R98). -/
abbrev Chan := Fin 8

/-- The input pins as power-on ends: straps (R27), raw SEATED, TRK0 and WPROT of the drives (bit d for
drive d), and whether the handler pulls LINE HOLD (R169). -/
structure PinLevels where
  size1 : Bool
  size0 : Bool
  seated : BitVec 8
  trk0 : BitVec 8
  wprot : BitVec 8
  handlerHolds : Bool
  deriving DecidableEq, Repr

/-- The station requests of R188's table. -/
inductive Request where
  | readDevice | portReset | readEvents | setEventMask | setLineHold | readLine
  | defineFormat | readFormat | removeFormat | planQuery
  | openImage | defineTrack | setCursor | writeData | readData | finishImage | deleteImage
  | readImage | readTrackEntry | readStoreMap | setStore
  | defineJob | startJob | stopJob | cancelJob | removeJob | readJob
  | setDrive | enableDrive | disableDrive | freezeDrive | resumeDrive | resetDrive | readDrive
  | readResult | setResultFollow | readRing
  deriving DecidableEq, Repr

/-- The commands of the block, one for each row of spec/opcode_table.json. A station request carries its
port and the payload bytes of its frame (R187). -/
inductive Instr where
  /-- POWER_ON: power-on ends with these levels at the input pins (R185, R27). -/
  | powerOn (pins : PinLevels)
  /-- RESET_PIN_ASSERT: RESET becomes active (R185). -/
  | resetPinAssert
  /-- RESET_PIN_RELEASE: RESET becomes inactive, with these levels on the straps (R185, R27). -/
  | resetPinRelease (size1 size0 : Bool)
  /-- TIMEBASE_TICK: one microsecond passes (R1); the TRK0 and WPROT inputs stand at these levels, bit d
  for drive d (entry 3). -/
  | timebaseTick (trk0 wprot : BitVec 8)
  /-- REFRESH_TIMER_EXPIRY (R36). -/
  | refreshTimerExpiry
  /-- ARBITER_GRANT: the store is free to start a burst (R38). -/
  | arbiterGrant
  /-- STORE_BURST_COMPLETE: the burst in progress completes (R37). -/
  | storeBurstComplete
  /-- PLAN_BUILD_COMPLETE: the Layout Engine completes the plan in building (R23). -/
  | planBuildComplete
  /-- INDEX_EDGE: a leading INDEX edge at a drive (R104). -/
  | indexEdge (c : Chan)
  /-- WRITE_UNDERRUN: a DATA byte is due while the track buffer is empty (R131). -/
  | writeUnderrun (c : Chan)
  /-- VERIFY_SLOT_RESULT: the read side ends one slot or reaches a search limit (R135). -/
  | verifySlotResult (c : Chan)
  /-- VERIFY_UNDERRUN: a read-back DATA byte finds no expected byte in the buffer (R136). -/
  | verifyUnderrun (c : Chan)
  /-- STEP_PULSE_TIMER_EXPIRY (R102). -/
  | stepPulseTimerExpiry (c : Chan)
  /-- STEP_TIMER_EXPIRY (R102). -/
  | stepTimerExpiry (c : Chan)
  /-- SETTLE_TIMER_EXPIRY (R103). -/
  | settleTimerExpiry (c : Chan)
  /-- SPINUP_TIMER_EXPIRY (R110). -/
  | spinupTimerExpiry (c : Chan)
  /-- INDEX_WATCHDOG_EXPIRY (R106). -/
  | indexWatchdogExpiry (c : Chan)
  /-- LINE_HOLD_PIN_CHANGE: the handler pulls (true) or lets go (false) LINE HOLD (R170). -/
  | lineHoldPinChange (pulls : Bool)
  /-- SEATED_EDGE: the raw SEATED input goes to this level (R165). -/
  | seatedEdge (c : Chan) (level : Bool)
  /-- DEBOUNCE_TIMER_EXPIRY (R165). -/
  | debounceTimerExpiry (c : Chan)
  /-- FETCH_START: the 00 hex code byte of a fetch window is received (R177). -/
  | fetchStart (p : PortId)
  /-- FETCH_WINDOW_END: a fetch window ends after this many rising edges of SCLK (R177, R174). -/
  | fetchWindowEnd (p : PortId) (clocks : Nat)
  /-- FRAME_REJECTED: a request window ends whose sampled bits, in order, make no acceptable frame (R175). -/
  | frameRejected (p : PortId) (bits : List Bool)
  | readDevice (p : PortId) (payload : List Byte)
  | portReset (p : PortId) (payload : List Byte)
  | readEvents (p : PortId) (payload : List Byte)
  | setEventMask (p : PortId) (payload : List Byte)
  | setLineHold (p : PortId) (payload : List Byte)
  | readLine (p : PortId) (payload : List Byte)
  | defineFormat (p : PortId) (payload : List Byte)
  | readFormat (p : PortId) (payload : List Byte)
  | removeFormat (p : PortId) (payload : List Byte)
  | planQuery (p : PortId) (payload : List Byte)
  | openImage (p : PortId) (payload : List Byte)
  | defineTrack (p : PortId) (payload : List Byte)
  | setCursor (p : PortId) (payload : List Byte)
  | writeData (p : PortId) (payload : List Byte)
  | readData (p : PortId) (payload : List Byte)
  | finishImage (p : PortId) (payload : List Byte)
  | deleteImage (p : PortId) (payload : List Byte)
  | readImage (p : PortId) (payload : List Byte)
  | readTrackEntry (p : PortId) (payload : List Byte)
  | readStoreMap (p : PortId) (payload : List Byte)
  | setStore (p : PortId) (payload : List Byte)
  | defineJob (p : PortId) (payload : List Byte)
  | startJob (p : PortId) (payload : List Byte)
  | stopJob (p : PortId) (payload : List Byte)
  | cancelJob (p : PortId) (payload : List Byte)
  | removeJob (p : PortId) (payload : List Byte)
  | readJob (p : PortId) (payload : List Byte)
  | setDrive (p : PortId) (payload : List Byte)
  | enableDrive (p : PortId) (payload : List Byte)
  | disableDrive (p : PortId) (payload : List Byte)
  | freezeDrive (p : PortId) (payload : List Byte)
  | resumeDrive (p : PortId) (payload : List Byte)
  | resetDrive (p : PortId) (payload : List Byte)
  | readDrive (p : PortId) (payload : List Byte)
  | readResult (p : PortId) (payload : List Byte)
  | setResultFollow (p : PortId) (payload : List Byte)
  | readRing (p : PortId) (payload : List Byte)
  /-- WRITE_STREAM_BYTE: the next byte of a running write pass falls due (R129). -/
  | writeStreamByte (c : Chan)
  /-- READ_BACK_BYTE: one byte arrives on RDATA, with flux transitions at these times, in sixteenths of a
  half-cell from the byte's start: 0 to 255 in its own sixteen half-cells, 256 to 271 in the half-cell that
  follows them, which decides its last half-cell too (R134, R136, entry 17). -/
  | readBackByte (c : Chan) (flux : List (BitVec 9))
  deriving DecidableEq, Repr

end Sys2Proof
end

