-- ==== Sys2Proof/Decode.lean ====
section
/-! DEFINITION. The frames of a select window: bits to bytes, and the judgement of R175 over the request
codes and payload lengths of R188. The command table itself gives no row any bits. -/

namespace Sys2Proof

/-- The command a word spells by the table's bits. No row of spec/opcode_table.json gives any bits, so no
word spells one (entry 25). -/
def decodeTableWord (_nbits _w : Nat) : Option Instr := none

/-- The byte of eight sampled bits, most significant first (R174). -/
def byteOfBits (bits : List Bool) : Byte :=
  bits.foldl (fun v b => (v <<< 1) ||| (if b then 1 else 0)) 0

/-- The whole bytes of a window's bits, by eights; a final partial byte is discarded (R174). The first
argument is fuel: at most one byte for each bit. -/
def bytesOfBits : Nat → List Bool → List Byte
  | 0, _ => []
  | n + 1, bits =>
    if bits.length < 8 then [] else byteOfBits (bits.take 8) :: bytesOfBits n (bits.drop 8)

/-- What the port's frame buffer holds of a window: its whole bytes, at most 252 of them (R174). -/
def windowBytes (bits : List Bool) : List Byte :=
  (bytesOfBits bits.length bits).take 252

/-- The request of a code byte, by R188's table. -/
def Request.ofCode (code : Byte) : Option Request :=
  match code.toNat with
  | 0x01 => some .readDevice
  | 0x02 => some .portReset
  | 0x03 => some .readEvents
  | 0x04 => some .setEventMask
  | 0x05 => some .setLineHold
  | 0x06 => some .readLine
  | 0x10 => some .defineFormat
  | 0x11 => some .readFormat
  | 0x12 => some .removeFormat
  | 0x13 => some .planQuery
  | 0x20 => some .openImage
  | 0x21 => some .defineTrack
  | 0x22 => some .setCursor
  | 0x23 => some .writeData
  | 0x24 => some .readData
  | 0x25 => some .finishImage
  | 0x26 => some .deleteImage
  | 0x27 => some .readImage
  | 0x28 => some .readTrackEntry
  | 0x29 => some .readStoreMap
  | 0x2A => some .setStore
  | 0x30 => some .defineJob
  | 0x31 => some .startJob
  | 0x32 => some .stopJob
  | 0x33 => some .cancelJob
  | 0x34 => some .removeJob
  | 0x35 => some .readJob
  | 0x40 => some .setDrive
  | 0x41 => some .enableDrive
  | 0x42 => some .disableDrive
  | 0x43 => some .freezeDrive
  | 0x44 => some .resumeDrive
  | 0x45 => some .resetDrive
  | 0x46 => some .readDrive
  | 0x50 => some .readResult
  | 0x51 => some .setResultFollow
  | 0x52 => some .readRing
  | _ => none

/-- The code byte of a request, by R188's table. -/
def Request.code : Request → Byte
  | .readDevice => 0x01
  | .portReset => 0x02
  | .readEvents => 0x03
  | .setEventMask => 0x04
  | .setLineHold => 0x05
  | .readLine => 0x06
  | .defineFormat => 0x10
  | .readFormat => 0x11
  | .removeFormat => 0x12
  | .planQuery => 0x13
  | .openImage => 0x20
  | .defineTrack => 0x21
  | .setCursor => 0x22
  | .writeData => 0x23
  | .readData => 0x24
  | .finishImage => 0x25
  | .deleteImage => 0x26
  | .readImage => 0x27
  | .readTrackEntry => 0x28
  | .readStoreMap => 0x29
  | .setStore => 0x2A
  | .defineJob => 0x30
  | .startJob => 0x31
  | .stopJob => 0x32
  | .cancelJob => 0x33
  | .removeJob => 0x34
  | .readJob => 0x35
  | .setDrive => 0x40
  | .enableDrive => 0x41
  | .disableDrive => 0x42
  | .freezeDrive => 0x43
  | .resumeDrive => 0x44
  | .resetDrive => 0x45
  | .readDrive => 0x46
  | .readResult => 0x50
  | .setResultFollow => 0x51
  | .readRing => 0x52

/-- The payload lengths a request admits (R188). -/
def Request.admits (r : Request) (len : Nat) : Bool :=
  match r with
  | .readDevice | .portReset | .readEvents | .readLine | .readStoreMap | .readResult | .readRing => len == 0
  | .setEventMask | .setDrive => len == 8
  | .setLineHold | .readFormat | .removeFormat | .readData | .deleteImage | .readImage | .setStore
  | .startJob | .stopJob | .cancelJob | .removeJob | .readJob
  | .enableDrive | .disableDrive | .freezeDrive | .resumeDrive | .resetDrive | .readDrive
  | .setResultFollow => len == 1
  | .defineFormat => decide (27 ≤ len) && decide (len ≤ 51) && (len - 27) % 3 == 0
  | .planQuery => len == 3 || len == 7
  | .openImage => len == 7
  | .defineTrack | .finishImage => len == 5
  | .setCursor => len == 6
  | .writeData => decide (1 ≤ len) && decide (len ≤ 248)
  | .readTrackEntry => len == 3
  | .defineJob => len == 8 || len == 20

/-- Why the judgement of R175 discards a frame. -/
inductive FrameError where
  | shortFrame | badLength | unknownRequest
  deriving DecidableEq, Repr

/-- What a window holds, as its end judges it (R174, R175). -/
inductive Judgement where
  /-- No whole byte was received: the window has no effect (R174). -/
  | nothing
  /-- The first byte is 00 hex: a fetch window, not judged as a frame (R177). -/
  | fetch
  | error (e : FrameError)
  | request (r : Request) (payload : List Byte)
  deriving DecidableEq, Repr

/-- The judgement of R175: the first case that applies decides. -/
def judge : List Byte → Judgement
  | [] => .nothing
  | code :: rest =>
    if code = 0 then .fetch else
    match rest with
    | [] => .error .shortFrame
    | len :: payload =>
      if 250 < len.toNat then .error .badLength
      else if payload.length < len.toNat then .error .shortFrame
      else
        match Request.ofCode code with
        | none => .error .unknownRequest
        | some r =>
          if r.admits len.toNat then .request r (payload.take len.toNat) else .error .badLength

end Sys2Proof
end

