-- ==== Sys2Proof/Machine/State.lean ====
section
/-! DEFINITION. Everything the manual gives the part to hold, as plain data, and its values after reset.
INVENTORY.md lists each field with its rule and reset value. -/

namespace Sys2Proof.Machine

/-- The status codes of section 11.1, in the order of their values. -/
inductive Status where
  | ok | noReply | shortFrame | unknownRequest | badLength | badValue | noFormat | formatInUse
  | trackOverfull | slotBusy | noImage | notLoader | wrongImageState | noRoom | noTrack | trackDefined
  | imageInUse | imageNotReady | jobExists | noJob | queueFull | wrongJobState | jobBusy | driveBusy
  | wrongState | serialPlace
  deriving DecidableEq, Repr

/-- A reply: a status code and a payload, whose length is the payload length of R176. -/
structure Reply where
  status : Status
  payload : List Byte
  deriving DecidableEq, Repr

/-- FM and MFM (R4, R8). -/
inductive Encoding where
  | fm | mfm
  deriving DecidableEq, Repr

/-- One entry of a descriptor's exception list (R7). -/
structure SectorException where
  index : Nat
  sector : Option Byte
  deleted : Bool
  deriving DecidableEq, Repr

/-- A format descriptor as the Format Table stores it (R2, R3). -/
structure Descriptor where
  encoding : Encoding
  rate : Nat
  rpm : Nat
  tolerance : Nat
  sectors : Nat
  sizeCode : Nat
  firstSector : Nat
  interleave : Nat
  cylSkew : Nat
  headSkew : Nat
  leadGap : Nat
  indexField : Bool
  openingGap : Nat
  sectorGap : Nat
  gapComputed : Bool
  closingMin : Nat
  gapFill : Byte
  dataFill : Byte
  stepMultiplier : Nat
  cylOverride : Option Byte
  headOverride : Option Byte
  sizeOverride : Option Byte
  exceptions : List SectorException
  deriving DecidableEq, Repr

/-- An image slot's number, 0 to 7 (R41). -/
abbrev SlotId := Fin 8

/-- A format number, 0 to 15 (R2). -/
abbrev FormatId := Fin 16

/-- The lifecycle states of an image slot (R41). -/
inductive ImageState where
  | free | clearing | loading | checking | ready | bad
  deriving DecidableEq, Repr

/-- One entry of a track map (R44). -/
inductive TrackEntry where
  | skip
  | data (format : FormatId) (offset length : Nat)
  | formatOnly (format : FormatId)
  | erase
  deriving DecidableEq, Repr

/-- The fields of a slot that are absent while it is FREE (R41). -/
structure Opening where
  loader : PortId
  base : Nat
  length : Nat
  cylinders : Nat
  heads : Nat
  deriving DecidableEq, Repr

/-- An image slot (R41). -/
structure ImageSlot where
  state : ImageState
  openNumber : BitVec 16
  opening : Option Opening
  fillMark : Nat
  trackMap : List TrackEntry
  overflow : Nat
  expected : Option Word32
  computed : Option Word32
  refCount : Nat
  deriving DecidableEq, Repr

/-- The check under way at the Image Check Unit (R55): its slot, the CRC-32 register, the spans not yet
read, in track order, as region offset and length, and the span bytes read (R61). -/
structure ImageCheck where
  slot : SlotId
  crc : Word32
  spans : List (Nat × Nat)
  bytesRead : Nat
  deriving DecidableEq, Repr

/-- One region of the region list; no owner is FREE (R28). -/
structure Region where
  base : Nat
  length : Nat
  owner : Option SlotId
  deriving DecidableEq, Repr

/-- One region waiting for or under clearing, carried by the port that opened its slot (R31). -/
structure Clearing where
  port : PortId
  slot : SlotId
  bytes : Nat
  deriving DecidableEq, Repr

/-- The background clients of the arbiter, in their rotation (R38). -/
inductive Background where
  | checkUnit | portA | portB
  deriving DecidableEq, Repr

/-- What a granted burst does for its client (R37). `live` in Burst says whether the client still wants it. -/
inductive BurstWork where
  | refresh
  /-- Fetches image bytes of the given track slot into a channel's buffer. -/
  | fetch (c : Chan) (slot : Nat)
  | write (p : PortId) (bytes : List Byte)
  | read (p : PortId)
  /-- Writes zeros into the region of a slot. -/
  | clear (slot : SlotId)
  | check
  deriving DecidableEq, Repr

/-- The burst in progress at the store (R37). -/
structure Burst where
  work : BurstWork
  addr : Nat
  len : Nat
  live : Bool
  deriving DecidableEq, Repr

/-- The Image Store Controller, but for the burst in progress and the DRAM itself. -/
structure Store where
  blocks : Nat
  regions : List Region
  clearing : List Clearing
  refreshPhase : Nat
  refreshOwed : Bool
  refreshes : Nat
  lastChannel : Chan
  lastBackground : Background
  grantCount : Nat
  share : Nat
  deriving DecidableEq, Repr

/-- Why the part was last reset (R184, R185). -/
inductive ResetCause where
  | powerOn | resetPin
  deriving DecidableEq, Repr

/-- What the production cascade only reads: the clock, the pins, the formats, the store's books and the
Image Directory. -/
structure Base where
  timebase : Word32
  resetCause : ResetCause
  resetCount : Nat
  resetActive : Bool
  trk0 : BitVec 8
  wprot : BitVec 8
  formats : Vector (Option Descriptor) 16
  store : Store
  images : Vector ImageSlot 8
  checkList : List SlotId
  check : Option ImageCheck
  deriving DecidableEq, Repr

/-- The verify windows (R65). -/
inductive Window where
  | full | w875 | w75
  deriving DecidableEq, Repr

/-- A job's lifecycle states (R65). -/
inductive JobState where
  | queued | running | draining | done | cancelled
  deriving DecidableEq, Repr

/-- Why a job ended (R65). -/
inductive EndCause where
  | targetMet | serialsExhausted | stopped | cancelled
  deriving DecidableEq, Repr

/-- How a serial is written: decimal digits of a width, or four bytes (R86, R95). -/
inductive SerialEncoding where
  | ascii (width : Nat)
  | binary
  deriving DecidableEq, Repr

/-- A serial specification (R86). -/
structure SerialSpec where
  cylinder : Nat
  head : Nat
  index : Nat
  offset : Nat
  encoding : SerialEncoding
  start : Nat
  step : Nat
  deriving DecidableEq, Repr

/-- A serialised job's specification and state (R86, R88). -/
structure SerialState where
  spec : SerialSpec
  next : Nat
  reclaim : List Nat
  deriving DecidableEq, Repr

/-- A job record (R65). -/
structure Job where
  id : Nat
  slot : SlotId
  target : Nat
  drives : BitVec 8
  verifyEvery : Nat
  window : Window
  retryLimit : Nat
  serial : Option SerialState
  origin : PortId
  state : JobState
  endCause : Option EndCause
  issued : Nat
  passed : Nat
  failed : Nat
  aborted : Nat
  inFlight : Nat
  deriving DecidableEq, Repr

/-- The channel states, in the order of R99. -/
inductive ChannelState where
  | disabled | empty | loaded | spinup | recal | producing | paused | posting | unloading | fault
  deriving DecidableEq, Repr

/-- The phases of PRODUCING, in the order of R99. -/
inductive Phase where
  | plan | seek | settle | write | verify
  deriving DecidableEq, Repr

/-- The six settings of a drive (R100); the spin-up timeout in units of 10 ms. -/
structure Settings where
  stepPeriod : Nat
  settleTime : Nat
  heads : Nat
  cylinderLimit : Nat
  spinupUnits : Nat
  failStreakLimit : Nat
  deriving DecidableEq, Repr

/-- Drive faults (R99). -/
inductive DriveFault where
  | speed | noIndex | noTrack0 | failStreak
  deriving DecidableEq, Repr

/-- The bins a finished disk can be sent to (R167). -/
inductive Bin where
  | none | accept | reject | hold
  deriving DecidableEq, Repr

/-- The causes of a capture record, in the order of section 11.2 (R148). -/
inductive Cause where
  | recovered | marginalAccepted | missing | headerMismatch | headerCrc | markMismatch | dataCrc
  | dataMismatch | underrun | overrun | writeProtected | cancelled | diskPulled | driveReset | speed
  | noIndex | noTrack0
  deriving DecidableEq, Repr

/-- A soft or hard event (R144). -/
structure CaptureEvent where
  hard : Bool
  cause : Cause
  cylinder : Nat
  head : Nat
  sector : Option Byte
  deriving DecidableEq, Repr

/-- A capture record: the held event and the second error flag (R144). -/
structure Capture where
  held : Option CaptureEvent
  second : Bool
  deriving DecidableEq, Repr

/-- The verdict on a disk (R146). -/
inductive DiskOutcome where
  | pass | passSoft | fail | aborted
  deriving DecidableEq, Repr

/-- The per-disk fields of a channel's context (R99). -/
structure Disk where
  jobId : Nat
  slot : SlotId
  verified : Bool
  window : Window
  retryLimit : Nat
  serial : Option (Nat × SerialSpec)
  cylinder : Nat
  head : Nat
  retries : Nat
  totalRetries : Nat
  softCount : Nat
  capture : Capture
  tracksWritten : Nat
  startTime : Word32
  elapsed : Nat
  elapsedRest : Nat
  deriving DecidableEq, Repr

/-- A result record, but for the two fields the ring gives it (R148, R149). -/
structure RecordBody where
  jobId : Nat
  drive : Chan
  outcome : DiskOutcome
  serial : Option Nat
  verified : Bool
  capture : Capture
  softCount : Nat
  totalRetries : Nat
  tracksWritten : Nat
  deriving DecidableEq, Repr

/-- A result record held in the ring (R148). -/
structure ResultRecord where
  sequence : Word32
  body : RecordBody
  elapsed : Nat
  deriving DecidableEq, Repr

/-- Where a sector's data comes from (R23, R24). -/
inductive DataSource where
  | image (offset : Nat)
  | fill (byte : Byte)
  deriving DecidableEq, Repr

/-- A serial patch: the bytes placed at an offset of a sector's data (R23, R95). -/
structure Patch where
  offset : Nat
  bytes : List Byte
  deriving DecidableEq, Repr

/-- One entry of a plan's slot list (R23). -/
structure SlotPlan where
  index : Nat
  cylinder : Byte
  head : Byte
  sector : Byte
  size : Byte
  deleted : Bool
  source : DataSource
  patch : Option Patch
  deriving DecidableEq, Repr

/-- A Track Plan (R23), with the descriptor it was built from (entry 20). -/
structure TrackPlan where
  format : FormatId
  cylinder : Nat
  head : Nat
  period : Nat
  capacity : Nat
  used : Nat
  gap : Nat
  closing : Nat
  slots : List SlotPlan
  layout : Descriptor
  deriving DecidableEq, Repr

/-- A request to the Layout Engine (R22). A DATA track carries its image slot and span offset, a FORMAT-ONLY
track neither. -/
structure PlanRequest where
  channel : Chan
  format : FormatId
  cylinder : Nat
  head : Nat
  data : Option (SlotId × Nat)
  period : Nat
  serial : Option (Nat × SerialSpec)
  deriving DecidableEq, Repr

/-- The plan being built: its request, the descriptor as building began (R23), and whether the disk it was
for has been aborted (R25). -/
structure PlanBuild where
  request : PlanRequest
  layout : Descriptor
  discarded : Bool
  deriving DecidableEq, Repr

/-- The Layout Engine (R22). -/
structure LayoutEngine where
  queue : List PlanRequest
  building : Option PlanBuild
  deriving DecidableEq, Repr

/-- A slot's result in verify (R139). -/
inductive SlotResult where
  | ok | marginal | missing | headerMismatch | headerCrc | markMismatch | dataCrc | dataMismatch
  deriving DecidableEq, Repr

/-- How a write pass ended, with the slot it names (R123, R131, R132). -/
inductive WriteResult where
  | complete
  | underrun (slot : Nat)
  | overrun (slot : Nat)
  deriving DecidableEq, Repr

/-- A running write pass: the bytes written since the index edge, the CRC-16 of the field being written and
the last data bit sent (R8, R17, R129). -/
structure WriteStream where
  position : Nat
  crc : Word16
  lastBit : Bool
  deriving DecidableEq, Repr

/-- Where the read side stands in the tests of its present slot (R135). -/
inductive ReadPhase where
  | seekHeader
  | header (got : List Byte)
  | seekData
  | data (count : Nat) (crc : Word16) (differs : Bool)
  | dataCheck (crc : Word16) (differs : Bool) (got : List Byte)
  | ended (result : SlotResult)
  deriving DecidableEq, Repr

/-- The read side of a verify pass (R134, R135): the slots still to be read, the present one first; the byte
position its search starts at; the mark-prefix bytes just decoded; a transition carried into the next byte. -/
structure ReadSide where
  slots : List Nat
  phase : ReadPhase
  searchFrom : Nat
  prefixes : Nat
  spill : Bool
  deriving DecidableEq, Repr

/-- The working state of the current attempt (R123). -/
structure Attempt where
  plan : Option TrackPlan
  writeResult : Option WriteResult
  results : List (Option SlotResult)
  pass : Nat
  firstSector : Option Byte
  stream : Option WriteStream
  read : Option ReadSide
  deriving DecidableEq, Repr

/-- The image bytes of one sector not yet fetched for the current pass (R127). -/
structure FetchItem where
  slot : Nat
  offset : Nat
  remaining : Nat
  deriving DecidableEq, Repr

/-- A drive channel: its context (R99), its timers (R101), its outputs (R98), the current attempt (R123) and
the track buffer (R127), each buffered byte with the track slot it belongs to. -/
structure Channel where
  state : ChannelState
  phase : Option Phase
  resuming : Bool
  settings : Settings
  frozen : Bool
  cylinder : Option Nat
  lastStamp : Option Word32
  intervals : List Word32
  failCount : Nat
  fault : Option DriveFault
  removed : Bool
  bin : Bin
  disk : Option Disk
  record : Option RecordBody
  stepTimer : Option Nat
  settleTimer : Option Nat
  spinupTimer : Option Nat
  watchdog : Option Nat
  pulseTimer : Option Nat
  recalSteps : Nat
  seekTarget : Option Nat
  motor : Bool
  dir : Bool
  stepOut : Bool
  side : Bool
  wgate : Bool
  wdata : Option (Byte × Byte)
  attempt : Attempt
  buffer : List (Nat × Byte)
  fetch : List FetchItem
  deriving DecidableEq, Repr

/-- The Result Ring (R150). -/
structure Ring where
  records : List ResultRecord
  writePos : Word32
  dropped : Nat
  waiters : List Chan
  deriving DecidableEq, Repr

/-- The handler lines of one drive (R165, R167). -/
structure DriveLines where
  rawSeated : Bool
  seated : Bool
  debounce : Option Nat
  release : Bool
  bin1 : Bool
  bin0 : Bool
  deriving DecidableEq, Repr

/-- LINE HOLD (R169): the internal contribution, the recorded level and the handler's own pull. The ports'
contributions stand in their contexts (R179). -/
structure LineHold where
  internal : Bool
  recorded : Bool
  handler : Bool
  deriving DecidableEq, Repr

/-- The seven event kinds, in the order of their codes (R180, section 11.2). -/
inductive EventKind where
  | imageReady | imageBad | jobEnded | resultsWaiting | driveFault | lineChanged | resultsDropped
  deriving DecidableEq, Repr

/-- A port's data cursor (R49). -/
structure DataCursor where
  slot : SlotId
  openNumber : BitVec 16
  cylinder : Nat
  head : Nat
  offset : Nat
  deriving DecidableEq, Repr

/-- A port's data transfer (R33, R35): the slot and open number it carries, its next byte as an offset in the
slot's region, and what is left of it. -/
inductive TransferKind where
  /-- The bytes still to write, and how many have been written. -/
  | write (left : List Byte) (written : Nat)
  /-- The number of bytes still to read, and the bytes read. -/
  | read (left : Nat) (got : List Byte)
  deriving DecidableEq, Repr

/-- See TransferKind. -/
structure Transfer where
  slot : SlotId
  openNumber : BitVec 16
  offset : Nat
  kind : TransferKind
  deriving DecidableEq, Repr

/-- A frame waiting in a hold list: a request, or a frame-error reply (R178). -/
inductive HeldFrame where
  | request (r : Request) (payload : List Byte)
  | error (status : Status)
  deriving DecidableEq, Repr

/-- An open fetch window: the reply it clocks out, and whether that is the pending reply (R177). -/
structure FetchWindow where
  reply : Reply
  pending : Bool
  deriving DecidableEq, Repr

/-- A port's context (R179). The port is transferring while `transfer` is present. -/
structure PortContext where
  pending : Option Reply
  transfer : Option Transfer
  hold : List HeldFrame
  events : List EventKind
  mask : List EventKind
  cursor : Option DataCursor
  resultCursor : Word32
  follow : Bool
  lineHold : Bool
  window : Option FetchWindow
  deriving DecidableEq, Repr

/-- The production floor: everything a disk's life can change. `evalDue`, `offers` and `freeDraws` are the
model's own (entry 26): an evaluation of assignment due within the present step, the channels whose records are
to be offered within it, and the count of free values drawn. -/
structure Floor where
  jobs : List Job
  waiting : List Chan
  engine : LayoutEngine
  channels : Vector Channel 8
  ring : Ring
  drives : Vector DriveLines 8
  line : LineHold
  portA : PortContext
  portB : PortContext
  burst : Option Burst
  evalDue : Bool
  offers : List Chan
  freeDraws : Nat
  deriving DecidableEq, Repr

/-- The machine: the queue of commands waiting, first in first out; the DRAM as (address, byte) cells, rising
addresses, none of value 00 (entry 4); and the part. -/
structure State where
  pending : List Instr
  mem : List Host.Cell
  base : Base
  floor : Floor
  deriving DecidableEq, Repr

/-- The faults of a step. -/
inductive Fault where
  /-- Raised by STORE_BURST_COMPLETE when the burst reaches beyond the last block of the store. Safe: R28 and
  R33 keep every burst of a reachable state inside the store (entry 23). -/
  | storeAddress
  deriving DecidableEq, Repr

/-- The refusals of a step. -/
inductive Refusal where
  /-- Raised by exec for a command that has no meaning yet; no arm does. Safe: the model stops. -/
  | notModelled (mnemonic : String)
  deriving DecidableEq, Repr

/-- No attempt under way (R123). -/
def Attempt.none : Attempt :=
  { plan := Option.none, writeResult := Option.none, results := [], pass := 1,
    firstSector := Option.none, stream := Option.none, read := Option.none }

/-- The defaults of R100. -/
def Settings.reset : Settings :=
  { stepPeriod := 3, settleTime := 15, heads := 2, cylinderLimit := 80, spinupUnits := 100,
    failStreakLimit := 4 }

/-- A channel after power-on and after the RESET pin (R98, R99, R101, R127). -/
def Channel.reset : Channel :=
  { state := .disabled, phase := none, resuming := false, settings := Settings.reset, frozen := false,
    cylinder := none, lastStamp := none, intervals := [], failCount := 0, fault := none, removed := false,
    bin := .none, disk := none, record := none, stepTimer := none, settleTimer := none, spinupTimer := none,
    watchdog := none, pulseTimer := none, recalSteps := 0, seekTarget := none, motor := false, dir := false,
    stepOut := false, side := false, wgate := false, wdata := none, attempt := Attempt.none, buffer := [],
    fetch := [] }

/-- An image slot after reset (R41). -/
def ImageSlot.reset : ImageSlot :=
  { state := .free, openNumber := 0, opening := none, fillMark := 0, trackMap := [], overflow := 0,
    expected := none, computed := none, refCount := 0 }

/-- The store's books after reset, for a store of so many blocks (R28, R36, R38). -/
def Store.reset (blocks : Nat) : Store :=
  { blocks := blocks, regions := [{ base := 0, length := blocks, owner := none }], clearing := [],
    refreshPhase := 0, refreshOwed := false, refreshes := 0, lastChannel := 7, lastBackground := .portB,
    grantCount := 0, share := 4 }

/-- The ring after reset (R150). -/
def Ring.reset : Ring := { records := [], writePos := 0, dropped := 0, waiters := [] }

/-- A port's context after reset (R179). -/
def PortContext.reset : PortContext :=
  { pending := none, transfer := none, hold := [], events := [], mask := [], cursor := none,
    resultCursor := 0, follow := false, lineHold := false, window := none }

/-- A drive's handler lines after reset, at a raw SEATED level; the debounce of a level active as the reset
ends is loaded by State.endReset in Machine/Ops.lean (R165, R167). -/
def DriveLines.reset (raw : Bool) : DriveLines :=
  { rawSeated := raw, seated := false, debounce := none, release := false, bin1 := false, bin0 := false }

/-- The floor after reset (R22, R64, R99, R150, R165, R169, R179). -/
def Floor.reset : Floor :=
  { jobs := [], waiting := [], engine := { queue := [], building := none },
    channels := Vector.replicate 8 Channel.reset, ring := Ring.reset,
    drives := Vector.replicate 8 (DriveLines.reset false),
    line := { internal := false, recorded := false, handler := false },
    portA := PortContext.reset, portB := PortContext.reset, burst := none, evalDue := false, offers := [],
    freeDraws := 0 }

/-- The base after power-on, for a store of so many blocks (R1, R2, R27, R41, R55, R185). -/
def Base.reset (blocks : Nat) : Base :=
  { timebase := 0, resetCause := .powerOn, resetCount := 0, resetActive := false, trk0 := 0, wprot := 0,
    formats := Vector.replicate 16 none, store := Store.reset blocks,
    images := Vector.replicate 8 ImageSlot.reset, checkList := [], check := none }

/-- The machine right after power-on, with every input pin inactive, the straps among them (entry 5): a
store of 1,024 blocks. -/
def State.reset : State :=
  { pending := [], mem := [], base := Base.reset 1024, floor := Floor.reset }

end Sys2Proof.Machine
end

