-- ==== Sys2Proof/Machine/Ops.lean ====
section
/-! DEFINITION. The shared operations over memory, ports, channels and events, the timers, the numbers of
frames, and the resets. -/

namespace Sys2Proof.Machine

/-! Memory: the DRAM as a list of cells (entry 4). -/

/-- What an address that no cell lists reads as (entry 4, DESIGN CHOICE: the spec calls it arbitrary, R27). -/
def unlistedByte : Byte := 0

/-- One byte of the DRAM. -/
def Memory.read : List Host.Cell → Nat → Byte
  | [], _ => unlistedByte
  | (k, v) :: rest, a => if k = a then v else Memory.read rest a

/-- Writes one byte and keeps the canonical form. -/
def Memory.write : List Host.Cell → Nat → Byte → List Host.Cell
  | [], a, v => if v = unlistedByte then [] else [(a, v)]
  | (k, w) :: rest, a, v =>
    if a < k then (if v = unlistedByte then (k, w) :: rest else (a, v) :: (k, w) :: rest)
    else if a = k then (if v = unlistedByte then rest else (a, v) :: rest)
    else (k, w) :: Memory.write rest a v

/-- Writes bytes at consecutive addresses. -/
def Memory.writeBytes : List Host.Cell → Nat → List Byte → List Host.Cell
  | mem, _, [] => mem
  | mem, a, b :: rest => Memory.writeBytes (Memory.write mem a b) (a + 1) rest

/-- Reads bytes at consecutive addresses. -/
def Memory.readBytes (mem : List Host.Cell) (a : Nat) : Nat → List Byte
  | 0 => []
  | n + 1 => Memory.read mem a :: Memory.readBytes mem (a + 1) n

/-- The canonical form: addresses strictly rising from `low`, no cell equal to what an unlisted one reads as. -/
def Memory.wfFrom : Nat → List Host.Cell → Bool
  | _, [] => true
  | low, (k, v) :: rest => decide (low ≤ k) && decide (v ≠ unlistedByte) && Memory.wfFrom (k + 1) rest

/-- The canonical form of a memory. -/
def Memory.wf (mem : List Host.Cell) : Bool := Memory.wfFrom 0 mem

/-! Numbers in frames: most significant byte first (R187). -/

/-- The number in `len` bytes of a payload from byte `i`. -/
def num (payload : List Byte) (i len : Nat) : Nat :=
  ((payload.drop i).take len).foldl (fun v b => v * 256 + b.toNat) 0

/-- A number as `len` bytes. -/
def be : Nat → Nat → List Byte
  | 0, _ => []
  | n + 1, v => BitVec.ofNat 8 (v / 256 ^ n) :: be n v

/-- A number as one byte. -/
def byte (v : Nat) : Byte := BitVec.ofNat 8 v

/-- A two-valued item in a byte of its own (section 11.2). -/
def flagByte (b : Bool) : Byte := if b then 1 else 0

/-- The number of a slot, format or channel when it lies in its range. -/
def finOf? (n v : Nat) : Option (Fin n) := if h : v < n then some ⟨v, h⟩ else none

/-- Replaces a value outside a range by the nearest bound ("Clamping", 00). -/
def clamp (low high v : Nat) : Nat := max low (min high v)

/-- A count raised by `k` that stops at its maximum ("Saturating counts", 00). -/
def satAdd (top v k : Nat) : Nat := min top (v + k)

/-- The first index of a list whose element meets a test, counted from 1; 0 when none does. -/
def placeOf {α : Type} (test : α → Bool) : List α → Nat
  | [] => 0
  | x :: rest =>
    if test x then 1
    else
      match placeOf test rest with
      | 0 => 0
      | k + 1 => k + 2

/-- Applies a function at each of the eight places. -/
def map8 {α β : Type} (g : α → β) (v : Vector α 8) : Vector β 8 :=
  #v[g v[0], g v[1], g v[2], g v[3], g v[4], g v[5], g v[6], g v[7]]

/-- The channels in ascending order. -/
def allChannels : List Chan := [0, 1, 2, 3, 4, 5, 6, 7]

/-! Timers (R101, entry 6). -/

/-- One microsecond off a running timer; a timer at zero waits there for its expiry. -/
def tickTimer (t : Option Nat) : Option Nat := t.map (· - 1)

/-- A timer expires when it runs and its count has reached zero (R101, entry 6). -/
def timerExpired (t : Option Nat) : Bool := t == some 0

/-! Ports. -/

/-- A port's context. -/
def Floor.port (f : Floor) : PortId → PortContext
  | .a => f.portA
  | .b => f.portB

/-- Replaces a port's context. -/
def Floor.setPort (f : Floor) (p : PortId) (x : PortContext) : Floor :=
  match p with
  | .a => { f with portA := x }
  | .b => { f with portB := x }

/-- The other port. -/
def otherPort : PortId → PortId
  | .a => .b
  | .b => .a

/-- The code of a port (section 11.2). -/
def portCode : PortId → Byte
  | .a => 0
  | .b => 1

/-- Makes a reply the pending reply of a port (R176). -/
def Floor.answer (f : Floor) (p : PortId) (r : Reply) : Floor :=
  f.setPort p { f.port p with pending := some r }

/-- A request carried out with status OK and this payload (R176). -/
def State.reply (s : State) (p : PortId) (payload : List Byte) : State :=
  { s with floor := s.floor.answer p { status := .ok, payload := payload } }

/-- A request refused: the reply carries the status alone and nothing changes (R176). -/
def State.refuse (s : State) (p : PortId) (status : Status) : State :=
  { s with floor := s.floor.answer p { status := status, payload := [] } }

/-! Events (R180). -/

/-- The event kinds in ascending order of their codes. -/
def allEvents : List EventKind :=
  [.imageReady, .imageBad, .jobEnded, .resultsWaiting, .driveFault, .lineChanged, .resultsDropped]

/-- A set of kinds with one more, each held once and in ascending order (R180). -/
def addEvent (set : List EventKind) (e : EventKind) : List EventKind :=
  allEvents.filter fun k => decide (k = e) || decide (k ∈ set)

/-- Posts an event: it is added to the event sets of both ports (R180). -/
def Floor.post (f : Floor) (e : EventKind) : Floor :=
  { f with
    portA := { f.portA with events := addEvent f.portA.events e }
    portB := { f.portB with events := addEvent f.portB.events e } }

/-- ATTN of a port: active while its event set and its mask share a kind (R181). -/
def PortContext.attn (x : PortContext) : Bool := x.events.any fun e => decide (e ∈ x.mask)

/-! Channels and handler lines. -/

/-- A channel. -/
def Floor.chan (f : Floor) (c : Chan) : Channel := f.channels[c]

/-- Replaces a channel. -/
def Floor.setChan (f : Floor) (c : Chan) (x : Channel) : Floor := { f with channels := f.channels.set c x }

/-- Changes a channel. -/
def Floor.modChan (f : Floor) (c : Chan) (g : Channel → Channel) : Floor := f.setChan c (g (f.chan c))

/-- A drive's handler lines. -/
def Floor.drive (f : Floor) (c : Chan) : DriveLines := f.drives[c]

/-- Changes a drive's handler lines. -/
def Floor.modDrive (f : Floor) (c : Chan) (g : DriveLines → DriveLines) : Floor :=
  { f with drives := f.drives.set c (g (f.drive c)) }

/-- Whether the channel's state is one in which it holds a disk: from assignment to posting (R72, R92). -/
def Channel.holdsDisk (x : Channel) : Bool :=
  match x.state with
  | .spinup | .recal | .producing | .paused | .posting => true
  | .disabled | .empty | .loaded | .unloading | .fault => false

/-- Whether the channel's disk can be aborted: SPINUP, RECAL, PRODUCING or PAUSED (R115). -/
def Channel.abortable (x : Channel) : Bool :=
  match x.state with
  | .spinup | .recal | .producing | .paused => true
  | .disabled | .empty | .loaded | .posting | .unloading | .fault => false

/-- The part pulls LINE HOLD while any of its three contributions is held (R169). -/
def Floor.partPulls (f : Floor) : Bool := f.portA.lineHold || f.portB.lineHold || f.line.internal

/-- The level of LINE HOLD: held while anyone pulls it (R169). -/
def Floor.lineHeld (f : Floor) : Bool := f.partPulls || f.line.handler

/-- The burst in progress no longer has a client: it completes with no effect on one (R32, R59, R63, R115). -/
def Floor.orphanBurst (f : Floor) (isMine : BurstWork → Bool) : Floor :=
  match f.burst with
  | none => f
  | some b => if isMine b.work then { f with burst := some { b with live := false } } else f

/-- Whether a burst fetches for this channel. -/
def BurstWork.isFetchOf (c : Chan) : BurstWork → Bool
  | .fetch d _ => decide (d = c)
  | .refresh | .write _ _ | .read _ | .clear _ | .check => false

/-- Whether a burst is one of this port's data transfer. -/
def BurstWork.isTransferOf (p : PortId) : BurstWork → Bool
  | .write q _ => decide (q = p)
  | .read q => decide (q = p)
  | .refresh | .fetch _ _ | .clear _ | .check => false

/-- Whether a burst clears the region of this slot. -/
def BurstWork.isClearOf (slot : SlotId) : BurstWork → Bool
  | .clear k => decide (k = slot)
  | .refresh | .fetch _ _ | .write _ _ | .read _ | .check => false

/-- Whether a burst is the Image Check Unit's. -/
def BurstWork.isCheck : BurstWork → Bool
  | .check => true
  | .refresh | .fetch _ _ | .write _ _ | .read _ | .clear _ => false

/-! Formats and images. -/

/-- The descriptor of a format entry; none when the entry is undefined (R2). -/
def Base.format (b : Base) (f : FormatId) : Option Descriptor := b.formats[f]

/-- Replaces a format entry. -/
def Base.setFormat (b : Base) (f : FormatId) (d : Option Descriptor) : Base :=
  { b with formats := b.formats.set f d }

/-- An image slot. -/
def Base.image (b : Base) (k : SlotId) : ImageSlot := b.images[k]

/-- Replaces an image slot. -/
def Base.setImage (b : Base) (k : SlotId) (x : ImageSlot) : Base := { b with images := b.images.set k x }

/-- Changes an image slot. -/
def Base.modImage (b : Base) (k : SlotId) (g : ImageSlot → ImageSlot) : Base := b.setImage k (g (b.image k))

/-! Resets (R185). -/

/-- The store's block count, from the straps (R27). -/
def strapBlocks (size1 size0 : Bool) : Nat :=
  match size1, size0 with
  | false, false => 1024
  | false, true => 2048
  | true, false => 4096
  | true, true => 1024

/-- The debounce time of SEATED, in microseconds (R165). -/
def debounceTime : Nat := 20000

/-- The raw SEATED level examined as a reset ends: an active one loads the debounce timer (R165). -/
def DriveLines.examine (d : DriveLines) : DriveLines :=
  if d.rawSeated then { d with debounce := some debounceTime } else d

/-- What a reset's end does on the floor: every raw SEATED level is examined (R165), and the recorded level
becomes the level found at the pin (R169). -/
def Floor.endReset (f : Floor) : Floor :=
  { f with
    drives := map8 DriveLines.examine f.drives
    line := { f.line with recorded := f.lineHeld } }

/-- Power-on ends (R185): every block takes its reset values. RESET still active at that moment holds the part
in a RESET pin reset, which has then not ended before the power-on (R185, entry 22). -/
def State.powerOn (s : State) (pins : PinLevels) : State :=
  let b := { Base.reset (strapBlocks pins.size1 pins.size0) with
    trk0 := pins.trk0, wprot := pins.wprot, resetActive := s.base.resetActive }
  let f := { Floor.reset with
    freeDraws := s.floor.freeDraws
    drives := #v[DriveLines.reset (pins.seated.getLsbD 0), DriveLines.reset (pins.seated.getLsbD 1),
      DriveLines.reset (pins.seated.getLsbD 2), DriveLines.reset (pins.seated.getLsbD 3),
      DriveLines.reset (pins.seated.getLsbD 4), DriveLines.reset (pins.seated.getLsbD 5),
      DriveLines.reset (pins.seated.getLsbD 6), DriveLines.reset (pins.seated.getLsbD 7)]
    line := { internal := false, recorded := pins.handlerHolds, handler := pins.handlerHolds } }
  { pending := s.pending, mem := [], base := b, floor := if s.base.resetActive then f else f.endReset }

/-- RESET becomes active: every block is held at its values for the RESET pin (R185). The reset cause and
count, the DRAM (R27) and the levels of the input pins stand. -/
def State.assertReset (s : State) : State :=
  { s with
    base := { Base.reset s.base.store.blocks with
      resetCause := s.base.resetCause, resetCount := s.base.resetCount, resetActive := true
      trk0 := s.base.trk0, wprot := s.base.wprot }
    floor := { Floor.reset with
      drives := map8 (fun d => DriveLines.reset d.rawSeated) s.floor.drives
      line := { internal := false, recorded := s.floor.line.handler, handler := s.floor.line.handler }
      freeDraws := s.floor.freeDraws } }

/-- RESET becomes inactive: the straps are sampled (R27), the cause becomes RESET_PIN and the count rises by
one, saturating at 255 (R185). -/
def State.releaseReset (s : State) (size1 size0 : Bool) : State :=
  { s with
    base := { s.base with
      timebase := 0, resetCause := .resetPin, resetCount := satAdd 255 s.base.resetCount 1
      resetActive := false, store := Store.reset (strapBlocks size1 size0) }
    floor := s.floor.endReset }

end Sys2Proof.Machine
end

