-- ==== Sys2Proof/Machine/Codes.lean ====
section
/-! DEFINITION. CRC-16 (R17), CRC-32 (R56), the clock halves of FM and MFM (R8), the read side's decoding of
flux under the verify window (R134), and the bytes of a serial number (R95). -/

namespace Sys2Proof.Machine

/-! CRC-16: polynomial 1021 hex, preset FFFF hex, most significant bit first, no final inversion (R17). -/

/-- One bit of the CRC-16, already brought into the top bit of the register. -/
def crc16Bit (r : Word16) : Word16 := if r.msb then (r <<< 1) ^^^ 0x1021 else r <<< 1

/-- One byte into the CRC-16 register. -/
def crc16Byte (r : Word16) (b : Byte) : Word16 :=
  Nat.iterate crc16Bit 8 (r ^^^ (b.setWidth 16 <<< 8))

/-- The preset of R17. -/
def crc16Preset : Word16 := 0xFFFF

/-- The CRC-16 of a list of bytes. -/
def crc16 (bytes : List Byte) : Word16 := bytes.foldl crc16Byte crc16Preset

/-- A CRC-16's two bytes, stored high byte first (R17). -/
def crc16Bytes (r : Word16) : List Byte := [(r >>> 8).setWidth 8, r.setWidth 8]

/-! CRC-32: polynomial 04C11DB7 hex (EDB88320 hex reflected), preset FFFFFFFF hex, least significant bit
first, inverted (R56). -/

/-- One bit of the reflected CRC-32. -/
def crc32Bit (r : Word32) : Word32 := if r.getLsbD 0 then (r >>> 1) ^^^ 0xEDB88320 else r >>> 1

/-- One byte into the CRC-32 register. -/
def crc32Byte (r : Word32) (b : Byte) : Word32 := Nat.iterate crc32Bit 8 (r ^^^ b.setWidth 32)

/-- The preset of R56. -/
def crc32Preset : Word32 := 0xFFFFFFFF

/-- The register read out: all 32 bits inverted (R56). -/
def crc32Result (r : Word32) : Word32 := ~~~r

/-- The CRC-32 of a list of bytes. -/
def crc32 (bytes : List Byte) : Word32 := crc32Result (bytes.foldl crc32Byte crc32Preset)

/-! Clock halves (R8). -/

/-- The MFM clock half of a byte: a transition where the data bit before and the cell's own are both 0; `last`
is the data bit before the byte. -/
def mfmClock (last : Bool) (v : Byte) : Byte :=
  ~~~(v ||| (v >>> 1) ||| (if last then 0x80 else 0))

/-- The clock half of a mark-prefix byte: A1 hex without the transition between its fifth and sixth data bits. -/
def markPrefixClock : Byte := 0x0A

/-- The value of a mark-prefix byte. -/
def markPrefixByte : Byte := 0xA1

/-- The clock half of an ordinary byte in FM. -/
def fmClock : Byte := 0xFF

/-- The clock half of the index mark in FM. -/
def fmIndexClock : Byte := 0xD7

/-- The clock half of the header and data marks in FM. -/
def fmMarkClock : Byte := 0xC7

/-- The clock half of an ordinary byte. -/
def ordinaryClock (e : Encoding) (last : Bool) (v : Byte) : Byte :=
  match e with
  | .fm => fmClock
  | .mfm => mfmClock last v

/-! Flux decoding (R134, entry 17). -/

/-- The share of each half-cell, in sixteenths on either side, outside which a transition is taken as the
neighbour's: none, one or two (100%, 87.5%, 75% accepted). -/
def Window.margin : Window → Nat
  | .full => 0
  | .w875 => 1
  | .w75 => 2

/-- The half-cell a transition is taken in, counted from 1 so that 0 lies in the byte before and 17 in the byte
after: its own when it lies in the accepted part, the neighbour on its side otherwise (R134). -/
def halfCell (w : Window) (t : BitVec 9) : Nat :=
  let cell := t.toNat / 16 + 1
  let place := t.toNat % 16
  if place < w.margin then cell - 1
  else if 16 - w.margin ≤ place then cell + 1
  else cell

/-- The bits of one byte's even or odd half-cells, most significant first. -/
def halfBits (cells : List Nat) (first : Nat) : Byte :=
  [0, 1, 2, 3, 4, 5, 6, 7].foldl
    (fun v i => (v <<< 1) ||| (if decide (first + 2 * i ∈ cells) then 1 else 0)) 0

/-- The clock half and the value of a byte read from its transitions, with one spilled over from the byte
before; and whether one of its own spills into the byte after (R134). An early transition of the half-cell
after the byte is taken in the byte's last half-cell, and an early one of its own first half-cell in the byte
before, whose READ_BACK_BYTE carried it too (entry 17). -/
def decodeFlux (w : Window) (spill : Bool) (flux : List (BitVec 9)) : Byte × Byte × Bool :=
  let cells := (if spill then [1] else []) ++ flux.map (halfCell w)
  (halfBits cells 1, halfBits cells 2, flux.any fun t => decide (t.toNat < 256) && decide (halfCell w t = 17))

/-! Serial numbers (R86, R95). -/

/-- The length in bytes of a serial on disk (R86). -/
def SerialEncoding.length : SerialEncoding → Nat
  | .ascii w => w
  | .binary => 4

/-- The serial maximum (R86). -/
def SerialEncoding.maximum : SerialEncoding → Nat
  | .ascii w => 10 ^ w - 1
  | .binary => 4294967295

/-- `w` decimal digits of a number, most significant first, as characters (R95). -/
def asciiDigits : Nat → Nat → List Byte
  | 0, _ => []
  | w + 1, v => byte (0x30 + v / 10 ^ w % 10) :: asciiDigits w v

/-- The patch bytes of a serial (R95). -/
def SerialEncoding.bytes : SerialEncoding → Nat → List Byte
  | .ascii w, v => asciiDigits w v
  | .binary, v => be 4 v

end Sys2Proof.Machine
end

