-- ==== Sys2Proof/Machine/Layout.lean ====
section
/-! DEFINITION. The layout arithmetic of chapter 1: field sizes (R9), speed window and capacity (R11), the
automatic gap (R12), the used length and fit (R13), placement (R15), header values (R16), plans (R23, R24)
and the order of a track's bytes (R9, R10). -/

namespace Sys2Proof.Machine

namespace Descriptor

/-- Sync bytes before a mark (R9). -/
def syncLen (d : Descriptor) : Nat := match d.encoding with | .mfm => 12 | .fm => 6

/-- Mark-prefix bytes before a mark (R9). -/
def prefixLen (d : Descriptor) : Nat := match d.encoding with | .mfm => 3 | .fm => 0

/-- The header gap (R9). -/
def headerGap (d : Descriptor) : Nat := match d.encoding with | .mfm => 22 | .fm => 11

/-- The index field when the descriptor has one, 0 otherwise (R12). -/
def indexLen (d : Descriptor) : Nat :=
  if d.indexField then (match d.encoding with | .mfm => 16 | .fm => 7) else 0

/-- F, the per-sector fixed part (R9). -/
def sectorFixed (d : Descriptor) : Nat := match d.encoding with | .mfm => 62 | .fm => 33

/-- S = 128 × 2^N, the sector size. -/
def sectorSize (d : Descriptor) : Nat := 128 * 2 ^ d.sizeCode

/-- A, the fixed part of a track (R12). -/
def fixedPart (d : Descriptor) : Nat := d.leadGap + d.indexLen + d.openingGap

/-- F + S + G, one sector with its gap (R13). -/
def sectorLen (d : Descriptor) : Nat := d.sectorFixed + d.sectorSize + d.sectorGap

/-- U, the used length (R13). -/
def used (d : Descriptor) : Nat := d.fixedPart + d.sectors * d.sectorLen

/-- The length of a DATA track's span, n × S (R44). -/
def spanLen (d : Descriptor) : Nat := d.sectors * d.sectorSize

/-- P0, the nominal period (R4). -/
def nominal (d : Descriptor) : Nat := if d.rpm = 300 then 200000 else 166666

/-- Pmin (R11). -/
def pmin (d : Descriptor) : Nat := d.nominal * (1000 - d.tolerance) / 1000

/-- Pmax (R11). -/
def pmax (d : Descriptor) : Nat := d.nominal * (1000 + d.tolerance) / 1000

/-- C(P), the capacity of one revolution (R11). -/
def capacity (d : Descriptor) (period : Nat) : Nat := period * d.rate / 8000

/-- Whether a period lies in the speed window (R11). -/
def inWindow (d : Descriptor) (period : Nat) : Bool := decide (d.pmin ≤ period) && decide (period ≤ d.pmax)

/-- Z, the closing gap for a period (R14). -/
def closing (d : Descriptor) (period : Nat) : Nat := d.capacity period - d.used

/-- The numerator of the automatic gap, a signed quantity (R12). -/
def gapNumerator (d : Descriptor) : Int :=
  (d.capacity d.pmin : Int) - d.fixedPart - d.sectors * (d.sectorFixed + d.sectorSize) - d.closingMin

/-- The automatic sector gap, or none where the definition is refused with TRACK_OVERFULL (R12). -/
def autoGap (d : Descriptor) : Option Nat :=
  if d.gapNumerator < d.sectors then none
  else some (min 255 (d.gapNumerator.toNat / d.sectors))

/-- The descriptor with its sector gap settled: the automatic one computed, an explicit one as given. -/
def settleGap (d : Descriptor) : Option Descriptor :=
  if d.gapComputed then d.autoGap.map fun g => { d with sectorGap := g } else some d

/-- The fit at definition: C(Pmin) − U is not less than Zmin (R13). -/
def fits (d : Descriptor) : Bool := decide (d.used + d.closingMin ≤ d.capacity d.pmin)

/-- The exception entry for a logical sector (R7). -/
def exceptionFor (d : Descriptor) (k : Nat) : Option SectorException :=
  d.exceptions.find? fun x => x.index == k

/-- The recorded sector number of a logical sector (R16). -/
def recordedSector (d : Descriptor) (k : Nat) : Byte :=
  ((d.exceptionFor k).bind (·.sector)).getD (byte (d.firstSector + k))

/-- Whether a logical sector's data mark is deleted (R16). -/
def recordedDeleted (d : Descriptor) (k : Nat) : Bool := ((d.exceptionFor k).map (·.deleted)).getD false

/-- The recorded cylinder (R16). -/
def recordedCylinder (d : Descriptor) (c : Nat) : Byte := d.cylOverride.getD (byte c)

/-- The recorded head (R16). -/
def recordedHead (d : Descriptor) (h : Nat) : Byte := d.headOverride.getD (byte h)

/-- The recorded size (R16). -/
def recordedSize (d : Descriptor) : Byte := d.sizeOverride.getD (byte d.sizeCode)

end Descriptor

/-- The first free slot at or after a candidate, each step advancing by one mod n (R15). The first argument
is fuel: n steps visit every slot. -/
def freeSlot (placed : List (Option Nat)) (n : Nat) : Nat → Nat → Nat
  | 0, cand => cand
  | fuel + 1, cand =>
    if (placed.getD cand none).isSome then freeSlot placed n fuel ((cand + 1) % n) else cand

/-- Places logical sectors k, k+1, … of a track of n slots, `left` of them, sector k at the first free slot
from a candidate (R15). -/
def placeFrom (n interleave : Nat) : Nat → Nat → Nat → List (Option Nat) → List (Option Nat)
  | 0, _, _, placed => placed
  | left + 1, k, cand, placed =>
    let slot := freeSlot placed n n cand
    placeFrom n interleave left (k + 1) ((slot + interleave) % n) (placed.set slot (some k))

/-- The slot list of a track: for each slot in physical order, the logical sector it holds (R15). -/
def Descriptor.placement (d : Descriptor) (c h : Nat) : List Nat :=
  (placeFrom d.sectors d.interleave d.sectors 0 ((c * d.cylSkew + h * d.headSkew) % d.sectors)
    (List.replicate d.sectors none)).map fun k => k.getD 0

/-- The serial patch of a logical sector, when the request's serial names it (R24, R95, R96). -/
def patchFor (r : PlanRequest) (k : Nat) : Option Patch :=
  match r.data, r.serial with
  | some _, some (number, spec) =>
    if spec.cylinder = r.cylinder ∧ spec.head = r.head ∧ spec.index = k then
      some { offset := spec.offset, bytes := spec.encoding.bytes number }
    else none
  | _, _ => none

/-- One slot of a plan: its header values and data mark (R16), data source and patch (R24). -/
def Descriptor.slotPlan (d : Descriptor) (r : PlanRequest) (k : Nat) : SlotPlan :=
  { index := k, cylinder := d.recordedCylinder r.cylinder, head := d.recordedHead r.head
    sector := d.recordedSector k, size := d.recordedSize, deleted := d.recordedDeleted k
    source :=
      match r.data with
      | some (_, span) => .image (span + k * d.sectorSize)
      | none => .fill d.dataFill
    patch := patchFor r k }

/-- The Track Plan of a request, built from a descriptor (R23). -/
def buildPlan (d : Descriptor) (r : PlanRequest) : TrackPlan :=
  { format := r.format, cylinder := r.cylinder, head := r.head, period := r.period
    capacity := d.capacity r.period, used := d.used, gap := d.sectorGap, closing := d.closing r.period
    slots := (d.placement r.cylinder r.head).map (d.slotPlan r)
    layout := d }

/-! The order of a track's bytes (R9). -/

/-- One byte of a track, by the part of the layout it belongs to (R9, R10). -/
inductive StreamItem where
  | gap | sync | markPrefix | indexMark
  | headerMark (slot : Nat)
  | headerByte (slot i : Nat)
  | headerCrc (slot i : Nat)
  | dataMark (slot : Nat)
  | dataByte (slot i : Nat)
  | dataCrc (slot i : Nat)
  deriving DecidableEq, Repr

/-- The item at an offset in a run of fields, each of a length; gap beyond them. -/
def locate : List (Nat × (Nat → StreamItem)) → Nat → StreamItem
  | [], _ => .gap
  | (len, item) :: rest, o => if o < len then item o else locate rest (o - len)

/-- The fixed part of a track: lead gap, index field, opening gap (R9). -/
def Descriptor.fixedFields (d : Descriptor) : List (Nat × (Nat → StreamItem)) :=
  [(d.leadGap, fun _ => .gap)]
    ++ (if d.indexField then
          [(d.syncLen, fun _ => .sync), (d.prefixLen, fun _ => .markPrefix), (1, fun _ => .indexMark)]
        else [])
    ++ [(d.openingGap, fun _ => .gap)]

/-- One sector: header field, header gap, data field, sector gap (R9). -/
def Descriptor.sectorFields (d : Descriptor) (slot : Nat) : List (Nat × (Nat → StreamItem)) :=
  [(d.syncLen, fun _ => .sync), (d.prefixLen, fun _ => .markPrefix), (1, fun _ => .headerMark slot),
   (4, .headerByte slot), (2, .headerCrc slot), (d.headerGap, fun _ => .gap),
   (d.syncLen, fun _ => .sync), (d.prefixLen, fun _ => .markPrefix), (1, fun _ => .dataMark slot),
   (d.sectorSize, .dataByte slot), (2, .dataCrc slot), (d.sectorGap, fun _ => .gap)]

/-- The item at a byte position counted from the index edge (R9); gap once the last sector gap is past. -/
def Descriptor.itemAt (d : Descriptor) (position : Nat) : StreamItem :=
  if position < d.fixedPart then locate d.fixedFields position
  else
    let q := position - d.fixedPart
    if q / d.sectorLen < d.sectors then locate (d.sectorFields (q / d.sectorLen)) (q % d.sectorLen)
    else .gap

/-- Hj, the planned position of a slot's header field (R133). -/
def Descriptor.headerAt (d : Descriptor) (slot : Nat) : Nat := d.fixedPart + slot * d.sectorLen

end Sys2Proof.Machine
end

