-- ==== Sys2Proof/Machine/Operands.lean ====
section
/-! DEFINITION. The operand forms: how each request's payload is read (sections 11.1, 11.3, 11.4) with the value
checks of its rule, and the codes of the enumerations (section 11.2). A reader answers none where R187 refuses
with BAD_VALUE. -/

namespace Sys2Proof.Machine

/-! Codes of the enumerations (sections 11.1 and 11.2). -/

/-- The value of a status code (section 11.1). -/
def Status.code : Status → Byte
  | .ok => 0x00 | .noReply => 0x01 | .shortFrame => 0x02 | .unknownRequest => 0x03 | .badLength => 0x04
  | .badValue => 0x05 | .noFormat => 0x06 | .formatInUse => 0x07 | .trackOverfull => 0x08
  | .slotBusy => 0x09 | .noImage => 0x0A | .notLoader => 0x0B | .wrongImageState => 0x0C | .noRoom => 0x0D
  | .noTrack => 0x0E | .trackDefined => 0x0F | .imageInUse => 0x10 | .imageNotReady => 0x11
  | .jobExists => 0x12 | .noJob => 0x13 | .queueFull => 0x14 | .wrongJobState => 0x15 | .jobBusy => 0x16
  | .driveBusy => 0x17 | .wrongState => 0x18 | .serialPlace => 0x19

/-- The status of a frame error (R175). -/
def frameStatus : FrameError → Status
  | .shortFrame => .shortFrame
  | .badLength => .badLength
  | .unknownRequest => .unknownRequest

def Encoding.code : Encoding → Byte
  | .fm => 0 | .mfm => 1

def Encoding.ofCode : Nat → Option Encoding
  | 0 => some .fm
  | 1 => some .mfm
  | _ => none

def TrackEntry.code : TrackEntry → Byte
  | .skip => 0 | .data _ _ _ => 1 | .formatOnly _ => 2 | .erase => 3

def ImageState.code : ImageState → Byte
  | .free => 0 | .clearing => 1 | .loading => 2 | .checking => 3 | .ready => 4 | .bad => 5

def JobState.code : JobState → Byte
  | .queued => 0 | .running => 1 | .draining => 2 | .done => 3 | .cancelled => 4

def endCauseCode : Option EndCause → Byte
  | none => 0 | some .targetMet => 1 | some .serialsExhausted => 2 | some .stopped => 3 | some .cancelled => 4

def ChannelState.code : ChannelState → Byte
  | .disabled => 0 | .empty => 1 | .loaded => 2 | .spinup => 3 | .recal => 4 | .producing => 5 | .paused => 6
  | .posting => 7 | .unloading => 8 | .fault => 9

def phaseCode : Option Phase → Byte
  | none => 0 | some .plan => 1 | some .seek => 2 | some .settle => 3 | some .write => 4 | some .verify => 5

def faultCode : Option DriveFault → Byte
  | none => 0 | some .speed => 1 | some .noIndex => 2 | some .noTrack0 => 3 | some .failStreak => 4

def DiskOutcome.code : DiskOutcome → Byte
  | .pass => 0 | .passSoft => 1 | .fail => 2 | .aborted => 3

def Bin.code : Bin → Byte
  | .none => 0 | .accept => 1 | .reject => 2 | .hold => 3

def Window.code : Window → Byte
  | .full => 0 | .w875 => 1 | .w75 => 2

def Window.ofCode : Nat → Option Window
  | 0 => some .full
  | 1 => some .w875
  | 2 => some .w75
  | _ => none

def Cause.code : Cause → Byte
  | .recovered => 0x01 | .marginalAccepted => 0x02 | .missing => 0x03 | .headerMismatch => 0x04
  | .headerCrc => 0x05 | .markMismatch => 0x06 | .dataCrc => 0x07 | .dataMismatch => 0x08 | .underrun => 0x09
  | .overrun => 0x0A | .writeProtected => 0x0B | .cancelled => 0x0C | .diskPulled => 0x0D
  | .driveReset => 0x0E | .speed => 0x0F | .noIndex => 0x10 | .noTrack0 => 0x11

def EventKind.code : EventKind → Byte
  | .imageReady => 1 | .imageBad => 2 | .jobEnded => 3 | .resultsWaiting => 4 | .driveFault => 5
  | .lineChanged => 6 | .resultsDropped => 7

def EventKind.ofCode : Nat → Option EventKind
  | 1 => some .imageReady
  | 2 => some .imageBad
  | 3 => some .jobEnded
  | 4 => some .resultsWaiting
  | 5 => some .driveFault
  | 6 => some .lineChanged
  | 7 => some .resultsDropped
  | _ => none

/-! Event sets (section 11.2). -/

/-- An event set as 8 bytes: the count, the codes in ascending order, zeros. -/
def eventBytes (set : List EventKind) : List Byte :=
  let codes := (allEvents.filter fun e => decide (e ∈ set)).map EventKind.code
  byte codes.length :: codes ++ List.replicate (7 - codes.length) 0

/-- The kinds of code bytes; none when a byte is no kind's code. -/
def eventCodes : List Byte → Option (List EventKind)
  | [] => some []
  | b :: rest =>
    match EventKind.ofCode b.toNat, eventCodes rest with
    | some e, some set => some (addEvent set e)
    | _, _ => none

/-- The set a SET EVENT MASK carries (R183). -/
def readEventSet (payload : List Byte) : Option (List EventKind) :=
  if num payload 0 1 ≤ 7 then eventCodes ((payload.drop 1).take (num payload 0 1)) else none

/-! Format descriptors (section 11.3). -/

/-- Whether a byte names an FM or MFM data rate of R4. -/
def rateAllowed (e : Encoding) (rate : Nat) : Bool :=
  match e with
  | .fm => rate == 125 || rate == 250
  | .mfm => rate == 250 || rate == 300 || rate == 500 || rate == 1000

/-- The exception entry in the three bytes at `i`; none for an undefined parts bit (R187). -/
def readException (payload : List Byte) (i : Nat) : Option SectorException :=
  let parts := num payload (i + 1) 1
  if parts < 4 then
    some { index := num payload i 1
           sector := if parts.testBit 0 then some (payload.getD (i + 2) 0) else none
           deleted := parts.testBit 1 }
  else none

/-- The first `e` exception entries from byte `i`, in the order given. -/
def readExceptions (payload : List Byte) : Nat → Nat → Option (List SectorException)
  | _, 0 => some []
  | i, e + 1 =>
    match readException payload i, readExceptions payload (i + 3) e with
    | some x, some rest => some (x :: rest)
    | _, _ => none

/-- Inserts an exception entry in ascending order of its logical index (R7). -/
def insertException (x : SectorException) : List SectorException → List SectorException
  | [] => [x]
  | y :: rest => if x.index ≤ y.index then x :: y :: rest else y :: insertException x rest

/-- The checks of R7: every index below n, none named twice. -/
def exceptionsAllowed (n : Nat) (xs : List SectorException) : Bool :=
  xs.all (fun x => decide (x.index < n)) && decide ((xs.map (·.index)).Nodup)

/-- The value checks of R4 to R7 on a descriptor as given, speed tolerance apart (R4 clamps it). -/
def Descriptor.allowed (d : Descriptor) : Bool :=
  rateAllowed d.encoding d.rate
    && (d.rpm == 300 || d.rpm == 360)
    && decide (1 ≤ d.sectors) && decide (d.sectors ≤ 40) && decide (d.sizeCode ≤ 6)
    && decide (d.firstSector + d.sectors - 1 ≤ 255)
    && (if d.sectors = 1 then d.interleave == 1
        else decide (1 ≤ d.interleave) && decide (d.interleave ≤ d.sectors - 1))
    && decide (d.cylSkew < d.sectors) && decide (d.headSkew < d.sectors)
    && decide (1 ≤ d.closingMin)
    && (d.stepMultiplier == 1 || d.stepMultiplier == 2)
    && exceptionsAllowed d.sectors d.exceptions

/-- The field of a given flag: the byte as given, or the default (R3). -/
def givenField (payload : List Byte) (bit deflt : Nat) : Nat :=
  if (num payload 8 2).testBit bit then num payload (10 + bit) 1 else deflt

/-- The override of a given flag: absent when not given (R3). -/
def givenOverride (payload : List Byte) (bit : Nat) : Option Byte :=
  if (num payload 8 2).testBit bit then some (payload.getD (10 + bit) 0) else none

/-- The descriptor a DEFINE FORMAT payload gives, with defaults filled in and T clamped, before any check of
the values (R3, R4). An automatic sector gap is marked by gapComputed. -/
def givenDescriptor (payload : List Byte) (e : Encoding) (xs : List SectorException) : Descriptor :=
  let mfm := decide (e = .mfm)
  { encoding := e, rate := num payload 2 2, rpm := num payload 4 2
    tolerance := clamp 5 50 (givenField payload 0 25)
    sectors := num payload 6 1, sizeCode := num payload 7 1
    firstSector := givenField payload 1 1, interleave := givenField payload 2 1
    cylSkew := givenField payload 3 0, headSkew := givenField payload 4 0
    leadGap := givenField payload 5 (if mfm then 80 else 40)
    indexField := givenField payload 6 1 == 1
    openingGap := givenField payload 7 (if mfm then 50 else 26)
    sectorGap := givenField payload 8 0, gapComputed := givenField payload 8 0 == 0
    closingMin := givenField payload 9 16
    gapFill := byte (givenField payload 10 (if mfm then 0x4E else 0xFF))
    dataFill := byte (givenField payload 11 0xE5)
    stepMultiplier := givenField payload 12 1
    cylOverride := givenOverride payload 13, headOverride := givenOverride payload 14
    sizeOverride := givenOverride payload 15
    exceptions := xs.foldr insertException [] }

/-- A DEFINE FORMAT payload after the value checks of R3 to R7 and R187: its format number and descriptor,
the automatic gap not yet computed. -/
def readDescriptor (payload : List Byte) : Option (FormatId × Descriptor) :=
  match finOf? 16 (num payload 0 1), Encoding.ofCode (num payload 1 1),
      readExceptions payload 27 (num payload 26 1) with
  | some f, some e, some xs =>
    let d := givenDescriptor payload e xs
    if num payload 26 1 ≤ 8 ∧ payload.length = 27 + 3 * num payload 26 1
        ∧ givenField payload 6 1 ≤ 1 ∧ d.allowed then some (f, d)
    else none
  | _, _, _ => none

/-- One exception entry as READ FORMAT shows it. -/
def exceptionBytes (x : SectorException) : List Byte :=
  [byte x.index, byte ((if x.sector.isSome then 1 else 0) + (if x.deleted then 2 else 0)), x.sector.getD 0]

/-- The descriptor layout of section 11.3 for a stored descriptor: every given flag set, except those of
absent overrides. -/
def Descriptor.bytes (d : Descriptor) (f : FormatId) : List Byte :=
  let flags := 0x1FFF + (if d.cylOverride.isSome then 0x2000 else 0)
    + (if d.headOverride.isSome then 0x4000 else 0) + (if d.sizeOverride.isSome then 0x8000 else 0)
  [byte f.val, d.encoding.code] ++ be 2 d.rate ++ be 2 d.rpm ++ [byte d.sectors, byte d.sizeCode]
    ++ be 2 flags
    ++ [byte d.tolerance, byte d.firstSector, byte d.interleave, byte d.cylSkew, byte d.headSkew,
        byte d.leadGap, flagByte d.indexField, byte d.openingGap, byte d.sectorGap, byte d.closingMin,
        d.gapFill, d.dataFill, byte d.stepMultiplier, d.cylOverride.getD 0, d.headOverride.getD 0,
        d.sizeOverride.getD 0, byte d.exceptions.length]
    ++ d.exceptions.flatMap exceptionBytes

/-! Job definitions (section 11.4). -/

/-- The encoding and width bytes of a serial specification (R86). -/
def readSerialEncoding (code width : Nat) : Option SerialEncoding :=
  match code with
  | 0 => if 4 ≤ width ∧ width ≤ 9 then some (.ascii width) else none
  | 1 => if width = 0 then some .binary else none
  | _ => none

/-- The serial specification in bytes 8 to 19 of a DEFINE JOB (R86). -/
def readSerialSpec (payload : List Byte) : Option SerialSpec :=
  match readSerialEncoding (num payload 13 1) (num payload 14 1) with
  | none => none
  | some e =>
    if num payload 8 1 ≤ 83 ∧ num payload 9 1 ≤ 1 ∧ num payload 10 1 ≤ 39 ∧ num payload 11 2 ≤ 8191
        ∧ 1 ≤ num payload 19 1 then
      some { cylinder := num payload 8 1, head := num payload 9 1, index := num payload 10 1
             offset := num payload 11 2, encoding := e, start := num payload 15 4, step := num payload 19 1 }
    else none

/-- The twelve bytes of a serial specification (section 11.4). -/
def SerialSpec.bytes (s : SerialSpec) : List Byte :=
  [byte s.cylinder, byte s.head, byte s.index] ++ be 2 s.offset
    ++ (match s.encoding with
        | .ascii w => [0, byte w]
        | .binary => [1, 0])
    ++ be 4 s.start ++ [byte s.step]

/-- The serial specification of a DEFINE JOB: absent at length 8, present at length 20 (R188). The outer none
is BAD_VALUE. -/
def readSerialPart (payload : List Byte) : Option (Option SerialSpec) :=
  if payload.length = 20 then (readSerialSpec payload).map some else some none

/-- A new job record from a DEFINE JOB payload, after the value checks of R66 step 1 (R65, R67). -/
def readJobDefinition (p : PortId) (payload : List Byte) : Option Job :=
  match finOf? 8 (num payload 1 1), Window.ofCode (num payload 6 1), readSerialPart payload with
  | some slot, some window, some serial =>
    if 1 ≤ num payload 0 1 ∧ num payload 4 1 ≠ 0 ∧ num payload 5 1 ≤ 16 ∧ num payload 7 1 ≤ 7 then
      some { id := num payload 0 1, slot := slot, target := num payload 2 2, drives := payload.getD 4 0
             verifyEvery := num payload 5 1, window := window, retryLimit := num payload 7 1
             serial := serial.map fun sp => { spec := sp, next := sp.start, reclaim := [] }
             origin := p, state := .queued, endCause := none, issued := 0, passed := 0, failed := 0
             aborted := 0, inFlight := 0 }
    else none
  | _, _, _ => none

/-! Drive settings (R100). -/

/-- One setting of a SET DRIVE: the byte clamped when its given flag is set, the stored value otherwise. -/
def givenSetting (payload : List Byte) (bit low high old : Nat) : Nat :=
  if (num payload 1 1).testBit bit then clamp low high (num payload (2 + bit) 1) else old

/-- The settings after a SET DRIVE (R100). -/
def Settings.given (old : Settings) (payload : List Byte) : Settings :=
  { stepPeriod := givenSetting payload 0 1 32 old.stepPeriod
    settleTime := givenSetting payload 1 0 63 old.settleTime
    heads := givenSetting payload 2 1 2 old.heads
    cylinderLimit := givenSetting payload 3 40 84 old.cylinderLimit
    spinupUnits := givenSetting payload 4 20 255 old.spinupUnits
    failStreakLimit := givenSetting payload 5 0 15 old.failStreakLimit }

/-- The six settings as they travel (R100, R188). -/
def Settings.bytes (x : Settings) : List Byte :=
  [byte x.stepPeriod, byte x.settleTime, byte x.heads, byte x.cylinderLimit, byte x.spinupUnits,
   byte x.failStreakLimit]

/-- The channel a drive request names; none for BAD_VALUE. -/
def readChannel (payload : List Byte) : Option Chan := finOf? 8 (num payload 0 1)

end Sys2Proof.Machine
end

