-- ==== Sys2Proof/Machine/Flags.lean ====
section
/-! DEFINITION. The flag bytes of replies (sections 11.1, 11.3, 11.5), each computed from the state it shows, and
the derived measures of a channel that they show: mean period and at speed (R105). -/

namespace Sys2Proof.Machine

/-- A byte from its flag bits, bit 0 first. -/
def flagBits : List Bool → Nat
  | [] => 0
  | b :: rest => (if b then 1 else 0) + 2 * flagBits rest

/-! Bins (R167). -/

/-- BIN1 for a bin. -/
def Bin.line1 : Bin → Bool
  | .none => false | .accept => false | .reject => true | .hold => true

/-- BIN0 for a bin. -/
def Bin.line0 : Bin → Bool
  | .none => false | .accept => true | .reject => false | .hold => true

/-! Speed (R105). -/

/-- The mean period: floor of the sum of four intervals divided by 4; none with fewer (R105). -/
def Channel.meanPeriod (x : Channel) : Option Nat :=
  if x.intervals.length = 4 then some ((x.intervals.map BitVec.toNat).sum / 4) else none

/-- The bounds of the open window (R105). -/
def openWindow (period : Nat) : Bool := decide (158332 ≤ period) && decide (period ≤ 210000)

/-- The formats a track map entry names (R44). -/
def TrackEntry.format? : TrackEntry → Option FormatId
  | .data f _ _ => some f
  | .formatOnly f => some f
  | .skip => none
  | .erase => none

/-- The window of an entry's format; the open window where it names none (R105, R124). -/
def entryWindow (b : Base) (e : Option FormatId) (period : Nat) : Bool :=
  match e.bind fun f => b.format f with
  | some d => d.inWindow period
  | none => openWindow period

/-- The place of a track in track order (R44). -/
def ImageSlot.trackIndex (im : ImageSlot) (c h : Nat) : Nat :=
  match im.opening with
  | some o => c * o.heads + h
  | none => 0

/-- The entry of a track; none outside the track map. -/
def ImageSlot.entry (im : ImageSlot) (c h : Nat) : Option TrackEntry :=
  match im.opening with
  | some o => if c < o.cylinders ∧ h < o.heads then im.trackMap[c * o.heads + h]? else none
  | none => none

/-- The reference format of a channel: the first DATA or FORMAT-ONLY entry of its disk's image at or after its
current track (R105); none when no such entry remains or no disk is held. In SPINUP the current track is the
position R105 gives. In RECAL, PRODUCING, PAUSED and POSTING, where R105 gives none for the at-speed flag of
READ DRIVE, taking the current track is the model's choice (entry 35, DESIGN CHOICE). -/
def referenceFormat (b : Base) (x : Channel) : Option FormatId :=
  match x.disk with
  | none => none
  | some k =>
    let im := b.image k.slot
    (im.trackMap.drop (im.trackIndex k.cylinder k.head)).findSome? TrackEntry.format?

/-- At speed: four intervals, each in the reference window (R105). -/
def Channel.atSpeed (b : Base) (x : Channel) : Bool :=
  x.intervals.length == 4 && x.intervals.all fun i => entryWindow b (referenceFormat b x) i.toNat

/-! Flag bytes. -/

/-- The line flags of READ LINE (R173, section 11.1). -/
def Floor.lineFlags (f : Floor) : Byte :=
  byte (flagBits [f.lineHeld, f.portA.lineHold, f.portB.lineHold, f.line.internal, !f.partPulls,
    !f.partPulls && f.lineHeld])

/-- A drive byte of READ LINE (R173, section 11.1). -/
def DriveLines.flags (d : DriveLines) : Byte :=
  byte (flagBits [d.seated, d.debounce.isSome, d.release, d.bin0, d.bin1])

/-- The flags of a result record's byte 7, also the drive report's disk flags (section 11.5). -/
def diskFlags (serial verified : Bool) (cap : Capture) : Byte :=
  byte (flagBits [serial, verified, cap.held.isSome, (cap.held.bind (·.sector)).isSome, cap.second,
    (cap.held.map (·.hard)).getD false])

/-- Whether the channel waits in the ring's waiter list (R122, R157). -/
def Floor.waitsForRing (f : Floor) (c : Chan) : Bool := decide (c ∈ f.ring.waiters)

/-- The drive flags of READ DRIVE (R122, section 11.5). -/
def driveFlags (b : Base) (f : Floor) (c : Chan) : Byte :=
  let x := f.chan c
  byte (flagBits [x.resuming, x.frozen, x.removed, x.disk.isSome,
    decide (x.state = .fault) && x.fault.isSome, x.atSpeed b, f.waitsForRing c, x.cylinder.isNone])

/-- The line levels of READ DRIVE (R122, section 11.5). -/
def driveLevels (b : Base) (f : Floor) (c : Chan) : Byte :=
  let x := f.chan c
  byte (flagBits [(f.drive c).seated, b.wprot.getLsbD c.val, b.trk0.getLsbD c.val, x.motor, x.side, x.wgate,
    (f.drive c).release])

/-- The ring flags of READ RING (R162, section 11.1). -/
def Floor.ringFlags (f : Floor) : Byte :=
  byte (flagBits [!f.ring.records.isEmpty, f.portA.follow, f.portB.follow])

/-- The check flags of the image report (section 11.5). -/
def ImageSlot.checkFlags (im : ImageSlot) : Byte := byte (flagBits [im.expected.isSome, im.computed.isSome])

/-! Capture records (R144, R145). -/

/-- The capture record after a soft or hard event (R144). -/
def Capture.take (cap : Capture) (e : CaptureEvent) : Capture :=
  match cap.held with
  | none => { held := some e, second := cap.second }
  | some old =>
    if e.hard && !old.hard then { held := some e, second := true } else { held := some old, second := true }

/-- The capture bytes of a report: cause, logical cylinder, head, sector (section 11.5). -/
def Capture.bytes (cap : Capture) : List Byte :=
  match cap.held with
  | none => [0, 0, 0, 0]
  | some e => [e.cause.code, byte e.cylinder, byte e.head, e.sector.getD 0]

/-- A result record's 22 bytes (section 11.5). -/
def ResultRecord.bytes (r : ResultRecord) : List Byte :=
  be 4 r.sequence.toNat
    ++ [byte r.body.jobId, byte r.body.drive.val, r.body.outcome.code,
        diskFlags r.body.serial.isSome r.body.verified r.body.capture]
    ++ be 4 (r.body.serial.getD 0) ++ r.body.capture.bytes ++ [byte r.body.softCount]
    ++ be 2 r.body.totalRetries ++ [byte r.body.tracksWritten] ++ be 2 r.elapsed

end Sys2Proof.Machine
end

