-- ==== Sys2Proof/Machine/Jobs.lean ====
section
/-! DEFINITION. The Job Queue's arithmetic (chapters 4 and 5): issuable jobs, issue and return of serials,
accounting and the end of a job. -/

namespace Sys2Proof.Machine

/-- The largest issued count (R65, R75). -/
def maxIssued : Nat := 4294967295

/-- Whether a job has a number to issue, or needs none (R75, R93). -/
def Job.hasSerial (j : Job) : Bool :=
  match j.serial with
  | none => true
  | some st => !st.reclaim.isEmpty || decide (st.next ≤ st.spec.encoding.maximum)

/-- Whether a job is issuable (R75). -/
def Job.issuable (j : Job) : Bool :=
  decide (j.state = .running)
    && (j.target == 0 || decide (j.passed + j.inFlight < j.target))
    && j.hasSerial
    && decide (j.issued < maxIssued)

/-- The step multiplier of the format a track map entry names; 1 when it names none. -/
def Base.multiplier (b : Base) (e : TrackEntry) : Nat :=
  match e.format?.bind b.format with
  | some d => d.stepMultiplier
  | none => 1

/-- M, the largest step multiplier among the formats an image names, or 1 (R77). -/
def Base.maxMultiplier (b : Base) (im : ImageSlot) : Nat :=
  im.trackMap.foldl (fun m e => max m (b.multiplier e)) 1

/-- Whether a drive with these settings can carry an image (R77). -/
def canCarry (b : Base) (x : Settings) (im : ImageSlot) : Bool :=
  match im.opening with
  | some o => decide (o.heads ≤ x.heads) && decide (o.cylinders * b.maxMultiplier im ≤ x.cylinderLimit)
  | none => false

/-- Whether a channel that may be assigned matches a job (R77). -/
def Job.takes (b : Base) (x : Settings) (c : Chan) (j : Job) : Bool :=
  j.issuable && j.drives.getLsbD c.val && canCarry b x (b.image j.slot)

/-- The number drawn for a disk: the smallest reclaimed, or next (R89). -/
def SerialState.draw (st : SerialState) : Nat × SerialState :=
  match st.reclaim with
  | r :: rest => (r, { st with reclaim := rest })
  | [] => (st.next, { st with next := st.next + st.spec.step })

/-- Whether the disk about to be issued is verified (R81): the count after the rise, less one, is the count
before it. -/
def Job.verifiesNext (j : Job) : Bool := j.verifyEvery != 0 && j.issued % j.verifyEvery == 0

/-- The job after issuing a disk (R80, R89). -/
def Job.afterIssue (j : Job) : Job :=
  { j with
    issued := j.issued + 1, inFlight := j.inFlight + 1
    serial := j.serial.map fun st => st.draw.2 }

/-- The number a disk issued now would carry, with the job's specification (R80, R89). -/
def Job.drawn (j : Job) : Option (Nat × SerialSpec) := j.serial.map fun st => (st.draw.1, st.spec)

/-- Inserts a number into a reclaim list at its place in ascending order (R90). -/
def insertSerial (v : Nat) : List Nat → List Nat
  | [] => [v]
  | w :: rest => if v < w then v :: w :: rest else w :: insertSerial v rest

/-- The serial state after a disk of the job posts (R90): FAIL and ABORTED return the number. -/
def SerialState.settle (st : SerialState) (outcome : DiskOutcome) (number : Option Nat) : SerialState :=
  match outcome, number with
  | .fail, some v => { st with reclaim := insertSerial v st.reclaim }
  | .aborted, some v => { st with reclaim := insertSerial v st.reclaim }
  | _, _ => st

/-- The accounting of a posted result (R83). -/
def Job.account (j : Job) (outcome : DiskOutcome) (number : Option Nat) : Job :=
  { j with
    inFlight := j.inFlight - 1
    passed := match outcome with | .pass => j.passed + 1 | .passSoft => j.passed + 1 | _ => j.passed
    failed := match outcome with | .fail => j.failed + 1 | _ => j.failed
    aborted := match outcome with | .aborted => j.aborted + 1 | _ => j.aborted
    serial := j.serial.map fun st => st.settle outcome number }

/-- Whether a serialised job has no number left and none held for reissue (R84). -/
def Job.spent (j : Job) : Bool := !j.hasSerial

/-- Why a job whose posting has been accounted ends, if it does (R84). -/
def Job.endsBy (j : Job) : Option EndCause :=
  match j.state with
  | .running | .draining =>
    if j.inFlight ≠ 0 then none
    else if j.target ≠ 0 ∧ j.passed = j.target then some .targetMet
    else if j.spent then some .serialsExhausted
    else if j.state = .draining then some .stopped
    else none
  | .queued | .done | .cancelled => none

/-- The job after the test of R84. -/
def Job.afterEndTest (j : Job) : Job :=
  match j.endsBy with
  | some cause => { j with state := .done, endCause := some cause }
  | none => j

/-- The job of an id, if the queue holds one (R68). -/
def Floor.job (f : Floor) (id : Nat) : Option Job := f.jobs.find? fun j => j.id == id

/-- Replaces the record with a job's id. -/
def Floor.putJob (f : Floor) (j : Job) : Floor :=
  { f with jobs := f.jobs.map fun k => if k.id == j.id then j else k }

end Sys2Proof.Machine
end

