-- ==== Sys2Proof/Machine/Production.lean ====
section
/-! DEFINITION. The shared operations of a disk's life: entering channel states (R108, R110, R117, R118, R120),
events of the capture record (R144, R145), aborts (R115), the Result Ring (R150 to R159), assignment (R76 to
R80, R109) and the line (R169, R170); and `settle`, which carries out within one step what the step has made
due (entry 21). -/

namespace Sys2Proof.Machine

/-! Channel states. -/

/-- The timers a channel stops when it leaves SPINUP, RECAL or PRODUCING (R101). The pulse timer is left to
end a STEP pulse already begun (R102, R115, entry 8). -/
def Channel.stopTimers (x : Channel) : Channel :=
  { x with stepTimer := none, settleTimer := none, spinupTimer := none, watchdog := none, seekTarget := none }

/-- A channel enters LOADED: it joins the back of the waiting list and an evaluation follows (R76, R79). -/
def Floor.enterLoaded (f : Floor) (c : Chan) : Floor :=
  { f.modChan c (fun x => { x with state := .loaded }) with waiting := f.waiting ++ [c], evalDue := true }

/-- A channel leaves LOADED: it leaves the waiting list (R76). -/
def Floor.leaveWaiting (f : Floor) (c : Chan) : Floor :=
  { f with waiting := f.waiting.filter fun d => decide (d ≠ c) }

/-- A channel enters SPINUP (R110): MOTOR on, the index history emptied, the spin-up timer loaded. -/
def Channel.startSpinup (x : Channel) (resuming : Bool) : Channel :=
  { x with
    state := .spinup, phase := none, resuming := resuming, motor := true, lastStamp := none
    intervals := [], spinupTimer := some (x.settings.spinupUnits * 10000) }

/-- A channel enters FAULT: the pending fault stands, all drive outputs are inactive, DRIVE_FAULT is posted to
both ports (R120). -/
def Floor.enterFault (f : Floor) (c : Chan) : Floor :=
  (f.modChan c fun x => { x with
    state := .fault, motor := false, dir := false, stepOut := false, side := false, wgate := false
    wdata := none }).post .driveFault

/-! The capture record. -/

/-- A soft or hard event at the disk's current track: the capture record by R144, the soft count by R145. -/
def Disk.takeEvent (k : Disk) (hard : Bool) (cause : Cause) (sector : Option Byte) : Disk :=
  { k with
    capture := k.capture.take { hard := hard, cause := cause, cylinder := k.cylinder, head := k.head, sector := sector }
    softCount := if hard then k.softCount else satAdd 255 k.softCount 1 }

/-! Posting. -/

/-- The result record of a disk, all but the sequence number and the elapsed time (R148, R149). -/
def Disk.body (k : Disk) (c : Chan) (outcome : DiskOutcome) : RecordBody :=
  { jobId := k.jobId, drive := c, outcome := outcome, serial := k.serial.map (·.1), verified := k.verified
    capture := k.capture, softCount := k.softCount, totalRetries := k.totalRetries
    tracksWritten := k.tracksWritten }

/-- A channel in POSTING: timers stopped, MOTOR, SIDE and WGATE inactive, its work on the disk discarded, its
record complete (R98, R117, R149). -/
def Channel.toPosting (x : Channel) (c : Chan) (outcome : DiskOutcome) : Channel :=
  { x.stopTimers with
    state := .posting, phase := none, resuming := false, motor := false, side := false, wgate := false
    wdata := none, recalSteps := 0, attempt := Attempt.none, buffer := [], fetch := []
    record := x.disk.map fun k => k.body c outcome }

/-- A channel enters POSTING with its disk's outcome; its record is to be offered to the ring (R117, R152). -/
def Floor.enterPosting (f : Floor) (c : Chan) (outcome : DiskOutcome) : Floor :=
  let g := (f.modChan c fun x => x.toPosting c outcome).orphanBurst (BurstWork.isFetchOf c)
  { g with offers := g.offers ++ [c] }

/-- An aborted channel's request is withdrawn from the Layout Engine's queue, or the plan in building is to be
discarded (R25). -/
def LayoutEngine.withdraw (e : LayoutEngine) (c : Chan) : LayoutEngine :=
  { queue := e.queue.filter fun r => decide (r.channel ≠ c)
    building := e.building.map fun b => if b.request.channel = c then { b with discarded := true } else b }

/-- The drive fault an abort's cause leaves pending, none for a cause that is not the drive's (R115). -/
def Cause.fault? : Cause → Option DriveFault
  | .speed => some .speed
  | .noIndex => some .noIndex
  | .noTrack0 => some .noTrack0
  | _ => none

/-- The marks an abort's cause leaves on the channel: the hard event, the pending fault of a drive fault, the
removed flag of DISK_PULLED (R115 steps 5 and 6). -/
def Channel.markAbort (x : Channel) (cause : Cause) : Channel :=
  { x with
    disk := x.disk.map fun k => k.takeEvent true cause none
    fault := match cause.fault? with | some v => some v | none => x.fault
    removed := x.removed || decide (cause = .diskPulled) }

/-- An abort of the channel's disk, in one step (R115). Nothing happens in a state that has no disk to abort. -/
def Floor.abortDisk (f : Floor) (c : Chan) (cause : Cause) : Floor :=
  if (f.chan c).abortable then
    ({ f.modChan c (fun x => x.markAbort cause) with engine := f.engine.withdraw c }).enterPosting c .aborted
  else f

/-! The Result Ring. -/

/-- The number of records the ring can hold (R150). -/
def ringSize : Nat := 64

/-- The oldest held sequence number: the write position when the ring is empty (R150). -/
def Ring.oldest (r : Ring) : Word32 :=
  match r.records with
  | x :: _ => x.sequence
  | [] => r.writePos

/-- Whether any port follows the ring (R151). -/
def Floor.followed (f : Floor) : Bool := f.portA.follow || f.portB.follow

/-- A non-following cursor that lies before the new oldest number, by distance forward from the old one, is
moved up to it (R156). -/
def PortContext.moveUp (x : PortContext) (old new : Word32) : PortContext :=
  if !x.follow && decide ((x.resultCursor - old).toNat < (new - old).toNat) then { x with resultCursor := new }
  else x

/-- The ring with the given records left, and the non-following cursors moved up (R156). -/
def Floor.keepRecords (f : Floor) (records : List ResultRecord) : Floor :=
  let ring := { f.ring with records := records }
  { f with
    ring := ring
    portA := f.portA.moveUp f.ring.oldest ring.oldest
    portB := f.portB.moveUp f.ring.oldest ring.oldest }

/-- Displacement of the oldest record (R154): the dropped count rises, RESULTS_DROPPED is posted. -/
def Floor.displace (f : Floor) : Floor :=
  let g := (f.keepRecords f.ring.records.tail).post .resultsDropped
  { g with ring := { g.ring with dropped := satAdd 65535 g.ring.dropped 1 } }

/-- Whether every following port's cursor is past a record that is the oldest (R150, R155). -/
def Floor.pastByAll (f : Floor) (r : ResultRecord) : Bool :=
  (!f.portA.follow || decide (f.portA.resultCursor ≠ r.sequence))
    && (!f.portB.follow || decide (f.portB.resultCursor ≠ r.sequence))

/-- The freeing test (R155): with a follower, the oldest record is removed while every follower is past it. -/
def Floor.freeRecords (f : Floor) : Floor :=
  if f.followed then f.keepRecords (f.ring.records.dropWhile f.pastByAll) else f

/-- The consecutive fail count after an outcome (R119). -/
def failCountAfter (outcome : DiskOutcome) (count : Nat) : Nat :=
  match outcome with
  | .fail => satAdd 255 count 1
  | .pass => 0
  | .passSoft => 0
  | .aborted => count

/-- The fault pending after an outcome: FAIL_STREAK when a FAIL brings the count to the limit and no fault is
pending (R119, entry 9). -/
def faultAfter (x : Channel) (outcome : DiskOutcome) : Option DriveFault :=
  match x.fault, outcome with
  | some v, _ => some v
  | none, .fail =>
    if x.settings.failStreakLimit ≠ 0 ∧ x.settings.failStreakLimit ≤ failCountAfter .fail x.failCount then
      some .failStreak
    else none
  | none, _ => none

/-- The bin of an outcome (R117). -/
def DiskOutcome.bin : DiskOutcome → Bin
  | .pass => .accept
  | .passSoft => .accept
  | .fail => .reject
  | .aborted => .hold

/-- The channel as the ring takes its record: fail streak, bin, per-disk fields cleared (R117, R119). -/
def Channel.afterPosting (x : Channel) (outcome : DiskOutcome) : Channel :=
  { x with
    failCount := failCountAfter outcome x.failCount, fault := faultAfter x outcome
    bin := if x.removed then .none else outcome.bin
    disk := none, record := none }

/-- The handler lines as UNLOADING is entered: the bin lines first, then RELEASE (R118, R167). -/
def DriveLines.startUnload (d : DriveLines) (bin : Bin) : DriveLines :=
  { d with bin1 := bin.line1, bin0 := bin.line0, release := true }

/-- The channel completes POSTING (R117): to UNLOADING, or with the removed flag set to FAULT or EMPTY, and from
EMPTY at once to LOADED when SEATED is active. -/
def Floor.completePosting (f : Floor) (c : Chan) (outcome : DiskOutcome) : Floor :=
  let x := (f.chan c).afterPosting outcome
  if !x.removed then
    (f.setChan c { x with state := .unloading }).modDrive c fun d => d.startUnload outcome.bin
  else if x.fault.isSome then (f.setChan c x).enterFault c
  else if (f.drive c).seated then (f.setChan c { x with state := .empty }).enterLoaded c
  else f.setChan c { x with state := .empty }

/-- The Job Queue's accounting of a posted record (R83, R84, R90), with JOB_ENDED when it ends the job (R85). -/
def Floor.accountJob (f : Floor) (r : RecordBody) : Floor :=
  match f.job r.jobId with
  | none => f
  | some j =>
    let k := j.account r.outcome r.serial
    let g := f.putJob k.afterEndTest
    if k.endsBy.isSome then g.post .jobEnded else g

/-- The ring with one more record at its newest end (R153 step 1). -/
def Ring.append (g : Ring) (c : Chan) (body : RecordBody) (elapsed : Nat) : Ring :=
  { g with
    records := g.records ++ [{ sequence := g.writePos, body := body, elapsed := elapsed }]
    writePos := g.writePos + 1
    waiters := g.waiters.filter fun d => decide (d ≠ c) }

/-- The elapsed count of the disk a channel holds (R149). -/
def Channel.elapsedNow (x : Channel) : Nat := (x.disk.map (·.elapsed)).getD 0

/-- The ring takes a channel's record, in one step (R153); an evaluation of assignment is then due. -/
def Floor.takeRecord (f : Floor) (c : Chan) (body : RecordBody) : Floor :=
  let g := { f with ring := f.ring.append c body (f.chan c).elapsedNow }
  { ((g.accountJob body).completePosting c body.outcome).post .resultsWaiting with evalDue := true }

/-- A channel offers its record (R152). -/
def Floor.offer (f : Floor) (c : Chan) : Floor :=
  match (f.chan c).record with
  | none => f
  | some body =>
    if f.ring.records.length < ringSize then f.takeRecord c body
    else if f.followed then { f with ring := { f.ring with waiters := f.ring.waiters ++ [c] } }
    else f.displace.takeRecord c body

/-- The ring takes waiters' records in list order while it has room or no port follows (R157, R159). -/
def Floor.serveList : List Chan → Floor → Floor
  | [], f => f
  | c :: rest, f =>
    match (f.chan c).record with
    | none => f
    | some body =>
      if f.ring.records.length < ringSize then serveList rest (f.takeRecord c body)
      else if f.followed then f
      else serveList rest (f.displace.takeRecord c body)

/-- What follows a change of cursor or follow flag: freeing, then the waiters (R155, R157, R159). -/
def Floor.serveRing (f : Floor) : Floor :=
  let g := f.freeRecords
  Floor.serveList g.ring.waiters g

/-! The line (R169, R170). -/

/-- The internal contribution follows the waiter list (R158, R172), and a level at the pin that differs from the
recorded one is taken as one change (R170): LINE_CHANGED, and an evaluation when the line comes free. -/
def Floor.updateLine (f : Floor) : Floor :=
  let g := { f with line := { f.line with internal := !f.ring.waiters.isEmpty } }
  if g.lineHeld = g.line.recorded then g
  else
    let h := ({ g with line := { g.line with recorded := g.lineHeld } }).post .lineChanged
    if g.lineHeld then h else { h with evalDue := true }

/-! Assignment (R76 to R80, R109). -/

/-- The per-disk fields at assignment (R80, R81, R109): the current track is the image's first. -/
def newDisk (b : Base) (j : Job) : Disk :=
  { jobId := j.id, slot := j.slot, verified := j.verifiesNext, window := j.window, retryLimit := j.retryLimit
    serial := j.drawn, cylinder := 0, head := 0, retries := 0, totalRetries := 0, softCount := 0
    capture := { held := none, second := false }, tracksWritten := 0, startTime := b.timebase
    elapsed := 0, elapsedRest := 0 }

/-- The channel takes an assignment (R109): SPINUP, or POSTING with WRITE_PROTECTED when WPROT is active. -/
def Floor.startDisk (b : Base) (f : Floor) (c : Chan) (k : Disk) : Floor :=
  let g := f.modChan c fun x => { x with removed := false, disk := some k }
  if b.wprot.getLsbD c.val then
    (g.modChan c fun x => { x with disk := some (k.takeEvent true .writeProtected none) }).enterPosting c .fail
  else g.modChan c fun x => x.startSpinup false

/-- A channel is assigned to a job, in one step (R80). -/
def Floor.assign (b : Base) (f : Floor) (c : Chan) (j : Job) : Floor :=
  ((f.putJob j.afterIssue).leaveWaiting c).startDisk b c (newDisk b j)

/-- Whether a waiting channel is eligible (R77). -/
def Floor.eligible (f : Floor) (c : Chan) : Bool := !(f.chan c).frozen && !f.lineHeld

/-- One channel of an evaluation (R78). -/
def Floor.consider (b : Base) (f : Floor) (c : Chan) : Floor :=
  if f.eligible c then
    match f.jobs.find? (Job.takes b (f.chan c).settings c) with
    | some j => f.assign b c j
    | none => f
  else f

/-- An evaluation of assignment: one pass through the waiting list, oldest first (R78). -/
def Floor.evaluate (b : Base) (f : Floor) : Floor :=
  f.waiting.foldl (Floor.consider b) { f with evalDue := false }

/-! What a step makes due. -/

/-- One thing that is due: an evaluation before the next offer, offers in order (entry 21). -/
def Floor.settleOne (b : Base) (f : Floor) : Floor :=
  if f.evalDue then f.evaluate b
  else
    match f.offers with
    | [] => f
    | c :: rest => ({ f with offers := rest }).offer c

/-- Carries out what is due until nothing is, the line first each time; the first argument is fuel. -/
def Floor.settleLoop (b : Base) : Nat → Floor → Floor
  | 0, f => f.updateLine
  | n + 1, f =>
    let g := f.updateLine
    if g.evalDue || !g.offers.isEmpty then Floor.settleLoop b n (g.settleOne b) else g

/-- Carries out what the step has made due (entry 21). Sixty-four rounds are more than a step can need: each
channel is offered at most twice, and each offer is followed by one evaluation. -/
def Floor.settle (b : Base) (f : Floor) : Floor := f.settleLoop b 64

/-- `settle` on the machine. -/
def State.settle (s : State) : State := { s with floor := s.floor.settle s.base }

end Sys2Proof.Machine
end

