-- ==== Sys2Proof/Machine/Tracks.lean ====
section
/-! DEFINITION. The work on one track (chapters 6 and 7): recalibration (R111), track boundaries (R112), plan
requests (R124), seeks (R102, R103), the write pass (R128 to R132), the verify passes (R133 to R138), track
results (R140) and what follows them (R141 to R143). -/

namespace Sys2Proof.Machine

/-! Small readers. -/

/-- The index watchdog's time, in microseconds (R106). -/
def watchdogTime : Nat := 500000

/-- The width of a STEP pulse, in microseconds (R102). -/
def stepPulse : Nat := 4

/-- The most steps a recalibration issues (R111). -/
def maxRecalSteps : Nat := 90

/-- The track map entry of the channel's current track. -/
def currentEntry (b : Base) (k : Disk) : Option TrackEntry := (b.image k.slot).entry k.cylinder k.head

/-- Microseconds since the channel's last INDEX edge, which begins every pass (R104, R133). -/
def sinceEdge (b : Base) (x : Channel) : Nat := (b.timebase - x.lastStamp.getD 0).toNat

/-- Whether a byte position of a pass has come: position x is x × 8,000 / R µs after the edge (R133). -/
def reached (b : Base) (x : Channel) (rate position : Nat) : Bool :=
  decide (position * 8000 ≤ sinceEdge b x * rate)

/-- Whether a byte position of a pass has not been passed. -/
def notPast (b : Base) (x : Channel) (rate position : Nat) : Bool :=
  decide (sinceEdge b x * rate ≤ position * 8000)

/-- The bytes of the track buffer are discarded and fetching stops (R127); a burst in progress completes into a
buffer that no longer uses it. -/
def Floor.discardBuffer (f : Floor) (c : Chan) : Floor :=
  (f.modChan c fun x => { x with buffer := [], fetch := [] }).orphanBurst (BurstWork.isFetchOf c)

/-- The image bytes of given slots of a plan, in their order, as a pass fetches them (R127). Slots of a
FORMAT-ONLY track need none. -/
def TrackPlan.fetchList (p : TrackPlan) (slots : List Nat) : List FetchItem :=
  slots.filterMap fun j =>
    match p.slots[j]?.map SlotPlan.source with
    | some (.image offset) => some { slot := j, offset := offset, remaining := p.layout.sectorSize }
    | _ => none

/-- The slots of a plan, in physical order. -/
def TrackPlan.allSlots (p : TrackPlan) : List Nat := List.range p.slots.length

/-- The recorded sector number the plan gave a slot (R140). -/
def TrackPlan.sectorOf (p : TrackPlan) (j : Nat) : Option Byte := p.slots[j]?.map (·.sector)

/-! Seeking (R102, R103, R126). -/

/-- Issues one step toward a target cylinder (R102): DIR stands, STEP begins its pulse, the physical cylinder
changes by one, the step timer is loaded. -/
def Channel.issueStep (x : Channel) (target : Nat) : Channel :=
  let at0 := x.cylinder.getD 0
  { x with
    cylinder := some (if at0 < target then at0 + 1 else at0 - 1)
    stepOut := true, pulseTimer := some stepPulse, stepTimer := some (x.settings.stepPeriod * 1000) }

/-- A seek's stepping is done: the settle timer is loaded, or with a settle time of 0 the seek completes and the
track enters WRITE (R103, R126). -/
def Channel.startSettle (x : Channel) : Channel :=
  if x.settings.settleTime = 0 then { x with phase := some .write, seekTarget := none }
  else { x with phase := some .settle, seekTarget := none, settleTimer := some (x.settings.settleTime * 1000) }

/-- Goes on with a seek: one more step, or settling when the head stands at the target (R102). -/
def Channel.continueSeek (x : Channel) (target : Nat) : Channel :=
  if x.cylinder = some target then x.startSettle else x.issueStep target

/-- A seek starts (R102): SIDE for the head, DIR toward the target. -/
def Channel.startSeek (x : Channel) (target head : Nat) : Channel :=
  { x with
    phase := some .seek, seekTarget := some target, side := decide (head = 1)
    dir := if x.cylinder = some target then x.dir else decide (x.cylinder.getD 0 < target) }.continueSeek target

/-- The physical cylinder of a track (R112, R126). -/
def physicalCylinder (b : Base) (k : Disk) : Nat :=
  k.cylinder *
    match currentEntry b k with
    | some .erase => b.maxMultiplier (b.image k.slot)
    | some e => b.multiplier e
    | none => 1

/-- Phase SEEK of a first attempt (R126). -/
def Floor.seekTrack (b : Base) (f : Floor) (c : Chan) : Floor :=
  f.modChan c fun x =>
    match x.disk with
    | some k => x.startSeek (physicalCylinder b k) k.head
    | none => x

/-! The Layout Engine (R22, R23). -/

/-- The idle Layout Engine takes the oldest request and begins its plan with the descriptor as it stands
(R22, R23). -/
def LayoutEngine.kick (b : Base) (e : LayoutEngine) : LayoutEngine :=
  match e.building, e.queue with
  | none, r :: rest =>
    { queue := rest
      building := (b.format r.format).map fun d => { request := r, layout := d, discarded := false } }
  | _, _ => e

/-- A channel's request joins the back of the queue (R22). -/
def Floor.requestPlan (b : Base) (f : Floor) (r : PlanRequest) : Floor :=
  { f with engine := ({ f.engine with queue := f.engine.queue ++ [r] }).kick b }

/-! PLAN (R124, R125). -/

/-- Enters phase PLAN of an attempt: the speed check, then a plan request, or for an ERASE track the seek
(R124). The sector of the first attempt is kept across retries (R123). -/
def Floor.beginPlan (b : Base) (f : Floor) (c : Chan) : Floor :=
  let f := f.modChan c fun x => { x with
    state := .producing, resuming := false, phase := some .plan
    attempt := { Attempt.none with firstSector := x.attempt.firstSector } }
  match (f.chan c).disk, (f.chan c).meanPeriod with
  | some k, some mean =>
    let e := currentEntry b k
    if entryWindow b (e.bind TrackEntry.format?) mean then
      match e with
      | some (.data fmt offset _) =>
        f.requestPlan b { channel := c, format := fmt, cylinder := k.cylinder, head := k.head
                          data := some (k.slot, offset), period := mean, serial := k.serial }
      | some (.formatOnly fmt) =>
        f.requestPlan b { channel := c, format := fmt, cylinder := k.cylinder, head := k.head
                          data := none, period := mean, serial := k.serial }
      | some .erase => f.seekTrack b c
      | some .skip => f
      | none => f
    else f.abortDisk c .speed
  | _, _ => f.abortDisk c .speed

/-! Track boundaries (R112, R113). -/

/-- The first entry that is not SKIP at or after a place in track order (R112). -/
def nextTrack (map : List TrackEntry) (i : Nat) : Option Nat :=
  ((map.drop i).findIdx? fun e => decide (e ≠ .skip)).map (· + i)

/-- A frozen channel pauses at a boundary (R113): MOTOR off, timers stopped, SIDE and the index history kept. -/
def Channel.pause (x : Channel) : Channel :=
  { x.stopTimers with
    state := .paused, phase := none, resuming := false, motor := false, recalSteps := 0, attempt := Attempt.none }

/-- The outcome of a disk whose last track is accepted (R146). -/
def Disk.finishedOutcome (k : Disk) : DiskOutcome := if 0 < k.softCount then .passSoft else .pass

/-- A track boundary, looking for the next track from a place in track order (R112): the disk is finished, or
the track becomes current and the channel pauses when frozen or begins it. Retries used become 0 at every
boundary, the one that finishes the disk too (R123, R143). -/
def Floor.boundary (b : Base) (f : Floor) (c : Chan) (i : Nat) : Floor :=
  match (f.chan c).disk with
  | none => f
  | some k =>
    let im := b.image k.slot
    match nextTrack im.trackMap i, im.opening with
    | some t, some o =>
      let g := f.modChan c fun x => { x with
        disk := some { k with cylinder := t / o.heads, head := t % o.heads, retries := 0 }
        attempt := Attempt.none, recalSteps := 0 }
      if (f.chan c).frozen then g.modChan c Channel.pause else g.beginPlan b c
    | _, _ =>
      (f.modChan c fun x => { x with disk := some { k with retries := 0 } }).enterPosting c k.finishedOutcome

/-- A boundary at the disk's current track: after recalibration or a resuming spin-up (R112). -/
def Floor.boundaryHere (b : Base) (f : Floor) (c : Chan) : Floor :=
  match (f.chan c).disk with
  | none => f
  | some k => f.boundary b c ((b.image k.slot).trackIndex k.cylinder k.head)

/-- A boundary after the disk's current track has been accepted (R112, R143). -/
def Floor.boundaryNext (b : Base) (f : Floor) (c : Chan) : Floor :=
  match (f.chan c).disk with
  | none => f
  | some k => f.boundary b c ((b.image k.slot).trackIndex k.cylinder k.head + 1)

/-! Recalibration (R111). -/

/-- One step toward cylinder 0; the cylinder stays unknown (R111). -/
def Channel.recalStep (x : Channel) : Channel :=
  { x with
    recalSteps := x.recalSteps + 1, stepOut := true, pulseTimer := some stepPulse
    stepTimer := some (x.settings.stepPeriod * 1000) }

/-- Recalibration is done: physical cylinder 0, and a track boundary (R111). -/
def Floor.recalDone (b : Base) (f : Floor) (c : Chan) : Floor :=
  (f.modChan c fun x => { x with cylinder := some 0, stepTimer := none }).boundaryHere b c

/-- Samples TRK0 in RECAL and goes on (R111); the 90th step without TRK0 aborts the disk. -/
def Floor.recalSample (b : Base) (f : Floor) (c : Chan) : Floor :=
  if b.trk0.getLsbD c.val then f.recalDone b c
  else if maxRecalSteps ≤ (f.chan c).recalSteps then f.abortDisk c .noTrack0
  else f.modChan c Channel.recalStep

/-- Entry to RECAL (R111): the watchdog is loaded, DIR set inactive, TRK0 sampled. -/
def Floor.enterRecal (b : Base) (f : Floor) (c : Chan) : Floor :=
  (f.modChan c fun x => { x with
    state := .recal, spinupTimer := none, watchdog := some watchdogTime, dir := false, cylinder := none
    recalSteps := 0 }).recalSample b c

/-- A channel at speed in SPINUP (R110). -/
def Floor.reachSpeed (b : Base) (f : Floor) (c : Chan) : Floor :=
  if (f.chan c).resuming then
    (f.modChan c fun x => { x with spinupTimer := none, watchdog := some watchdogTime }).boundaryHere b c
  else f.enterRecal b c

/-! Track results (R140 to R143). -/

/-- The result of an attempt (R140): CLEAN, MARGINAL with the sector of its first MARGINAL slot, or BAD with
its cause and sector. -/
inductive TrackResult where
  | clean
  | marginal (sector : Option Byte)
  | bad (cause : Cause) (sector : Option Byte)
  deriving DecidableEq, Repr

/-- The sector a track result names. -/
def TrackResult.sector : TrackResult → Option Byte
  | .clean => none
  | .marginal s => s
  | .bad _ s => s

/-- A retry of the track (R142). -/
def Floor.retryTrack (b : Base) (f : Floor) (c : Chan) : Floor :=
  (f.modChan c fun x => { x with
    disk := x.disk.map fun k =>
      { k with retries := k.retries + 1, totalRetries := satAdd 65535 k.totalRetries 1 } }).beginPlan b c

/-- The track is accepted, with a soft event when it carries a cause (R141, R143). -/
def Floor.acceptTrack (b : Base) (f : Floor) (c : Chan) (soft : Option (Cause × Option Byte)) : Floor :=
  (f.modChan c fun x => { x with
    disk := x.disk.map fun k =>
      let k' := match soft with
        | some (cause, sector) => k.takeEvent false cause sector
        | none => k
      { k' with tracksWritten := k'.tracksWritten + 1 } }).boundaryNext b c

/-- The track fails the disk: a hard event, outcome FAIL (R141). -/
def Floor.failTrack (f : Floor) (c : Chan) (cause : Cause) (sector : Option Byte) : Floor :=
  (f.modChan c fun x => { x with disk := x.disk.map fun k => k.takeEvent true cause sector }).enterPosting c .fail

/-- The attempt ends with a track result: the table of R141. -/
def Floor.endAttempt (b : Base) (f : Floor) (c : Chan) (r : TrackResult) : Floor :=
  match (f.chan c).disk with
  | none => f
  | some k =>
    let first := if k.retries = 0 then r.sector else (f.chan c).attempt.firstSector
    let g := (f.discardBuffer c).modChan c fun x => { x with
      wgate := false, wdata := none, attempt := { Attempt.none with firstSector := first } }
    match r with
    | .clean => g.acceptTrack b c (if 0 < k.retries then some (.recovered, first) else none)
    | .marginal sector =>
      if k.retries < k.retryLimit then g.retryTrack b c
      else g.acceptTrack b c (some (.marginalAccepted, sector))
    | .bad cause sector =>
      if k.retries < k.retryLimit then g.retryTrack b c else g.failTrack c cause sector

/-! The write pass (R128 to R132). -/

/-- Encoding, rate and gap fill of an ERASE track: those of the image's first format in track order, and FM at
250 kbit/s with FF hex when it names none (R129). -/
def eraseLayout (b : Base) (im : ImageSlot) : Encoding × Nat × Byte :=
  match (im.trackMap.findSome? TrackEntry.format?).bind b.format with
  | some d => (d.encoding, d.rate, d.gapFill)
  | none => (.fm, 250, 0xFF)

/-- Encoding, rate and gap fill of the track being written. -/
def Channel.writeLayout (b : Base) (x : Channel) : Encoding × Nat × Byte :=
  match x.attempt.plan, x.disk with
  | some p, _ => (p.layout.encoding, p.layout.rate, p.layout.gapFill)
  | none, some k => eraseLayout b (b.image k.slot)
  | none, none => (.fm, 250, 0xFF)

/-- The item the write stream stands at; gap fill throughout an ERASE track (R129). -/
def Channel.writeItem (x : Channel) (st : WriteStream) : StreamItem :=
  match x.attempt.plan with
  | some p => p.layout.itemAt st.position
  | none => .gap

/-- The mark prefixes a CRC counts: three A1 hex in MFM, none in FM (R17). -/
def markCover (e : Encoding) : List Byte :=
  match e with
  | .mfm => [markPrefixByte, markPrefixByte, markPrefixByte]
  | .fm => []

/-- The data mark of a slot (R10). -/
def SlotPlan.mark (s : SlotPlan) : Byte := if s.deleted then 0xF8 else 0xFB

/-- The header bytes of a slot, in their order (R10). -/
def SlotPlan.header (s : SlotPlan) : List Byte := [s.cylinder, s.head, s.sector, s.size]

/-- A data byte with the serial patch in place (R24, R96). -/
def SlotPlan.patched (s : SlotPlan) (i : Nat) (raw : Byte) : Byte :=
  match s.patch with
  | some p => if p.offset ≤ i ∧ i < p.offset + p.bytes.length then p.bytes.getD (i - p.offset) raw else raw
  | none => raw

/-- The clock half of a mark: C7 hex in FM, the ordinary rule in MFM (R8). -/
def markClock (e : Encoding) (last : Bool) (v : Byte) : Byte :=
  match e with
  | .fm => fmMarkClock
  | .mfm => mfmClock last v

/-- The next image byte of a slot in the track buffer, with the buffer left (R127). -/
def nextBuffered (buffer : List (Nat × Byte)) (slot : Nat) : Option (Byte × List (Nat × Byte)) :=
  match buffer with
  | (t, v) :: rest => if t = slot then some (v, rest) else none
  | [] => none

/-- The data byte of a slot as written and as expected in verify: the fill byte, or the image byte taken from
the buffer with the patch in place; none when the buffer holds no byte (R129, R131, R136). -/
def SlotPlan.nextData (s : SlotPlan) (slot i : Nat) (buffer : List (Nat × Byte)) :
    Option (Byte × List (Nat × Byte)) :=
  match s.source with
  | .fill v => some (v, buffer)
  | .image _ => (nextBuffered buffer slot).map fun (raw, rest) => (s.patched i raw, rest)

/-- One byte of the write stream: its value, its clock half, the CRC register after it and the buffer left. -/
structure StreamOut where
  value : Byte
  clock : Byte
  crc : Word16
  buffer : List (Nat × Byte)
  deriving DecidableEq, Repr

/-- A byte written by the ordinary clock rule. -/
def plainOut (e : Encoding) (st : WriteStream) (buffer : List (Nat × Byte)) (v : Byte) (crc : Word16) :
    StreamOut :=
  { value := v, clock := ordinaryClock e st.lastBit v, crc := crc, buffer := buffer }

/-- The byte of an item of the write stream (R8, R10, R17, R129); none when it is a DATA byte and the buffer
holds none (R131). -/
def streamOut (e : Encoding) (fill : Byte) (slots : List SlotPlan) (st : WriteStream)
    (buffer : List (Nat × Byte)) (item : StreamItem) : Option StreamOut :=
  let plain := plainOut e st buffer
  match item with
  | .gap => some (plain fill st.crc)
  | .sync => some (plain 0 st.crc)
  | .markPrefix => some { value := markPrefixByte, clock := markPrefixClock, crc := st.crc, buffer := buffer }
  | .indexMark =>
    some { value := 0xFC
           clock := match e with | .fm => fmIndexClock | .mfm => mfmClock st.lastBit 0xFC
           crc := st.crc, buffer := buffer }
  | .headerMark _ =>
    some { value := 0xFE, clock := markClock e st.lastBit 0xFE, crc := crc16 (markCover e ++ [0xFE])
           buffer := buffer }
  | .headerByte slot i =>
    slots[slot]?.map fun s =>
      let v := s.header.getD i 0
      plain v (crc16Byte st.crc v)
  | .headerCrc _ i => some (plain ((crc16Bytes st.crc).getD i 0) st.crc)
  | .dataMark slot =>
    slots[slot]?.map fun s =>
      { value := s.mark, clock := markClock e st.lastBit s.mark, crc := crc16 (markCover e ++ [s.mark])
        buffer := buffer }
  | .dataByte slot i =>
    slots[slot]?.bind fun s =>
      (s.nextData slot i buffer).map fun (v, rest) =>
        { value := v, clock := ordinaryClock e st.lastBit v, crc := crc16Byte st.crc v, buffer := rest }
  | .dataCrc _ i => some (plain ((crc16Bytes st.crc).getD i 0) st.crc)

/-- The data the first verify pass fetches, from the moment the write pass of a verified disk has used its last
data byte (R127); what is still to fetch otherwise. -/
def Channel.fetchAfter (x : Channel) (item : StreamItem) : List FetchItem :=
  match item, x.attempt.plan, x.disk with
  | .dataByte slot i, some p, some k =>
    if k.verified && decide (slot + 1 = p.slots.length) && decide (i + 1 = p.layout.sectorSize) then
      p.fetchList p.allSlots
    else x.fetch
  | _, _, _ => x.fetch

/-- The write pass begins at an INDEX edge (R128): WGATE is asserted. The data bit before the stream is a free
value (entry 16). -/
def Floor.startWrite (f : Floor) (c : Chan) : Floor :=
  { f.modChan c fun x => { x with
      wgate := true
      attempt := { x.attempt with
        stream := some { position := 0, crc := crc16Preset, lastBit := Config.bitBeforeStream f.freeDraws } } }
    with freeDraws := f.freeDraws + 1 }

/-- The write pass underruns at a slot (R131). -/
def Floor.writeUnderrun (b : Base) (f : Floor) (c : Chan) (p : TrackPlan) (slot : Nat) : Floor :=
  f.endAttempt b c (.bad .underrun (p.sectorOf slot))

/-- Whether the write stream stands at a DATA byte with the buffer holding none (R131): the slot named. -/
def Channel.underrunSlot (x : Channel) (st : WriteStream) : Option Nat :=
  match x.writeItem st, x.attempt.plan with
  | .dataByte slot i, some p =>
    match p.slots[slot]? with
    | some s => if (s.nextData slot i x.buffer).isNone then some slot else none
    | none => none
  | _, _ => none

/-- The next byte of a running write pass (R129). -/
def Floor.writeByte (b : Base) (f : Floor) (c : Chan) (st : WriteStream) : Floor :=
  let x := f.chan c
  let (e, _, fill) := x.writeLayout b
  let slots := (x.attempt.plan.map (·.slots)).getD []
  let item := x.writeItem st
  match streamOut e fill slots st x.buffer item with
  | some out =>
    f.setChan c { x with
      wdata := some (out.clock, out.value), buffer := out.buffer, fetch := x.fetchAfter item
      attempt := { x.attempt with
        stream := some { position := st.position + 1, crc := out.crc, lastBit := out.value.getLsbD 0 } } }
  | none =>
    match x.attempt.plan, x.underrunSlot st with
    | some p, some slot => f.writeUnderrun b c p slot
    | _, _ => f

/-! The verify passes (R133 to R138). -/

/-- hm, the planned end of the header mark within a sector (R135). -/
def headerMarkEnd : Encoding → Nat
  | .mfm => 16
  | .fm => 7

/-- dm, the planned end of the data mark within a sector (R135). -/
def dataMarkEnd : Encoding → Nat
  | .mfm => 60
  | .fm => 31

/-- D, the allowance of one header gap (R135). -/
def markAllowance : Encoding → Nat
  | .mfm => 22
  | .fm => 11

/-- The read side at the start of a pass over given slots, the search starting D before the first one's planned
header (R135, R138). -/
def startRead (d : Descriptor) (slots : List Nat) : ReadSide :=
  { slots := slots, phase := .seekHeader
    searchFrom := d.headerAt (slots.headD 0) - markAllowance d.encoding, prefixes := 0, spill := false }

/-- The first verify pass begins (R133). -/
def Channel.startVerify (x : Channel) (p : TrackPlan) : Channel :=
  { x with
    phase := some .verify, wgate := false, wdata := none
    attempt := { x.attempt with
      writeResult := some .complete, stream := none, pass := 1
      results := List.replicate p.slots.length none, read := some (startRead p.layout p.allSlots) } }

/-- The second verify pass begins over the slots that failed (R138). -/
def Floor.startSecondPass (f : Floor) (c : Chan) (p : TrackPlan) (results : List (Option SlotResult))
    (failed : List Nat) : Floor :=
  (f.discardBuffer c).modChan c fun x => { x with
    fetch := p.fetchList failed
    attempt := { x.attempt with pass := 2, results := results, read := some (startRead p.layout failed) } }

/-- A slot's result as a pass gives it: OK becomes MARGINAL in the second (R138). -/
def verdict (pass : Nat) (r : SlotResult) : SlotResult :=
  if pass = 2 ∧ r = .ok then .marginal else r

/-- Good results are OK and MARGINAL (R139). -/
def SlotResult.good : SlotResult → Bool
  | .ok => true
  | .marginal => true
  | .missing => false | .headerMismatch => false | .headerCrc => false | .markMismatch => false
  | .dataCrc => false | .dataMismatch => false

/-- The failures a wider window may cure (R137). -/
def SlotResult.curable : SlotResult → Bool
  | .missing => true
  | .headerCrc => true
  | .dataCrc => true
  | .ok => false | .marginal => false | .headerMismatch => false | .markMismatch => false
  | .dataMismatch => false

/-- The cause a failed slot's result gives a BAD track (R140). -/
def SlotResult.cause : SlotResult → Cause
  | .missing => .missing
  | .headerMismatch => .headerMismatch
  | .headerCrc => .headerCrc
  | .markMismatch => .markMismatch
  | .dataCrc => .dataCrc
  | .dataMismatch => .dataMismatch
  | .ok => .recovered
  | .marginal => .marginalAccepted

/-- The slot results at the end of a pass: a slot whose reading has not ended, or not begun, is MISSING
(R135). -/
def Attempt.closeResults (a : Attempt) : List (Option SlotResult) :=
  match a.read with
  | .none => a.results
  | .some r =>
    let missing := r.slots.foldl (fun rs j => rs.set j (some .missing)) a.results
    match r.slots, r.phase with
    | j :: _, .ended x => missing.set j (some (verdict a.pass x))
    | _, _ => missing

/-- The slots that failed, in physical order. -/
def failedSlots (results : List (Option SlotResult)) : List Nat :=
  (List.range results.length).filter fun j =>
    match results.getD j none with
    | some r => !r.good
    | none => true

/-- The track result of a finished verify (R140). -/
def verifyResult (p : TrackPlan) (results : List (Option SlotResult)) : TrackResult :=
  match failedSlots results with
  | j :: _ => .bad (((results.getD j none).map SlotResult.cause).getD .missing) (p.sectorOf j)
  | [] =>
    match results.findIdx? fun r => decide (r = some .marginal) with
    | some j => .marginal (p.sectorOf j)
    | none => .clean

/-- A verify pass ends at an INDEX edge (R137): a second pass, or the end of verify. -/
def Floor.endVerifyPass (b : Base) (f : Floor) (c : Chan) (p : TrackPlan) (k : Disk) : Floor :=
  let a := (f.chan c).attempt
  let results := a.closeResults
  let failed := failedSlots results
  if a.pass = 1 ∧ k.window ≠ .full ∧ failed ≠ []
      ∧ failed.all (fun j => ((results.getD j none).map SlotResult.curable).getD false) then
    f.startSecondPass c p results failed
  else f.endAttempt b c (verifyResult p results)

/-- The window the read side holds in the present pass (R133, R138). -/
def Channel.readWindow (x : Channel) (k : Disk) : Window := if x.attempt.pass = 2 then .full else k.window

/-- A slot's reading is over and its result given (R135): the next slot is sought from where the reading ended
when it was OK, from its planned data end when it failed, and in the second pass from D before its own header
(R138). Expected bytes of the slot that were not used are dropped (entry 13). -/
def Floor.giveSlotResult (f : Floor) (c : Chan) (p : TrackPlan) (r : ReadSide) (j : Nat) (rest : List Nat)
    (result : SlotResult) : Floor :=
  let d := p.layout
  (f.modChan c fun x => { x with
    buffer := x.buffer.filter fun (t, _) => decide (t ≠ j)
    fetch := x.fetch.filter fun i => decide (i.slot ≠ j)
    attempt := { x.attempt with
      results := x.attempt.results.set j (some (verdict x.attempt.pass result))
      read := some { r with
        slots := rest, phase := .seekHeader, prefixes := 0
        searchFrom :=
          if x.attempt.pass = 2 then d.headerAt (rest.headD 0) - markAllowance d.encoding
          else if result = .ok then 0
          else d.headerAt j + d.sectorFixed + d.sectorSize } } }).orphanBurst
    fun w => decide (w = .fetch c j)

/-- The result VERIFY_SLOT_RESULT gives the present slot: that of its ended reading, or MISSING once the search
limit is past (R135); none while its reading goes on. -/
def slotResultNow (b : Base) (x : Channel) (d : Descriptor) (r : ReadSide) (j : Nat) : Option SlotResult :=
  match r.phase with
  | .ended result => some result
  | .seekHeader =>
    if notPast b x d.rate (d.headerAt j + headerMarkEnd d.encoding + markAllowance d.encoding) then none
    else some .missing
  | .seekData =>
    if notPast b x d.rate (d.headerAt j + dataMarkEnd d.encoding + markAllowance d.encoding) then none
    else some .missing
  | .header _ => none
  | .data _ _ _ => none
  | .dataCheck _ _ _ => none

/-- Whether a decoded byte is a mark-prefix byte (R8, R134). -/
def isMarkPrefix (e : Encoding) (clock value : Byte) : Bool :=
  decide (e = .mfm) && decide (value = markPrefixByte) && decide (clock = markPrefixClock)

/-- Whether a decoded byte is a mark: it follows three prefix bytes in MFM, it has clock pattern C7 hex in FM
(R134). -/
def isMark (e : Encoding) (prefixes : Nat) (clock value : Byte) : Bool :=
  match e with
  | .mfm => decide (3 ≤ prefixes) && !isMarkPrefix .mfm clock value
  | .fm => decide (clock = fmMarkClock)

/-- The prefix bytes just decoded, after one more byte. -/
def prefixesAfter (e : Encoding) (prefixes : Nat) (clock value : Byte) : Nat :=
  if isMarkPrefix e clock value then prefixes + 1 else 0

/-- The header tests 2 and 3 of R135, on the six bytes after the header mark. -/
def headerTest (e : Encoding) (s : SlotPlan) (got : List Byte) : ReadPhase :=
  if crc16Bytes (crc16 (markCover e ++ 0xFE :: got.take 4)) ≠ got.drop 4 then .ended .headerCrc
  else if got.take 4 ≠ s.header then .ended .headerMismatch
  else .seekData

/-- The data tests 6 to 8 of R135, on the two CRC bytes. -/
def dataTest (crc : Word16) (differs : Bool) (got : List Byte) : SlotResult :=
  if crc16Bytes crc ≠ got then .dataCrc else if differs then .dataMismatch else .ok

/-- The read side after one decoded byte of the present slot, and the buffer left (R134 to R136); none when a
DATA byte finds no expected byte in the buffer, a verify underrun. A header mark counts when it completes at
or after the search start, wherever its prefix bytes lie (entry 32, DESIGN CHOICE). -/
def readStep (b : Base) (x : Channel) (p : TrackPlan) (s : SlotPlan) (j : Nat) (r : ReadSide)
    (clock value : Byte) : Option (ReadSide × List (Nat × Byte)) :=
  let d := p.layout
  let e := d.encoding
  let mark := isMark e r.prefixes clock value
  let sought := { r with prefixes := prefixesAfter e r.prefixes clock value }
  match r.phase with
  | .seekHeader =>
    if mark && decide (value = 0xFE) && reached b x d.rate r.searchFrom
        && notPast b x d.rate (d.headerAt j + headerMarkEnd e + markAllowance e) then
      some ({ r with phase := .header [], prefixes := 0 }, x.buffer)
    else some (sought, x.buffer)
  | .header got =>
    let got := got ++ [value]
    if got.length < 6 then some ({ r with phase := .header got }, x.buffer)
    else some ({ r with phase := headerTest e s got, prefixes := 0 }, x.buffer)
  | .seekData =>
    if mark && notPast b x d.rate (d.headerAt j + dataMarkEnd e + markAllowance e) then
      if value = s.mark then
        some ({ r with phase := .data 0 (crc16 (markCover e ++ [s.mark])) false, prefixes := 0 }, x.buffer)
      else some ({ r with phase := .ended .markMismatch }, x.buffer)
    else some (sought, x.buffer)
  | .data count crc differs =>
    (s.nextData j count x.buffer).map fun (expected, rest) =>
      let crc := crc16Byte crc value
      let differs := differs || decide (value ≠ expected)
      if count + 1 < d.sectorSize then ({ r with phase := .data (count + 1) crc differs }, rest)
      else ({ r with phase := .dataCheck crc differs [] }, rest)
  | .dataCheck crc differs got =>
    let got := got ++ [value]
    if got.length < 2 then some ({ r with phase := .dataCheck crc differs got }, x.buffer)
    else some ({ r with phase := .ended (dataTest crc differs got) }, x.buffer)
  | .ended _ => some (r, x.buffer)

/-- A read-back byte arrives on RDATA in a verify pass (R134 to R136). -/
def Floor.readByte (b : Base) (f : Floor) (c : Chan) (flux : List (BitVec 9)) : Floor :=
  let x := f.chan c
  match x.disk, x.attempt.plan, x.attempt.read with
  | some k, some p, some r =>
    match r.slots with
    | [] => f
    | j :: _ =>
      match p.slots[j]? with
      | none => f
      | some s =>
        let (clock, value, spill) := decodeFlux (x.readWindow k) r.spill flux
        match readStep b x p s j { r with spill := spill } clock value with
        | some (r', rest) => f.setChan c { x with buffer := rest, attempt := { x.attempt with read := some r' } }
        | none => f.endAttempt b c (.bad .underrun (p.sectorOf j))
  | _, _, _ => f

/-- Whether the read side stands at a DATA byte whose expected byte is not in the buffer (R136): the slot. -/
def Channel.verifyUnderrunSlot (x : Channel) : Option (TrackPlan × Nat) :=
  match x.attempt.plan, x.attempt.read with
  | some p, some r =>
    match r.slots, r.phase with
    | j :: _, .data count _ _ =>
      match p.slots[j]? with
      | some s => if (s.nextData j count x.buffer).isNone then some (p, j) else none
      | none => none
    | _, _ => none
  | _, _ => none

/-! INDEX edges (R104, R106, R128, R130, R132, R137). -/

/-- The capture of an INDEX edge (R104): the interval from the last stamp enters the history, at most four. -/
def Channel.captureEdge (x : Channel) (now : Word32) : Channel :=
  let xs := match x.lastStamp with
    | some t => x.intervals ++ [now - t]
    | none => x.intervals
  { x with lastStamp := some now, intervals := if xs.length = 5 then xs.tail else xs }

/-- Each INDEX edge captured in RECAL or PRODUCING reloads the watchdog (R106). -/
def Channel.reloadWatchdog (x : Channel) : Channel :=
  match x.state with
  | .recal => { x with watchdog := some watchdogTime }
  | .producing => { x with watchdog := some watchdogTime }
  | _ => x

/-- The slot an overrun names: the one in whose sector the stream stood (R132), a byte counting as written as
soon as its own step has come (entry 11, DEDUCED); a free value when the edge came inside the fixed part
(entry 15). -/
def overrunSlot (p : TrackPlan) (position draws : Nat) : Nat :=
  let d := p.layout
  if position < d.fixedPart then Config.earlyOverrunSlot draws % d.sectors
  else (position - d.fixedPart) / d.sectorLen

/-- The INDEX edge of a running write pass (R130, R132): OVERRUN before the last data CRC has been written,
COMPLETE otherwise, and then verify on a verified disk (R133). The last CRC byte counts as written once its
WRITE_STREAM_BYTE has come, so an edge within its eight cells is COMPLETE (entry 11, DEDUCED). -/
def Floor.endWrite (b : Base) (f : Floor) (c : Chan) (k : Disk) (st : WriteStream) : Floor :=
  match (f.chan c).attempt.plan with
  | none => f.endAttempt b c .clean
  | some p =>
    if st.position + p.layout.sectorGap < p.layout.used then
      { f with freeDraws := f.freeDraws + 1 }.endAttempt b c
        (.bad .overrun (p.sectorOf (overrunSlot p st.position f.freeDraws)))
    else if k.verified then f.modChan c fun x => x.startVerify p
    else f.endAttempt b c .clean

/-- What an INDEX edge does in PRODUCING, by phase (R125, R126, R128, R130, R137). -/
def Floor.producingEdge (b : Base) (f : Floor) (c : Chan) : Floor :=
  let x := f.chan c
  match x.phase, x.disk with
  | some .write, some k =>
    match x.attempt.stream with
    | none => f.startWrite c
    | some st => f.endWrite b c k st
  | some .verify, some k =>
    match x.attempt.plan with
    | some p => f.endVerifyPass b c p k
    | none => f
  | _, _ => f

/-- An INDEX edge while MOTOR is active (R104). -/
def Floor.indexEdge (b : Base) (f : Floor) (c : Chan) : Floor :=
  let g := f.modChan c fun x => (x.captureEdge b.timebase).reloadWatchdog
  match (g.chan c).state with
  | .spinup => if (g.chan c).atSpeed b then g.reachSpeed b c else g
  | .producing => g.producingEdge b c
  | _ => g

/-! The end of a plan build (R23, R25, R125). -/

/-- The plan is handed to its channel (R125): the buffer begins to fill, and the channel goes on to SEEK on a
first attempt, to WRITE on a retry. -/
def Floor.handPlan (b : Base) (f : Floor) (c : Chan) (p : TrackPlan) : Floor :=
  let x := f.chan c
  match x.state, x.phase, x.disk with
  | .producing, some .plan, some k =>
    let g := f.setChan c { x with
      attempt := { x.attempt with plan := some p }, fetch := p.fetchList p.allSlots }
    if k.retries = 0 then g.seekTrack b c else g.modChan c fun y => { y with phase := some .write }
  | _, _, _ => f

/-- The build completes: the plan is handed over, or discarded when the disk was aborted (R25), and the next
request is taken (R23). -/
def Floor.finishPlan (b : Base) (f : Floor) : Floor :=
  match f.engine.building with
  | none => f
  | some w =>
    let g := { f with engine := ({ f.engine with building := none }).kick b }
    if w.discarded then g else g.handPlan b w.request.channel (buildPlan w.layout w.request)

/-! Timer expiries (R102, R103, R106, R110). -/

/-- The step timer expires (R102, R111). -/
def Floor.stepExpiry (b : Base) (f : Floor) (c : Chan) : Floor :=
  let g := f.modChan c fun x => { x with stepTimer := none }
  match (f.chan c).state, (f.chan c).seekTarget with
  | .recal, _ => g.recalSample b c
  | .producing, some target => g.modChan c fun x => x.continueSeek target
  | _, _ => g

/-- The settle timer expires: the seek completes and the track enters WRITE (R103). -/
def Channel.settleExpiry (x : Channel) : Channel :=
  { x with settleTimer := none, phase := if x.phase = some .settle then some .write else x.phase }

/-- The spin-up timer expires (R110): NO_INDEX when no edge has been captured since MOTOR became active, SPEED
otherwise. -/
def Floor.spinupExpiry (f : Floor) (c : Chan) : Floor :=
  let cause := if (f.chan c).lastStamp.isNone then Cause.noIndex else Cause.speed
  (f.modChan c fun x => { x with spinupTimer := none }).abortDisk c cause

/-- The index watchdog expires (R106). -/
def Floor.watchdogExpiry (f : Floor) (c : Chan) : Floor :=
  (f.modChan c fun x => { x with watchdog := none }).abortDisk c .noIndex

/-- The pulse timer expires and the STEP pulse ends (R102). -/
def Channel.pulseExpiry (x : Channel) : Channel := { x with pulseTimer := none, stepOut := false }

end Sys2Proof.Machine
end

