-- ==== Sys2Proof/Machine/Formats.lean ====
section
/-! DEFINITION. The requests of the Format Table and PLAN QUERY (R18 to R21, R26). -/

namespace Sys2Proof.Machine

/-- A format is in use while the track map of a slot that is not FREE names it (R19). -/
def Base.formatInUse (b : Base) (f : FormatId) : Bool :=
  b.images.toList.any fun im =>
    decide (im.state ≠ .free) && im.trackMap.any fun e => decide (e.format? = some f)

/-- The descriptor a DEFINE FORMAT stores, after the checks of R18 from the second on, or the refusal. -/
def Base.acceptFormat (b : Base) (f : FormatId) (d : Descriptor) : Except Status Descriptor :=
  if b.formatInUse f then .error .formatInUse
  else
    match d.settleGap with
    | none => .error .trackOverfull
    | some settled => if settled.fits then .ok settled else .error .trackOverfull

/-- What DEFINE FORMAT replies for the stored descriptor (R18). -/
def Descriptor.defineReply (d : Descriptor) : List Byte :=
  byte d.sectorGap :: be 2 d.used ++ be 4 d.pmin ++ be 4 d.pmax
    ++ be 2 (d.closing d.pmin) ++ be 2 (d.closing d.nominal) ++ be 2 (d.closing d.pmax)

/-- DEFINE FORMAT (R18). -/
def doDefineFormat (p : PortId) (payload : List Byte) (s : State) : State :=
  match readDescriptor payload with
  | none => s.refuse p .badValue
  | some (f, d) =>
    match s.base.acceptFormat f d with
    | .error e => s.refuse p e
    | .ok stored => { s with base := s.base.setFormat f (some stored) }.reply p stored.defineReply

/-- What READ FORMAT replies (R20, R188). -/
def Descriptor.readReply (d : Descriptor) (f : FormatId) : List Byte :=
  d.bytes f ++ flagByte d.gapComputed :: be 4 d.pmin ++ be 4 d.pmax ++ be 2 d.used

/-- READ FORMAT (R20). -/
def doReadFormat (p : PortId) (payload : List Byte) (s : State) : State :=
  match finOf? 16 (num payload 0 1) with
  | none => s.refuse p .badValue
  | some f =>
    match s.base.format f with
    | none => s.refuse p .noFormat
    | some d => s.reply p (d.readReply f)

/-- REMOVE FORMAT (R21). -/
def doRemoveFormat (p : PortId) (payload : List Byte) (s : State) : State :=
  match finOf? 16 (num payload 0 1) with
  | none => s.refuse p .badValue
  | some f =>
    match s.base.format f with
    | none => s.refuse p .noFormat
    | some _ =>
      if s.base.formatInUse f then s.refuse p .formatInUse
      else { s with base := s.base.setFormat f none }.reply p []

/-- The period a PLAN QUERY plans for: the one carried at length 7, P0 at length 3 (R26, R188). -/
def queryPeriod (payload : List Byte) (d : Descriptor) : Nat :=
  if payload.length = 7 then num payload 3 4 else d.nominal

/-- The plan of a PLAN QUERY: a FORMAT-ONLY track without a serial (R26). -/
def queryPlan (payload : List Byte) (f : FormatId) (d : Descriptor) : TrackPlan :=
  buildPlan d { channel := 0, format := f, cylinder := num payload 1 1, head := num payload 2 1, data := none
                period := queryPeriod payload d, serial := none }

/-- What PLAN QUERY replies (R26, R188). -/
def TrackPlan.queryReply (t : TrackPlan) : List Byte :=
  be 4 t.period ++ be 2 t.capacity ++ be 2 t.used ++ byte t.gap :: be 2 t.closing
    ++ [t.layout.recordedCylinder t.cylinder, t.layout.recordedHead t.head, t.layout.recordedSize]
    ++ t.slots.flatMap fun x => [byte x.index, x.sector, flagByte x.deleted]

/-- PLAN QUERY (R26). -/
def doPlanQuery (p : PortId) (payload : List Byte) (s : State) : State :=
  match finOf? 16 (num payload 0 1) with
  | none => s.refuse p .badValue
  | some f =>
    if 83 < num payload 1 1 ∨ 1 < num payload 2 1 then s.refuse p .badValue
    else
      match s.base.format f with
      | none => s.refuse p .noFormat
      | some d =>
        if d.inWindow (queryPeriod payload d) then s.reply p (queryPlan payload f d).queryReply
        else s.refuse p .badValue

end Sys2Proof.Machine
end

