-- ==== Sys2Proof/Machine/Store.lean ====
section
/-! DEFINITION. The Image Store Controller: the region list (R28 to R30), clearing (R31, R32), the write fence
(R33 to R35), the arbiter (R37, R38), bursts, and the Image Check Unit they serve (R55 to R57). -/

namespace Sys2Proof.Machine

/-- The bytes of one block (R27). -/
def blockBytes : Nat := 4096

/-! The region list. -/

/-- First fit (R29): the base given and the list after it; none where no FREE region holds `len` blocks. -/
def allocate (len : Nat) (slot : SlotId) : List Region → Option (Nat × List Region)
  | [] => none
  | r :: rest =>
    if r.owner = none ∧ len ≤ r.length then
      let taken : Region := { base := r.base, length := len, owner := some slot }
      if r.length = len then some (r.base, taken :: rest)
      else some (r.base, taken :: { base := r.base + len, length := r.length - len, owner := none } :: rest)
    else (allocate len slot rest).map fun (base, after) => (base, r :: after)

/-- Joins adjacent FREE regions (R30). -/
def mergeFree : List Region → List Region
  | [] => []
  | r :: rest =>
    match r.owner, mergeFree rest with
    | none, q :: qs =>
      if q.owner = none then { r with length := r.length + q.length } :: qs else r :: q :: qs
    | _, after => r :: after

/-- Frees the region of a slot and merges it with its FREE neighbours (R30). -/
def freeRegion (slot : SlotId) (regions : List Region) : List Region :=
  mergeFree (regions.map fun r => if r.owner = some slot then { r with owner := none } else r)

/-- The store byte address at which a slot's region begins (R27, R33). -/
def Base.regionStart (b : Base) (slot : SlotId) : Nat :=
  ((b.image slot).opening.map (·.base)).getD 0 * blockBytes

/-- The bytes of a slot's region. -/
def Base.regionBytes (b : Base) (slot : SlotId) : Nat :=
  ((b.image slot).opening.map (·.length)).getD 0 * blockBytes

/-! Transfers and the fence. -/

/-- The number of data bytes in span (R34). -/
def inSpan (len x m : Nat) : Nat := min m (len - x)

/-- The bytes a transfer has still to move. -/
def Transfer.remaining (t : Transfer) : Nat :=
  match t.kind with
  | .write left _ => left.length
  | .read left _ => left

/-- The check at the grant of a burst: the write fence (R33), or the check of a port read (R35). -/
def Base.admits (b : Base) (p : PortId) (t : Transfer) : Bool :=
  let im := b.image t.slot
  decide (im.openNumber = t.openNumber) &&
    match t.kind with
    | .write _ _ => decide (im.state = .loading) && decide (im.opening.map (·.loader) = some p)
    | .read _ _ => decide (im.state ≠ .free) && decide (im.state ≠ .clearing)

/-- The reply payload of an ended transfer (R52, R53). -/
def Transfer.result (t : Transfer) : List Byte :=
  match t.kind with
  | .write _ written => [byte written]
  | .read _ got => got

/-- What a read's end does to the data cursor: it advances by the bytes returned (R53). -/
def Transfer.moveCursor (t : Transfer) (cur : Option DataCursor) : Option DataCursor :=
  match t.kind with
  | .write _ _ => cur
  | .read _ got => cur.map fun k => { k with offset := k.offset + got.length }

/-- A port's transfer ends and its reply becomes pending (R33, R51). -/
def PortContext.endTransfer (x : PortContext) (t : Transfer) : PortContext :=
  { x with
    transfer := none, cursor := t.moveCursor x.cursor
    pending := some { status := .ok, payload := t.result } }

/-! The waiting clients (R37). -/

/-- The length of a burst at an address with so many bytes to move: within one 32-byte aligned unit (R37). -/
def burstLen (addr remaining : Nat) : Nat := min remaining (32 - addr % 32)

/-- The room of a track buffer, in bytes (R37). -/
def bufferSize : Nat := 256

/-- A channel that holds fewer bytes than this is urgent (R37). -/
def urgentBelow : Nat := 64

/-- The burst a channel needs next; none when it has nothing to fetch (R37, R127). -/
def Channel.nextFetch (b : Base) (x : Channel) : Option (Nat × Nat × Nat) :=
  match x.fetch, x.disk with
  | i :: _, some k =>
    let addr := b.regionStart k.slot + i.offset
    some (i.slot, addr, burstLen addr i.remaining)
  | _, _ => none

/-- Whether a channel waits for a grant: it has bytes to fetch and room for the next burst (R37). -/
def Channel.waits (b : Base) (x : Channel) : Bool :=
  match x.nextFetch b with
  | some (_, _, len) => decide (x.buffer.length + len ≤ bufferSize)
  | none => false

/-- Whether a waiting channel is urgent (R37). -/
def Channel.urgent (b : Base) (x : Channel) : Bool := x.waits b && decide (x.buffer.length < urgentBelow)

/-- The first region a port has to clear (R31). -/
def Base.clearingOf (b : Base) (p : PortId) : Option Clearing := b.store.clearing.find? fun w => decide (w.port = p)

/-- Whether a port waits for a grant (R37). -/
def portWaits (b : Base) (f : Floor) (p : PortId) : Bool :=
  (f.port p).transfer.isSome || (b.clearingOf p).isSome

/-- Whether a background client waits for a grant (R37). -/
def backgroundWaits (b : Base) (f : Floor) : Background → Bool
  | .checkUnit =>
    match b.check with
    | some k => !k.spans.isEmpty
    | none => false
  | .portA => portWaits b f .a
  | .portB => portWaits b f .b

/-- The background rotation, starting after a client (R38). -/
def backgroundAfter : Background → List Background
  | .checkUnit => [.portA, .portB, .checkUnit]
  | .portA => [.portB, .checkUnit, .portA]
  | .portB => [.checkUnit, .portA, .portB]

/-- The channel rotation, starting after a channel (R38). -/
def channelsAfter (c : Chan) : List Chan := [c + 1, c + 2, c + 3, c + 4, c + 5, c + 6, c + 7, c]

/-- Whom a grant goes to (R38). -/
inductive Grant where
  | refresh
  | background (g : Background)
  | channel (c : Chan)
  deriving DecidableEq, Repr

/-- The first waiting background client in rotation. -/
def nextBackground (b : Base) (f : Floor) : Option Background :=
  (backgroundAfter b.store.lastBackground).find? (backgroundWaits b f)

/-- The first urgent channel in rotation, or the first waiting one when none is urgent (R38 cases 3 and 4). -/
def nextChannel (b : Base) (f : Floor) : Option Chan :=
  match (channelsAfter b.store.lastChannel).find? fun c => (f.chan c).urgent b with
  | some c => some c
  | none => (channelsAfter b.store.lastChannel).find? fun c => (f.chan c).waits b

/-- The arbiter's decision (R38). -/
def decideGrant (b : Base) (f : Floor) : Option Grant :=
  if b.store.refreshOwed then some .refresh
  else
    match nextBackground b f, nextChannel b f with
    | some g, none => some (.background g)
    | some g, some c => if b.store.share ≤ b.store.grantCount then some (.background g) else some (.channel c)
    | none, some c => some (.channel c)
    | none, none => none

/-- The arbiter's state after a grant (R36, R38). -/
def Store.afterGrant (t : Store) : Grant → Store
  | .refresh => { t with refreshOwed := false, refreshes := t.refreshes + 1 }
  | .background g => { t with lastBackground := g, grantCount := 0 }
  | .channel c => { t with lastChannel := c, grantCount := satAdd 16 t.grantCount 1 }

/-- A burst begins. -/
def Floor.begin (f : Floor) (work : BurstWork) (addr len : Nat) : Floor :=
  { f with burst := some { work := work, addr := addr, len := len, live := true } }

/-- A port's grant: its transfer's next burst, or the end of the transfer when the check at the grant fails
(R33, R35); otherwise the next burst of its clearing work (R31). -/
def grantPort (b : Base) (f : Floor) (p : PortId) : Floor :=
  match (f.port p).transfer with
  | some t =>
    if b.admits p t then
      let addr := b.regionStart t.slot + t.offset
      let len := burstLen addr t.remaining
      match t.kind with
      | .write left _ => f.begin (.write p (left.take len)) addr len
      | .read _ _ => f.begin (.read p) addr len
    else f.setPort p ((f.port p).endTransfer t)
  | none =>
    match b.clearingOf p with
    | some w =>
      let addr := b.regionStart w.slot + w.bytes
      f.begin (.clear w.slot) addr (burstLen addr (b.regionBytes w.slot - w.bytes))
    | none => f

/-- The Image Check Unit's grant (R55). -/
def grantCheck (b : Base) (f : Floor) : Floor :=
  match b.check with
  | some k =>
    match k.spans with
    | (offset, left) :: _ =>
      let addr := b.regionStart k.slot + offset
      f.begin .check addr (burstLen addr left)
    | [] => f
  | none => f

/-- A channel's grant (R37, R127). -/
def grantChannel (b : Base) (f : Floor) (c : Chan) : Floor :=
  match (f.chan c).nextFetch b with
  | some (slot, addr, len) => f.begin (.fetch c slot) addr len
  | none => f

/-- What a grant starts. -/
def startBurst (b : Base) (f : Floor) : Grant → Floor
  | .refresh => f.begin .refresh 0 0
  | .background .checkUnit => grantCheck b f
  | .background .portA => grantPort b f .a
  | .background .portB => grantPort b f .b
  | .channel c => grantChannel b f c

/-- The arbiter decides a grant when no burst is in progress (R38). -/
def State.grant (s : State) : State :=
  if s.floor.burst.isSome then s
  else
    match decideGrant s.base s.floor with
    | some g =>
      { s with
        base := { s.base with store := s.base.store.afterGrant g }
        floor := startBurst s.base s.floor g }
    | none => s

/-! The Image Check Unit (R55 to R57). -/

/-- The DATA spans of an image in track order, as region offset and length (R55). -/
def ImageSlot.spans (im : ImageSlot) : List (Nat × Nat) :=
  im.trackMap.filterMap fun e =>
    match e with
    | .data _ offset length => some (offset, length)
    | .skip => none
    | .formatOnly _ => none
    | .erase => none

/-- A check completes (R57): the computed check, READY or BAD, and the event, in one step. -/
def State.finishCheck (s : State) (slot : SlotId) (crc : Word32) : State :=
  let im := s.base.image slot
  let value := crc32Result crc
  let good := decide (im.expected = some value)
  { s with
    base := { s.base.setImage slot { im with
      computed := some value, state := if good then .ready else .bad } with check := none }
    floor := s.floor.post (if good then .imageReady else .imageBad) }

/-- The idle unit takes slots off the check list until it has one with bytes to read (R55); a check of no bytes
completes as it starts (entry 12). The first argument is fuel: each round takes one slot off the list. -/
def State.runChecks : Nat → State → State
  | 0, s => s
  | n + 1, s =>
    match s.base.check, s.base.checkList with
    | none, slot :: rest =>
      let t := { s with base := { s.base with checkList := rest } }
      let spans := (s.base.image slot).spans
      if spans.isEmpty then State.runChecks n (t.finishCheck slot crc32Preset)
      else { t with base := { t.base with
        check := some { slot := slot, crc := crc32Preset, spans := spans, bytesRead := 0 } } }
    | _, _ => s

/-- The idle unit takes the next slot from the check list, if there is one. -/
def State.nextCheck (s : State) : State := s.runChecks s.base.checkList.length

/-- A span list after a burst of so many bytes. -/
def spansAfter (len : Nat) : List (Nat × Nat) → List (Nat × Nat)
  | [] => []
  | (offset, left) :: rest => if left ≤ len then rest else (offset + len, left - len) :: rest

/-- A burst of the Image Check Unit completes: its bytes enter the CRC, and with the last of them the check
completes (R55). -/
def State.checkBurst (s : State) (bytes : List Byte) : State :=
  match s.base.check with
  | none => s
  | some k =>
    let crc := bytes.foldl crc32Byte k.crc
    let spans := spansAfter bytes.length k.spans
    if spans.isEmpty then (s.finishCheck k.slot crc).nextCheck
    else { s with base := { s.base with
      check := some { k with crc := crc, spans := spans, bytesRead := k.bytesRead + bytes.length } } }

/-! Completion of a burst (R37). -/

/-- A fetch list after a burst of so many bytes (R127). -/
def fetchAfterBurst (len : Nat) : List FetchItem → List FetchItem
  | [] => []
  | i :: rest =>
    if i.remaining ≤ len then rest
    else { i with offset := i.offset + len, remaining := i.remaining - len } :: rest

/-- Fetched bytes enter the channel's track buffer (R127). -/
def Channel.fill (x : Channel) (slot : Nat) (bytes : List Byte) : Channel :=
  { x with buffer := x.buffer ++ bytes.map (fun v => (slot, v)), fetch := fetchAfterBurst bytes.length x.fetch }

/-- A transfer after a burst of so many bytes, the bytes read among them. -/
def Transfer.advance (t : Transfer) (bytes : List Byte) : Transfer :=
  { t with
    offset := t.offset + bytes.length
    kind := match t.kind with
      | .write left written => .write (left.drop bytes.length) (written + bytes.length)
      | .read left got => .read (left - bytes.length) (got ++ bytes) }

/-- A burst of a port's transfer completes; the transfer ends with its last byte (R33). -/
def PortContext.transferBurst (x : PortContext) (bytes : List Byte) : PortContext :=
  match x.transfer with
  | none => x
  | some t =>
    if (t.advance bytes).remaining = 0 then x.endTransfer (t.advance bytes)
    else { x with transfer := some (t.advance bytes) }

/-- Clearing progress after a burst: complete at the region's end, when the slot enters LOADING (R31, R46). -/
def Base.clearBurst (b : Base) (slot : SlotId) (len : Nat) : Base :=
  let done := (b.store.clearing.any fun w => decide (w.slot = slot) && decide (b.regionBytes slot ≤ w.bytes + len))
  if done then
    { b.modImage slot (fun im => { im with state := .loading }) with
      store := { b.store with clearing := b.store.clearing.filter fun w => decide (w.slot ≠ slot) } }
  else
    { b with store := { b.store with
      clearing := b.store.clearing.map fun w => if w.slot = slot then { w with bytes := w.bytes + len } else w } }

/-- The DRAM after a burst (R37): written by a port's transfer or by clearing, whether or not its client still
wants it (R32, R63). -/
def Burst.memoryAfter (w : Burst) (mem : List Host.Cell) : List Host.Cell :=
  match w.work with
  | .write _ bytes => Memory.writeBytes mem w.addr bytes
  | .clear _ => Memory.writeBytes mem w.addr (List.replicate w.len 0)
  | .refresh => mem
  | .fetch _ _ => mem
  | .read _ => mem
  | .check => mem

/-- What a completed burst does for its client, the burst already over; `bytes` are those it read. -/
def State.deliver (s : State) (work : BurstWork) (bytes : List Byte) (len : Nat) : State :=
  match work with
  | .refresh => s
  | .fetch c slot => { s with floor := s.floor.modChan c fun x => x.fill slot bytes }
  | .write p written => { s with floor := s.floor.setPort p ((s.floor.port p).transferBurst written) }
  | .read p => { s with floor := s.floor.setPort p ((s.floor.port p).transferBurst bytes) }
  | .clear slot => { s with base := s.base.clearBurst slot len }
  | .check => s.checkBurst bytes

/-- Whether a burst lies in the store. -/
def Burst.inside (w : Burst) (b : Base) : Bool := decide (w.addr + w.len ≤ b.store.blocks * blockBytes)

/-- The burst in progress completes (R37). -/
def State.completeBurst (s : State) (w : Burst) : State :=
  let bytes := Memory.readBytes s.mem w.addr w.len
  let t := { s with mem := w.memoryAfter s.mem, floor := { s.floor with burst := none } }
  if w.live then t.deliver w.work bytes w.len else t

/-- The refresh timer's interval, in tenths of a microsecond (R36, entry 7). -/
def refreshInterval : Nat := 156

/-- The refresh timer expires: one refresh is owed (R36). Nothing happens before its time. -/
def Store.refreshExpiry (t : Store) : Store :=
  if refreshInterval ≤ t.refreshPhase then
    { t with refreshPhase := t.refreshPhase - refreshInterval, refreshOwed := true }
  else t

/-! Requests on the store (R39, R40). -/

/-- SET STORE (R39). -/
def doSetStore (p : PortId) (payload : List Byte) (s : State) : State :=
  let share := clamp 1 16 (num payload 0 1)
  { s with base := { s.base with store := { s.base.store with share := share } } }.reply p [byte share]

/-- The lengths of the FREE regions. -/
def freeLengths (regions : List Region) : List Nat :=
  regions.filterMap fun r => if r.owner = none then some r.length else none

/-- The clearing progress of a slot in blocks, while it is in CLEARING (R31, R40). -/
def Base.progress (b : Base) (slot : SlotId) : Option Nat :=
  (b.store.clearing.find? fun w => decide (w.slot = slot)).map fun w => w.bytes / blockBytes

/-- One region of READ STORE MAP (R40, R188). -/
def Base.regionReply (b : Base) (r : Region) : List Byte :=
  let progress := r.owner.bind b.progress
  be 2 r.base ++ be 2 r.length
    ++ (match r.owner with
        | some slot => [byte slot.val]
        | none => [0xFF])
    ++ flagByte progress.isSome :: be 2 (progress.getD 0)

/-- READ STORE MAP (R40). -/
def doReadStoreMap (p : PortId) (_payload : List Byte) (s : State) : State :=
  let regions := s.base.store.regions
  let free := freeLengths regions
  s.reply p (be 2 s.base.store.blocks ++ byte s.base.store.share :: be 2 free.sum
    ++ be 2 (free.foldl max 0) ++ byte regions.length :: regions.flatMap s.base.regionReply)

end Sys2Proof.Machine
end

