-- ==== Sys2Proof/Machine/Images.lean ====
section
/-! DEFINITION. The requests of the Image Directory and of the data cursors (R42 to R62). -/

namespace Sys2Proof.Machine

/-- The state check of R42 for requests taken in LOADING, CHECKING, READY and BAD: the refusal, if any. -/
def ImageSlot.openCheck (im : ImageSlot) : Option Status :=
  match im.state with
  | .free => some .noImage
  | .clearing => some .wrongImageState
  | .loading => none
  | .checking => none
  | .ready => none
  | .bad => none

/-- The state and loader checks of R42 for requests taken in LOADING from the loader: the refusal, if any. -/
def ImageSlot.loaderCheck (im : ImageSlot) (p : PortId) : Option Status :=
  match im.state with
  | .free => some .noImage
  | .loading => if im.opening.map (·.loader) = some p then none else some .notLoader
  | .clearing => some .wrongImageState
  | .checking => some .wrongImageState
  | .ready => some .wrongImageState
  | .bad => some .wrongImageState

/-! OPEN IMAGE (R45). -/

/-- The slot an OPEN IMAGE makes (R45). -/
def ImageSlot.opened (im : ImageSlot) (o : Opening) : ImageSlot :=
  { im with
    state := .clearing, openNumber := im.openNumber + 1, opening := some o, fillMark := 0
    trackMap := List.replicate (o.cylinders * o.heads) .skip, overflow := 0, expected := none, computed := none }

/-- OPEN IMAGE carried out on an allocated region (R31, R45). -/
def Base.openImage (b : Base) (slot : SlotId) (o : Opening) (regions : List Region) : Base :=
  { b.modImage slot (fun im => im.opened o) with
    store := { b.store with
      regions := regions
      clearing := b.store.clearing ++ [{ port := o.loader, slot := slot, bytes := 0 }] } }

/-- OPEN IMAGE (R45). -/
def doOpenImage (p : PortId) (payload : List Byte) (s : State) : State :=
  let len := num payload 1 4
  let cylinders := num payload 5 1
  let heads := num payload 6 1
  match finOf? 8 (num payload 0 1) with
  | none => s.refuse p .badValue
  | some slot =>
    if len < 1 ∨ s.base.store.blocks < len ∨ cylinders < 1 ∨ 84 < cylinders ∨ heads < 1 ∨ 2 < heads then
      s.refuse p .badValue
    else if (s.base.image slot).state ≠ .free then s.refuse p .slotBusy
    else
      match allocate len slot s.base.store.regions with
      | none => s.refuse p .noRoom
      | some (base, regions) =>
        let o : Opening := { loader := p, base := base, length := len, cylinders := cylinders, heads := heads }
        let b := s.base.openImage slot o regions
        { s with base := b }.reply p
          (byte slot.val :: be 2 (b.image slot).openNumber.toNat ++ be 2 base ++ be 2 len)

/-! DEFINE TRACK (R47, R48). -/

/-- The kind and format a DEFINE TRACK carries, after the value checks of R47 step 1. -/
inductive TrackChoice where
  | data (f : FormatId)
  | formatOnly (f : FormatId)
  | erase
  deriving DecidableEq, Repr

/-- Reads the kind and format bytes; none for BAD_VALUE. SKIP is refused, and ERASE does not look at the format
byte (R47). -/
def readTrackChoice (kind format : Nat) : Option TrackChoice :=
  match kind with
  | 1 => (finOf? 16 format).map .data
  | 2 => (finOf? 16 format).map .formatOnly
  | 3 => some .erase
  | _ => none

/-- Whether a cylinder and head lie in the slot's track map (R44). -/
def ImageSlot.inMap (im : ImageSlot) (c h : Nat) : Bool :=
  match im.opening with
  | some o => decide (c < o.cylinders) && decide (h < o.heads)
  | none => false

/-- Stores an entry of the track map. -/
def ImageSlot.setEntry (im : ImageSlot) (c h : Nat) (e : TrackEntry) : ImageSlot :=
  { im with trackMap := im.trackMap.set (im.trackIndex c h) e }

/-- The entry a DEFINE TRACK makes, and the bytes it adds to the fill mark; or its refusal (R47 steps 6 and 7,
R48). -/
def Base.newEntry (b : Base) (slot : SlotId) : TrackChoice → Except Status (TrackEntry × Nat)
  | .erase => .ok (.erase, 0)
  | .formatOnly f =>
    match b.format f with
    | none => .error .noFormat
    | some _ => .ok (.formatOnly f, 0)
  | .data f =>
    match b.format f with
    | none => .error .noFormat
    | some d =>
      let mark := (b.image slot).fillMark
      if b.regionBytes slot < mark + d.spanLen then .error .noRoom
      else .ok (.data f mark d.spanLen, d.spanLen)

/-- The reply payload of a DEFINE TRACK (R188). -/
def TrackEntry.defineReply : TrackEntry → List Byte
  | .data _ offset length => be 4 offset ++ be 4 length
  | .skip => []
  | .formatOnly _ => []
  | .erase => []

/-- DEFINE TRACK (R47, R48). -/
def doDefineTrack (p : PortId) (payload : List Byte) (s : State) : State :=
  let c := num payload 1 1
  let h := num payload 2 1
  match finOf? 8 (num payload 0 1), readTrackChoice (num payload 3 1) (num payload 4 1) with
  | some slot, some choice =>
    let im := s.base.image slot
    if 83 < c ∨ 1 < h then s.refuse p .badValue
    else
      match im.loaderCheck p with
      | some e => s.refuse p e
      | none =>
        if !im.inMap c h then s.refuse p .badValue
        else if im.entry c h ≠ some .skip then s.refuse p .trackDefined
        else
          match s.base.newEntry slot choice with
          | .error e => s.refuse p e
          | .ok (entry, grows) =>
            { s with base := s.base.setImage slot { im.setEntry c h entry with fillMark := im.fillMark + grows } }.reply
              p entry.defineReply
  | _, _ => s.refuse p .badValue

/-! SET CURSOR, WRITE DATA, READ DATA (R49 to R53). -/

/-- The span offset and length of an entry, for DATA (R44). -/
def TrackEntry.span? : TrackEntry → Option (Nat × Nat)
  | .data _ offset length => some (offset, length)
  | .skip => none
  | .formatOnly _ => none
  | .erase => none

/-- SET CURSOR (R49). -/
def doSetCursor (p : PortId) (payload : List Byte) (s : State) : State :=
  let c := num payload 1 1
  let h := num payload 2 1
  match finOf? 8 (num payload 0 1) with
  | none => s.refuse p .badValue
  | some slot =>
    let im := s.base.image slot
    if 83 < c ∨ 1 < h then s.refuse p .badValue
    else
      match im.openCheck with
      | some e => s.refuse p e
      | none =>
        match im.entry c h with
        | none => s.refuse p .badValue
        | some e =>
          let cursor : DataCursor :=
            { slot := slot, openNumber := im.openNumber, cylinder := c, head := h, offset := num payload 3 3 }
          { s with floor := s.floor.setPort p { s.floor.port p with cursor := some cursor } }.reply p
            (e.code :: be 4 ((e.span?.map Prod.snd).getD 0))

/-- The checks of R50 at a port's data cursor: the cursor and its track's span offset and length. -/
def State.atCursor (s : State) (p : PortId) : Except Status (DataCursor × Nat × Nat) :=
  match (s.floor.port p).cursor with
  | none => .error .noImage
  | some cur =>
    let im := s.base.image cur.slot
    if im.state = .free ∨ im.openNumber ≠ cur.openNumber then .error .noImage
    else
      match (im.entry cur.cylinder cur.head).bind TrackEntry.span? with
      | some span => .ok (cur, span)
      | none => .error .noTrack

/-- The largest data cursor offset (R49). -/
def maxOffset : Nat := 16777215

/-- A transfer begins: no reply is pending until it ends (R51). -/
def State.startTransfer (s : State) (p : PortId) (t : Transfer) : State :=
  { s with floor := s.floor.setPort p { s.floor.port p with transfer := some t, pending := none } }

/-- The slot's overflow count and the port's cursor after a WRITE DATA of `m` bytes, `kept` of them in span
(R34, R52). -/
def State.countWrite (s : State) (p : PortId) (cur : DataCursor) (m kept : Nat) : State :=
  { s with
    base := s.base.modImage cur.slot fun im => { im with overflow := satAdd 65535 im.overflow (m - kept) }
    floor := s.floor.setPort p { s.floor.port p with
      cursor := some { cur with offset := satAdd maxOffset cur.offset m } } }

/-- WRITE DATA (R34, R52). -/
def doWriteData (p : PortId) (payload : List Byte) (s : State) : State :=
  match s.atCursor p with
  | .error e => s.refuse p e
  | .ok (cur, start, len) =>
    let im := s.base.image cur.slot
    if im.opening.map (·.loader) ≠ some p then s.refuse p .notLoader
    else if im.state ≠ .loading then s.refuse p .wrongImageState
    else
      let kept := inSpan len cur.offset payload.length
      let t := s.countWrite p cur payload.length kept
      if kept = 0 then t.reply p [0]
      else
        t.startTransfer p { slot := cur.slot, openNumber := cur.openNumber, offset := start + cur.offset
                            kind := .write (payload.take kept) 0 }

/-- READ DATA (R53): the checks at the cursor come before its own check of the count (R50). -/
def doReadData (p : PortId) (payload : List Byte) (s : State) : State :=
  let count := num payload 0 1
  match s.atCursor p with
  | .error e => s.refuse p e
  | .ok (cur, start, len) =>
    if count < 1 ∨ 248 < count then s.refuse p .badValue
    else if len ≤ cur.offset then s.reply p []
    else
      s.startTransfer p { slot := cur.slot, openNumber := cur.openNumber, offset := start + cur.offset
                          kind := .read (inSpan len cur.offset count) [] }

/-! FINISH IMAGE and DELETE IMAGE (R54, R58, R59). -/

/-- FINISH IMAGE (R54). -/
def doFinishImage (p : PortId) (payload : List Byte) (s : State) : State :=
  match finOf? 8 (num payload 0 1) with
  | none => s.refuse p .badValue
  | some slot =>
    let im := s.base.image slot
    match im.loaderCheck p with
    | some e => s.refuse p e
    | none =>
      ({ s with base := { s.base.setImage slot { im with
            expected := some (BitVec.ofNat 32 (num payload 1 4)), computed := none, state := .checking } with
          checkList := s.base.checkList ++ [slot] } }.reply p []).nextCheck

/-- The work in flight on a slot is abandoned by its deletion: clearing, and a check waiting or under way (R32,
R59). -/
def State.abandon (s : State) (slot : SlotId) : State :=
  let checking := decide (s.base.check.map (·.slot) = some slot)
  { s with
    base := { s.base with
      store := { s.base.store with clearing := s.base.store.clearing.filter fun w => decide (w.slot ≠ slot) }
      checkList := s.base.checkList.filter fun k => decide (k ≠ slot)
      check := if checking then none else s.base.check }
    floor := s.floor.orphanBurst fun w => w.isClearOf slot || (checking && w.isCheck) }

/-- A deleted slot and its freed region (R30, R41, R58). -/
def Base.deleteImage (b : Base) (slot : SlotId) : Base :=
  { b.modImage slot (fun im => { ImageSlot.reset with openNumber := im.openNumber }) with
    store := { b.store with regions := freeRegion slot b.store.regions } }

/-- DELETE IMAGE (R58). -/
def doDeleteImage (p : PortId) (payload : List Byte) (s : State) : State :=
  match finOf? 8 (num payload 0 1) with
  | none => s.refuse p .badValue
  | some slot =>
    let im := s.base.image slot
    if im.state = .free then s.refuse p .noImage
    else if 0 < im.refCount then s.refuse p .imageInUse
    else
      let t := s.abandon slot
      ({ t with base := t.base.deleteImage slot }.reply p []).nextCheck

/-! READ IMAGE and READ TRACK ENTRY (R61, R62). -/

/-- The number of entries that meet a test. -/
def ImageSlot.count (im : ImageSlot) (test : TrackEntry → Bool) : Nat := (im.trackMap.filter test).length

/-- The check position of the image report (section 11.5). -/
def Base.checkPosition (b : Base) (slot : SlotId) : Nat :=
  if b.check.map (·.slot) = some slot then 0xFF else placeOf (fun k => decide (k = slot)) b.checkList

/-- The span bytes read so far by the check of a slot (R61). -/
def Base.checkBytes (b : Base) (slot : SlotId) : Nat :=
  match b.check with
  | some k => if k.slot = slot then k.bytesRead else 0
  | none => 0

/-- The image report of an open slot (R61, section 11.5). -/
def Base.imageReport (b : Base) (slot : SlotId) (o : Opening) : List Byte :=
  let im := b.image slot
  [byte slot.val, im.state.code] ++ be 2 im.openNumber.toNat ++ [portCode o.loader] ++ be 2 o.base ++ be 2 o.length
    ++ [byte o.cylinders, byte o.heads] ++ be 4 im.fillMark ++ be 4 (o.length * blockBytes - im.fillMark)
    ++ [byte (im.count fun e => e.code == 1), byte (im.count fun e => e.code == 2),
        byte (im.count fun e => e.code == 3), byte (im.count fun e => e.code == 0)]
    ++ be 2 im.overflow ++ [im.checkFlags]
    ++ be 4 ((im.expected.map (·.toNat)).getD 0) ++ be 4 ((im.computed.map (·.toNat)).getD 0)
    ++ [byte im.refCount, byte (b.checkPosition slot)] ++ be 4 (b.checkBytes slot)

/-- READ IMAGE (R61). -/
def doReadImage (p : PortId) (payload : List Byte) (s : State) : State :=
  match finOf? 8 (num payload 0 1) with
  | none => s.refuse p .badValue
  | some slot =>
    match (s.base.image slot).openCheck, (s.base.image slot).opening with
    | some e, _ => s.refuse p e
    | none, some o => s.reply p (s.base.imageReport slot o)
    | none, none => s.refuse p .noImage

/-- What READ TRACK ENTRY replies (R62, R188). -/
def TrackEntry.reply (e : TrackEntry) : List Byte :=
  [e.code, byte ((e.format?.map (·.val)).getD 0)]
    ++ be 4 ((e.span?.map Prod.fst).getD 0) ++ be 4 ((e.span?.map Prod.snd).getD 0)

/-- READ TRACK ENTRY (R62). -/
def doReadTrackEntry (p : PortId) (payload : List Byte) (s : State) : State :=
  let c := num payload 1 1
  let h := num payload 2 1
  match finOf? 8 (num payload 0 1) with
  | none => s.refuse p .badValue
  | some slot =>
    if 83 < c ∨ 1 < h then s.refuse p .badValue
    else
      match (s.base.image slot).openCheck with
      | some e => s.refuse p e
      | none =>
        match (s.base.image slot).entry c h with
        | none => s.refuse p .badValue
        | some e => s.reply p e.reply

end Sys2Proof.Machine
end

