-- ==== Sys2Proof/Machine/JobRequests.lean ====
section
/-! DEFINITION. The job requests: DEFINE, START, STOP, CANCEL, REMOVE and READ JOB (R66 to R74, R87). -/

namespace Sys2Proof.Machine

/-! DEFINE JOB (R66, R67, R87). -/

/-- The placement check of R87: the refusal of a serial specification against an image, if any. -/
def Base.serialCheck (b : Base) (im : ImageSlot) (sp : SerialSpec) : Option Status :=
  match im.entry sp.cylinder sp.head with
  | some (.data f _ _) =>
    match b.format f with
    | none => some .serialPlace
    | some d =>
      if d.sectors ≤ sp.index then some .serialPlace
      else if d.sectorSize < sp.offset + sp.encoding.length then some .serialPlace
      else if sp.encoding.maximum < sp.start then some .badValue
      else none
  | some .skip => some .serialPlace
  | some (.formatOnly _) => some .serialPlace
  | some .erase => some .serialPlace
  | none => some .serialPlace

/-- The most job records the queue holds (R64). -/
def maxJobs : Nat := 8

/-- The checks of R66 from the second on: the refusal of a job, if any. -/
def State.jobCheck (s : State) (j : Job) : Option Status :=
  if maxJobs ≤ s.floor.jobs.length then some .queueFull
  else if (s.floor.job j.id).isSome then some .jobExists
  else if (s.base.image j.slot).state = .free then some .noImage
  else
    match j.serial with
    | none => none
    | some st => s.base.serialCheck (s.base.image j.slot) st.spec

/-- One more reference to a slot (R60). -/
def ImageSlot.refer (im : ImageSlot) : ImageSlot := { im with refCount := im.refCount + 1 }

/-- One reference less to a slot (R60). -/
def ImageSlot.release (im : ImageSlot) : ImageSlot := { im with refCount := im.refCount - 1 }

/-- A new job at the back of the queue, and its reference to its slot (R67). -/
def State.addJob (s : State) (j : Job) : State :=
  { s with
    base := s.base.modImage j.slot ImageSlot.refer
    floor := { s.floor with jobs := s.floor.jobs ++ [j] } }

/-- DEFINE JOB (R66, R67). -/
def doDefineJob (p : PortId) (payload : List Byte) (s : State) : State :=
  match readJobDefinition p payload with
  | none => s.refuse p .badValue
  | some j =>
    match s.jobCheck j with
    | some e => s.refuse p e
    | none => (s.addJob j).reply p [byte j.id, byte (s.floor.jobs.length + 1)]

/-! The job a request names (R68). -/

/-- The job a request names: BAD_VALUE for id 0, NO_JOB for an id the queue does not hold (R68). -/
def State.namedJob (s : State) (payload : List Byte) : Except Status Job :=
  if num payload 0 1 = 0 then .error .badValue
  else
    match s.floor.job (num payload 0 1) with
    | none => .error .noJob
    | some j => .ok j

/-! START JOB (R69). -/

/-- START JOB (R69): an evaluation follows (R79). -/
def doStartJob (p : PortId) (payload : List Byte) (s : State) : State :=
  match s.namedJob payload with
  | .error e => s.refuse p e
  | .ok j =>
    if j.state ≠ .queued then s.refuse p .wrongJobState
    else if (s.base.image j.slot).state ≠ .ready then s.refuse p .imageNotReady
    else
      ({ s with floor := { s.floor.putJob { j with state := .running } with evalDue := true } }.reply p []).settle

/-! STOP JOB (R70). -/

/-- A job ended by a request, with JOB_ENDED (R70, R71, R85). -/
def Floor.endJob (f : Floor) (j : Job) (state : JobState) (cause : EndCause) : Floor :=
  (f.putJob { j with state := state, endCause := some cause }).post .jobEnded

/-- STOP JOB (R70). -/
def doStopJob (p : PortId) (payload : List Byte) (s : State) : State :=
  match s.namedJob payload with
  | .error e => s.refuse p e
  | .ok j =>
    if j.state ≠ .running then s.refuse p .wrongJobState
    else if j.inFlight = 0 then
      { s with floor := s.floor.endJob j .done .stopped }.reply p [JobState.code .done]
    else
      { s with floor := s.floor.putJob { j with state := .draining } }.reply p [JobState.code .draining]

/-! CANCEL JOB (R71, R72). -/

/-- Whether a channel holds a disk of a job (R72). -/
def Channel.holdsFor (x : Channel) (id : Nat) : Bool := x.holdsDisk && decide (x.disk.map (·.jobId) = some id)

/-- Inserts a channel by rank. -/
def insertByRank (rank : Chan → Nat) (c : Chan) : List Chan → List Chan
  | [] => [c]
  | d :: rest => if rank c ≤ rank d then c :: d :: rest else d :: insertByRank rank c rest

/-- The channels of a cancelled job in the order their notices are taken, which no rule fixes: a free value
(R72, R152, entry 14). -/
def Floor.noticeOrder (f : Floor) (id : Nat) : List Chan :=
  (allChannels.filter fun c => (f.chan c).holdsFor id).foldr
    (insertByRank fun c => Config.noticeRank f.freeDraws c.val) []

/-- The cancel notices of a job: each aborts its channel's disk with cause CANCELLED; a channel in POSTING is
left as it is (R72). -/
def Floor.cancelNotices (f : Floor) (id : Nat) : Floor :=
  { (f.noticeOrder id).foldl (fun g c => g.abortDisk c .cancelled) f with freeDraws := f.freeDraws + 1 }

/-- CANCEL JOB (R71). -/
def doCancelJob (p : PortId) (payload : List Byte) (s : State) : State :=
  match s.namedJob payload with
  | .error e => s.refuse p e
  | .ok j =>
    if j.state ≠ .running ∧ j.state ≠ .draining then s.refuse p .wrongJobState
    else
      ({ s with floor := (s.floor.endJob j .cancelled .cancelled).cancelNotices j.id }.reply p
        [byte j.inFlight]).settle

/-! REMOVE JOB (R73). -/

/-- The queue without a job's record (R64). -/
def Floor.dropJob (f : Floor) (id : Nat) : Floor := { f with jobs := f.jobs.filter fun j => j.id != id }

/-- REMOVE JOB (R73). -/
def doRemoveJob (p : PortId) (payload : List Byte) (s : State) : State :=
  match s.namedJob payload with
  | .error e => s.refuse p e
  | .ok j =>
    if j.state = .running ∨ j.state = .draining then s.refuse p .wrongJobState
    else if 0 < j.inFlight then s.refuse p .jobBusy
    else
      { s with
        base := s.base.modImage j.slot ImageSlot.release
        floor := s.floor.dropJob j.id }.reply p []

/-! READ JOB (R74, section 11.4). -/

/-- The serial part of a job report: the serial present byte and what follows it. -/
def serialReport : Option SerialState → List Byte
  | none => [0]
  | some st => 1 :: st.spec.bytes ++ be 5 st.next ++ byte st.reclaim.length :: st.reclaim.flatMap (be 4)

/-- The job report (section 11.4), with the job's position in the queue. -/
def Job.report (j : Job) (place : Nat) : List Byte :=
  [byte j.id, byte j.slot.val] ++ be 2 j.target ++ [j.drives, byte j.verifyEvery, j.window.code, byte j.retryLimit]
    ++ [portCode j.origin, j.state.code, endCauseCode j.endCause, byte place, flagByte j.issuable, byte j.inFlight]
    ++ be 4 j.issued ++ be 4 j.passed ++ be 4 j.failed ++ be 4 j.aborted ++ serialReport j.serial

/-- The queue summary (R74, section 11.4). -/
def Floor.queueSummary (f : Floor) : List Byte :=
  byte f.jobs.length :: (f.jobs.flatMap fun j => [byte j.id, j.state.code, byte j.inFlight])
    ++ byte f.waiting.length :: (f.waiting.flatMap fun c => [byte c.val, flagByte (f.chan c).frozen])
    ++ [flagByte f.lineHeld]

/-- READ JOB (R74): id 0 asks for the queue summary. -/
def doReadJob (p : PortId) (payload : List Byte) (s : State) : State :=
  let id := num payload 0 1
  if id = 0 then s.reply p s.floor.queueSummary
  else
    match s.floor.job id with
    | none => s.refuse p .noJob
    | some j => s.reply p (j.report (placeOf (fun k => k.id == id) s.floor.jobs))

end Sys2Proof.Machine
end

