-- ==== Sys2Proof/Machine/DriveRequests.lean ====
section
/-! DEFINITION. The drive requests: SET, ENABLE, DISABLE, FREEZE, RESUME, RESET and READ DRIVE (R100, R107, R113,
R114, R121, R122), and what a debounced SEATED change does to a channel (R108, R115 to R118, R166). -/

namespace Sys2Proof.Machine

/-- Replies with the channel's state, as it stands before any evaluation the request starts (entry 19). -/
def State.replyState (s : State) (p : PortId) (c : Chan) : State :=
  s.reply p [(s.floor.chan c).state.code]

/-! SET DRIVE (R100). -/

/-- Whether SET DRIVE is taken in a state (R100). -/
def ChannelState.settable : ChannelState → Bool
  | .disabled => true
  | .empty => true
  | .loaded => true
  | .fault => true
  | .spinup => false | .recal => false | .producing => false | .paused => false
  | .posting => false | .unloading => false

/-- An evaluation of assignment is due at once (R79). -/
def State.evaluateNow (s : State) : State := { s with floor := { s.floor with evalDue := true } }.settle

/-- SET DRIVE (R100): an undefined given flag is BAD_VALUE (R187); in LOADED an evaluation follows (R79). -/
def doSetDrive (p : PortId) (payload : List Byte) (s : State) : State :=
  match readChannel payload with
  | none => s.refuse p .badValue
  | some c =>
    let x := s.floor.chan c
    if 63 < num payload 1 1 then s.refuse p .badValue
    else if !x.state.settable then s.refuse p .driveBusy
    else
      let settings := x.settings.given payload
      let t := { s with floor := s.floor.setChan c { x with settings := settings } }.reply p settings.bytes
      if x.state = .loaded then t.evaluateNow else t

/-! ENABLE DRIVE and DISABLE DRIVE (R107). -/

/-- A channel enters EMPTY, or LOADED when SEATED is active (R107, R117, R121). -/
def Floor.enterBySeat (f : Floor) (c : Chan) : Floor :=
  if (f.drive c).seated then f.enterLoaded c else f.modChan c fun x => { x with state := .empty }

/-- ENABLE DRIVE (R107). -/
def doEnableDrive (p : PortId) (payload : List Byte) (s : State) : State :=
  match readChannel payload with
  | none => s.refuse p .badValue
  | some c =>
    if (s.floor.chan c).state ≠ .disabled then s.refuse p .wrongState
    else
      let t := { s with floor := s.floor.enterBySeat c }.replyState p c
      if (s.floor.drive c).seated then t.settle else t

/-- A channel is disabled (R107): in FAULT its fault is cleared and its fail count becomes 0 (R119); from EMPTY and
LOADED both stand (entry 31). -/
def Channel.disable (x : Channel) : Channel :=
  if x.state = .fault then { x with state := .disabled, fault := none, failCount := 0 }
  else { x with state := .disabled }

/-- Whether DISABLE DRIVE is taken in a state (R107). -/
def ChannelState.disablable : ChannelState → Bool
  | .empty => true
  | .loaded => true
  | .fault => true
  | .disabled => false | .spinup => false | .recal => false | .producing => false | .paused => false
  | .posting => false | .unloading => false

/-- DISABLE DRIVE (R107). -/
def doDisableDrive (p : PortId) (payload : List Byte) (s : State) : State :=
  match readChannel payload with
  | none => s.refuse p .badValue
  | some c =>
    if !(s.floor.chan c).state.disablable then s.refuse p .driveBusy
    else { s with floor := (s.floor.leaveWaiting c).modChan c Channel.disable }.reply p []

/-! FREEZE DRIVE and RESUME DRIVE (R113, R114). -/

/-- FREEZE DRIVE (R113). -/
def doFreezeDrive (p : PortId) (payload : List Byte) (s : State) : State :=
  match readChannel payload with
  | none => s.refuse p .badValue
  | some c =>
    { s with floor := s.floor.modChan c fun x => { x with frozen := true } }.replyState p c

/-- A channel resumed (R114): from PAUSED it enters SPINUP, resuming. -/
def Channel.resume (x : Channel) : Channel :=
  if x.state = .paused then { x.startSpinup true with frozen := false } else { x with frozen := false }

/-- RESUME DRIVE (R114). -/
def doResumeDrive (p : PortId) (payload : List Byte) (s : State) : State :=
  match readChannel payload with
  | none => s.refuse p .badValue
  | some c =>
    let x := s.floor.chan c
    let t := { s with floor := s.floor.setChan c x.resume }.replyState p c
    if x.state = .loaded then t.evaluateNow else t

/-! RESET DRIVE (R121). -/

/-- The fail count becomes 0 and the fault is cleared (R121). -/
def Channel.clearFaults (x : Channel) : Channel := { x with failCount := 0, fault := none }

/-- RESET DRIVE by the channel's state (R121). An aborted disk's record is offered at once (R117). -/
def Floor.resetDrive (f : Floor) (c : Chan) : Floor :=
  match (f.chan c).state with
  | .spinup | .recal | .producing | .paused =>
    (({ f.abortDisk c .driveReset with offers := f.offers }).offer c).modChan c Channel.clearFaults
  | .fault => (f.modChan c Channel.clearFaults).enterBySeat c
  | .disabled | .empty | .loaded | .posting | .unloading => f.modChan c Channel.clearFaults

/-- RESET DRIVE (R121). -/
def doResetDrive (p : PortId) (payload : List Byte) (s : State) : State :=
  match readChannel payload with
  | none => s.refuse p .badValue
  | some c =>
    if (s.floor.chan c).state = .disabled then s.refuse p .wrongState
    else ({ s with floor := s.floor.resetDrive c }.replyState p c).settle

/-! READ DRIVE (R122, section 11.5). -/

/-- The part of the drive report while a disk is held. -/
def Disk.report (k : Disk) : List Byte :=
  [byte k.jobId, byte k.slot.val, diskFlags k.serial.isSome k.verified k.capture, k.window.code, byte k.retryLimit]
    ++ be 4 ((k.serial.map Prod.fst).getD 0) ++ [byte k.cylinder, byte k.head, byte k.retries]
    ++ be 2 k.totalRetries ++ [byte k.softCount, byte k.tracksWritten] ++ be 2 k.elapsed ++ k.capture.bytes
    ++ (match k.serial with
        | some (_, sp) => sp.bytes
        | none => List.replicate 12 0)
    ++ be 4 k.startTime.toNat

/-- Four intervals, oldest first, unused ones zero. -/
def intervalBytes (xs : List Word32) : List Byte :=
  (xs ++ List.replicate (4 - xs.length) 0).flatMap fun (i : Word32) => be 4 i.toNat

/-- The drive report (section 11.5). -/
def driveReport (b : Base) (f : Floor) (c : Chan) : List Byte :=
  let x := f.chan c
  [byte c.val, x.state.code, phaseCode x.phase, driveFlags b f c, faultCode x.fault, byte x.failCount, x.bin.code,
      driveLevels b f c]
    ++ x.settings.bytes
    ++ [byte (x.cylinder.getD 0), byte (placeOf (fun d => decide (d = c)) f.waiting), byte x.intervals.length]
    ++ intervalBytes x.intervals ++ be 4 (x.meanPeriod.getD 0)
    ++ (match x.disk with
        | some k => k.report
        | none => [])

/-- READ DRIVE (R122). -/
def doReadDrive (p : PortId) (payload : List Byte) (s : State) : State :=
  match readChannel payload with
  | none => s.refuse p .badValue
  | some c => s.reply p (driveReport s.base s.floor c)

/-! Debounced SEATED changes (R166 and the rules it gathers). -/

/-- A debounced SEATED change reaches the channel, by its state (R108, R115, R117, R118, R120). -/
def Floor.seatChange (f : Floor) (c : Chan) (active : Bool) : Floor :=
  match (f.chan c).state, active with
  | .empty, true => f.enterLoaded c
  | .loaded, false => (f.leaveWaiting c).modChan c fun x => { x with state := .empty }
  | .spinup, false => f.abortDisk c .diskPulled
  | .recal, false => f.abortDisk c .diskPulled
  | .producing, false => f.abortDisk c .diskPulled
  | .paused, false => f.abortDisk c .diskPulled
  | .posting, false => f.modChan c fun x => { x with removed := true }
  | .unloading, false =>
    let g := (f.modChan c fun x => { x with bin := .none }).modDrive c fun d =>
      { d with release := false, bin1 := false, bin0 := false }
    if (f.chan c).fault.isSome then g.enterFault c else g.modChan c fun x => { x with state := .empty }
  | .disabled, _ => f
  | .fault, _ => f
  | .empty, false => f
  | .loaded, true => f
  | .spinup, true => f
  | .recal, true => f
  | .producing, true => f
  | .paused, true => f
  | .posting, true => f
  | .unloading, true => f

/-- The debounce timer expires (R165): the debounced level takes the raw level when they differ, and the channel
sees the change. -/
def Floor.debounceExpiry (f : Floor) (c : Chan) : Floor :=
  let d := f.drive c
  let g := f.modDrive c fun d => { d with debounce := none, seated := d.rawSeated }
  if d.rawSeated = d.seated then g else g.seatChange c d.rawSeated

/-- A raw SEATED edge (R165): the debounce timer is loaded on a level that differs from the debounced one, and
stopped on one that does not. -/
def DriveLines.edge (d : DriveLines) (level : Bool) : DriveLines :=
  { d with rawSeated := level, debounce := if level = d.seated then none else some debounceTime }

end Sys2Proof.Machine
end

