-- ==== Sys2Proof/Machine/PortRequests.lean ====
section
/-! DEFINITION. The ring, line, event and device requests, PORT RESET (R160 to R162, R171, R173, R182 to R184,
R186), and the fetch window (R177). -/

namespace Sys2Proof.Machine

/-! The ring (R160 to R162). -/

/-- The record a cursor names (R151). -/
def Ring.at (r : Ring) (cursor : Word32) : Option ResultRecord := r.records.find? fun x => x.sequence == cursor

/-- READ RESULT (R160): the record at the cursor, which rises by one; with this port following, the ring then
frees and serves its waiters (R155, R157). -/
def doReadResult (p : PortId) (_payload : List Byte) (s : State) : State :=
  let x := s.floor.port p
  match s.floor.ring.at x.resultCursor with
  | none => s.reply p []
  | some r =>
    let t := { s with floor := s.floor.setPort p { x with resultCursor := x.resultCursor + 1 } }.reply p r.bytes
    if x.follow then { t with floor := t.floor.serveRing }.settle else t

/-- The value of a two-valued item; none for BAD_VALUE (section 11.2). -/
def readFlag (payload : List Byte) : Option Bool :=
  match num payload 0 1 with
  | 0 => some false
  | 1 => some true
  | _ => none

/-- SET RESULT FOLLOW (R161): the reply shows the flag and the cursor, then the ring frees and serves (R155,
R159). A cursor that R156 moves up in that freeing is replied as it stood before (entry 34, DEDUCED). -/
def doSetResultFollow (p : PortId) (payload : List Byte) (s : State) : State :=
  match readFlag payload with
  | none => s.refuse p .badValue
  | some v =>
    let x := s.floor.port p
    let t := { s with floor := s.floor.setPort p { x with follow := v } }.reply p
      (flagByte v :: be 4 x.resultCursor.toNat)
    { t with floor := t.floor.serveRing }.settle

/-- The newest held sequence number, 0 when there is none (R162, R187). -/
def Ring.newest (r : Ring) : Word32 := if r.records.isEmpty then 0 else r.writePos - 1

/-- What READ RING replies (R162, R188). -/
def Floor.ringReport (f : Floor) : List Byte :=
  byte f.ring.records.length :: be 4 f.ring.oldest.toNat ++ be 4 f.ring.newest.toNat ++ be 4 f.ring.writePos.toNat
    ++ be 4 f.portA.resultCursor.toNat ++ be 4 f.portB.resultCursor.toNat ++ f.ringFlags :: be 2 f.ring.dropped
    ++ byte f.ring.waiters.length :: f.ring.waiters.map fun c => byte c.val

/-- READ RING (R162). -/
def doReadRing (p : PortId) (_payload : List Byte) (s : State) : State := s.reply p s.floor.ringReport

/-! The line (R171, R173). -/

/-- SET LINE HOLD (R171): the reply carries the level after the request, with every change of level already
taken and what it made due carried out, which may hold the line again (R158, R170). -/
def doSetLineHold (p : PortId) (payload : List Byte) (s : State) : State :=
  match readFlag payload with
  | none => s.refuse p .badValue
  | some v =>
    let t := { s with floor := s.floor.setPort p { s.floor.port p with lineHold := v } }.settle
    t.reply p [flagByte v, flagByte t.floor.lineHeld]

/-- READ LINE (R173). -/
def doReadLine (p : PortId) (_payload : List Byte) (s : State) : State :=
  s.reply p (s.floor.lineFlags :: s.floor.drives.toList.map DriveLines.flags)

/-! Events (R182, R183). -/

/-- READ EVENTS (R182): the reply carries the set, which is then empty. -/
def doReadEvents (p : PortId) (_payload : List Byte) (s : State) : State :=
  let x := s.floor.port p
  { s with floor := s.floor.setPort p { x with events := [] } }.reply p (eventBytes x.events ++ eventBytes x.mask)

/-- SET EVENT MASK (R183). -/
def doSetEventMask (p : PortId) (payload : List Byte) (s : State) : State :=
  match readEventSet payload with
  | none => s.refuse p .badValue
  | some set =>
    let x := s.floor.port p
    { s with floor := s.floor.setPort p { x with mask := set } }.reply p (eventBytes set ++ eventBytes x.events)

/-! The device (R184). -/

/-- The code of a reset cause (R188). -/
def ResetCause.code : ResetCause → Byte
  | .powerOn => 0
  | .resetPin => 1

/-- READ DEVICE (R184). -/
def doReadDevice (p : PortId) (_payload : List Byte) (s : State) : State :=
  s.reply p [0x5A, 0x31, 0x08, 0x80, 0x01, byte (s.base.store.blocks / 256), s.base.resetCause.code,
    byte s.base.resetCount, portCode p]

/-! PORT RESET (R186). -/

/-- Steps 1 to 7 of R186 on the port's own context; the other port and every other block stand. -/
def PortContext.clear (x : PortContext) (writePos : Word32) : PortContext :=
  { PortContext.reset with resultCursor := writePos, window := x.window }

/-- PORT RESET (R186): steps 1 to 5 and 7, then the ring frees and serves its waiters (R164); the change of line
it makes is taken as one (R172). The cursor stands at the write position of before the serving, as R164 and
R186 order the two; a worked case of chapter 8 has it at the one after (entry 33, DESIGN CHOICE). -/
def doPortReset (p : PortId) (_payload : List Byte) (s : State) : State :=
  let f := s.floor.orphanBurst (BurstWork.isTransferOf p)
  let g := f.setPort p ((f.port p).clear f.ring.writePos)
  ({ s with floor := g.serveRing }.reply p []).settle

/-! The fetch window (R177). -/

/-- The reply of a port that is transferring or holds none (R177). -/
def noReply : Reply := { status := .noReply, payload := [] }

/-- The code byte of a fetch window is received: the port fixes the reply it clocks out (R177). -/
def PortContext.startFetch (x : PortContext) : PortContext :=
  { x with
    window := some (match x.transfer, x.pending with
      | none, some r => { reply := r, pending := true }
      | _, _ => { reply := noReply, pending := false }) }

/-- What SDO carries at byte `k` of a window, counted from 0 (R174, R177): FF hex with the code byte, then the
reply frame, then FF hex. -/
def FetchWindow.sdo (w : FetchWindow) (k : Nat) : Byte :=
  (0xFF :: w.reply.status.code :: byte w.reply.payload.length :: w.reply.payload).getD k 0xFF

/-- What SDO carries at byte `k` of whatever is clocked on a port: FF hex at every byte outside a fetch window,
while SEL is inactive, in a request window and after a reset; the reply within one (R174, R177, R185). -/
def PortContext.sdo (x : PortContext) (k : Nat) : Byte :=
  match x.window with
  | none => 0xFF
  | some w => w.sdo k

/-- Whether a window of so many clocks clocked out its reply whole (R174, R177). -/
def FetchWindow.whole (w : FetchWindow) (clocks : Nat) : Bool :=
  decide (3 + w.reply.payload.length ≤ clocks / 8)

/-- A fetch window ends (R177): a pending reply clocked out whole is cleared. -/
def PortContext.endFetch (x : PortContext) (clocks : Nat) : PortContext :=
  match x.window with
  | none => x
  | some w => { x with window := none, pending := if w.pending && w.whole clocks then none else x.pending }

end Sys2Proof.Machine
end

