-- ==== Sys2Proof/Machine/Station.lean ====
section
/-! DEFINITION. What a port does with a frame whose window has ended: carrying a request out (R176), the hold list
(R178) and frame errors (R175). -/

namespace Sys2Proof.Machine

/-- A request carried out or refused, whole, at the block that owns the state it names (R176). -/
def perform (r : Request) : PortId → List Byte → State → State :=
  match r with
  | .readDevice => doReadDevice
  | .portReset => doPortReset
  | .readEvents => doReadEvents
  | .setEventMask => doSetEventMask
  | .setLineHold => doSetLineHold
  | .readLine => doReadLine
  | .defineFormat => doDefineFormat
  | .readFormat => doReadFormat
  | .removeFormat => doRemoveFormat
  | .planQuery => doPlanQuery
  | .openImage => doOpenImage
  | .defineTrack => doDefineTrack
  | .setCursor => doSetCursor
  | .writeData => doWriteData
  | .readData => doReadData
  | .finishImage => doFinishImage
  | .deleteImage => doDeleteImage
  | .readImage => doReadImage
  | .readTrackEntry => doReadTrackEntry
  | .readStoreMap => doReadStoreMap
  | .setStore => doSetStore
  | .defineJob => doDefineJob
  | .startJob => doStartJob
  | .stopJob => doStopJob
  | .cancelJob => doCancelJob
  | .removeJob => doRemoveJob
  | .readJob => doReadJob
  | .setDrive => doSetDrive
  | .enableDrive => doEnableDrive
  | .disableDrive => doDisableDrive
  | .freezeDrive => doFreezeDrive
  | .resumeDrive => doResumeDrive
  | .resetDrive => doResetDrive
  | .readDrive => doReadDrive
  | .readResult => doReadResult
  | .setResultFollow => doSetResultFollow
  | .readRing => doReadRing

/-- The most frames a hold list takes (R178). -/
def holdSize : Nat := 4

/-- A frame joins the back of the port's hold list, or is discarded when the list is full (R178). -/
def PortContext.enqueue (x : PortContext) (h : HeldFrame) : PortContext :=
  if x.hold.length < holdSize then { x with hold := x.hold ++ [h] } else x

/-- A frame is taken: the request is carried out, or the frame-error reply becomes pending (R176, R178). -/
def State.take (s : State) (p : PortId) : HeldFrame → State
  | .request r payload => perform r p payload s
  | .error status => s.refuse p status

/-- Whether a port is transferring (R51). -/
def State.transferring (s : State) (p : PortId) : Bool := (s.floor.port p).transfer.isSome

/-- A frame whose window has ended (R176, R178): held while the port is transferring, PORT RESET apart. -/
def State.receive (s : State) (p : PortId) (h : HeldFrame) : State :=
  match h with
  | .request .portReset payload => perform .portReset p payload s
  | _ =>
    if s.transferring p then { s with floor := s.floor.setPort p ((s.floor.port p).enqueue h) }
    else s.take p h

/-- The held frame of a request frame with a payload: a length no rule admits makes it a frame error (R175). -/
def heldFrame (r : Request) (payload : List Byte) : HeldFrame :=
  if r.admits payload.length && decide (payload.length ≤ 250) then .request r payload else .error .badLength

/-- A station request arrives (R175, R176, R178). While RESET is active the ports are deaf (R185). -/
def State.station (s : State) (r : Request) (p : PortId) (payload : List Byte) : State :=
  if s.base.resetActive then s else s.receive p (heldFrame r payload)

/-- A window that no request comes of ends (R175). -/
def State.reject (s : State) (p : PortId) (bits : List Bool) : State :=
  match judge (windowBytes bits) with
  | .error e => s.receive p (.error (frameStatus e))
  | .nothing => s
  | .fetch => s
  | .request _ _ => s

/-- After a transfer ends, the frames of the hold list are taken in order until one starts a transfer (R178). The
first argument is fuel: one round for each frame. -/
def State.drain (p : PortId) : Nat → State → State
  | 0, s => s
  | n + 1, s =>
    if s.transferring p then s
    else
      match (s.floor.port p).hold with
      | [] => s
      | h :: rest =>
        State.drain p n
          ({ s with floor := s.floor.setPort p { s.floor.port p with hold := rest } }.take p h)

/-- The hold list of a port is drained when the port's transfer ended between two states. -/
def State.drainEnded (s t : State) (p : PortId) : State :=
  if s.transferring p && !t.transferring p then State.drain p holdSize t else t

/-- The hold lists of the ports whose transfers a step has ended, drained in that step (R178). -/
def State.drainHolds (s t : State) : State := s.drainEnded (s.drainEnded t .a) .b

end Sys2Proof.Machine
end

