-- ==== Sys2Proof/Machine/DeviceCommands.lean ====
section
/-! DEFINITION. The meanings of the commands that no drive and no port sends: resets, clock, store, Layout
Engine. -/

namespace Sys2Proof.Machine

/-- The outcome of an exec. -/
abbrev Result := Host.Outcome State Fault Refusal

/-- An event the part takes: nothing happens while RESET is active (R185). -/
def State.taken (s : State) (g : State → State) : State := if s.base.resetActive then s else g s

/-- POWER_ON (R185). -/
def execPowerOn (pins : PinLevels) (s : State) : Result := .next (s.powerOn pins)

/-- RESET_PIN_ASSERT (R185). -/
def execResetPinAssert (s : State) : Result := .next s.assertReset

/-- RESET_PIN_RELEASE (R185): nothing ends when no reset stands (entry 1). -/
def execResetPinRelease (size1 size0 : Bool) (s : State) : Result :=
  .next (if s.base.resetActive then s.releaseReset size1 size0 else s)

/-- The elapsed count of a disk after one microsecond (R149). -/
def Disk.tick (k : Disk) : Disk :=
  if k.elapsedRest + 1 < 10000 then { k with elapsedRest := k.elapsedRest + 1 }
  else { k with elapsedRest := 0, elapsed := satAdd 65535 k.elapsed 1 }

/-- A channel after one microsecond: its five timers (R101) and its disk's elapsed count (R149). -/
def Channel.tick (x : Channel) : Channel :=
  { x with
    stepTimer := tickTimer x.stepTimer, settleTimer := tickTimer x.settleTimer
    spinupTimer := tickTimer x.spinupTimer, watchdog := tickTimer x.watchdog
    pulseTimer := tickTimer x.pulseTimer
    disk := if x.holdsDisk then x.disk.map Disk.tick else x.disk }

/-- A drive's debounce timer after one microsecond (R165). -/
def DriveLines.tick (d : DriveLines) : DriveLines := { d with debounce := tickTimer d.debounce }

/-- One microsecond on the refresh timer, in tenths (R36, entry 7). -/
def Store.tick (t : Store) : Store := { t with refreshPhase := t.refreshPhase + 10 }

/-- The levels of the TRK0 and WPROT inputs (R98, entry 3). -/
def Base.sense (b : Base) (trk0 wprot : BitVec 8) : Base := { b with trk0 := trk0, wprot := wprot }

/-- One microsecond passes: the timebase and every timer on it (R1, R36, R101, R149, R165). -/
def State.tick (s : State) : State :=
  { s with
    base := { s.base with timebase := s.base.timebase + 1, store := s.base.store.tick }
    floor := { s.floor with
      channels := map8 Channel.tick s.floor.channels, drives := map8 DriveLines.tick s.floor.drives } }

/-- TIMEBASE_TICK (R1): the inputs are sensed even while RESET is active (entry 22). -/
def execTimebaseTick (trk0 wprot : BitVec 8) (s : State) : Result :=
  .next ({ s with base := s.base.sense trk0 wprot }.taken State.tick)

/-- REFRESH_TIMER_EXPIRY (R36). -/
def execRefreshTimerExpiry (s : State) : Result :=
  .next (s.taken fun s => { s with base := { s.base with store := s.base.store.refreshExpiry } })

/-- ARBITER_GRANT (R38): the hold list follows a transfer that the check at the grant ends (R33, R178). -/
def execArbiterGrant (s : State) : Result := .next (s.taken fun s => s.drainHolds s.grant)

/-- STORE_BURST_COMPLETE (R37); a burst beyond the last block of the store is a fault (entry 23). -/
def execStoreBurstComplete (s : State) : Result :=
  match s.floor.burst with
  | none => .next s
  | some w =>
    if s.base.resetActive then .next s
    else if w.inside s.base then .next (s.drainHolds (s.completeBurst w))
    else .fault .storeAddress

/-- PLAN_BUILD_COMPLETE (R23). -/
def execPlanBuildComplete (s : State) : Result :=
  .next (s.taken fun s => { s with floor := s.floor.finishPlan s.base })

end Sys2Proof.Machine
end

