-- ==== Sys2Proof/Machine/DriveCommands.lean ====
section
/-! DEFINITION. The meanings of the commands from drives, channel timers and the handler. An event that cannot
occur in a state leaves it unchanged (entry 1). -/

namespace Sys2Proof.Machine

/-- An event of one channel: taken when it can occur, with what it makes due carried out in the step. -/
def State.channelEvent (s : State) (occurs : Bool) (g : Base → Floor → Floor) : State :=
  s.taken fun s => if occurs then { s with floor := g s.base s.floor }.settle else s

/-- INDEX_EDGE (R104): captured while MOTOR is active. -/
def execIndexEdge (c : Chan) (s : State) : Result :=
  .next (s.channelEvent (s.floor.chan c).motor fun b f => f.indexEdge b c)

/-- The running write pass of a channel: in PRODUCING, phase WRITE (R128). -/
def Channel.writing (x : Channel) : Option WriteStream :=
  if x.state = .producing ∧ x.phase = some .write then x.attempt.stream else none

/-- Whether the next byte of a running write pass is due: byte x, x × 8,000 / R µs after the edge (R129,
entry 18). -/
def Channel.byteDue (b : Base) (x : Channel) : Bool :=
  match x.writing with
  | some st => reached b x (x.writeLayout b).2.1 st.position
  | none => false

/-- WRITE_STREAM_BYTE (R129). -/
def execWriteStreamByte (c : Chan) (s : State) : Result :=
  .next (s.channelEvent ((s.floor.chan c).byteDue s.base) fun b f =>
    match (f.chan c).writing with
    | some st => f.writeByte b c st
    | none => f)

/-- The plan and slot of an underrun of the write pass, when one is due (R131). -/
def Channel.underrunDue (b : Base) (x : Channel) : Option (TrackPlan × Nat) :=
  match x.writing, x.attempt.plan with
  | some st, some p => if x.byteDue b then (x.underrunSlot st).map fun j => (p, j) else none
  | _, _ => none

/-- WRITE_UNDERRUN (R131). -/
def execWriteUnderrun (c : Chan) (s : State) : Result :=
  .next (s.channelEvent ((s.floor.chan c).underrunDue s.base).isSome fun b f =>
    match (f.chan c).underrunDue b with
    | some (p, j) => f.writeUnderrun b c p j
    | none => f)

/-- Whether a channel is in a verify pass (R133). -/
def Channel.verifying (x : Channel) : Bool :=
  decide (x.state = .producing) && decide (x.phase = some .verify)

/-- READ_BACK_BYTE (R134, R136). -/
def execReadBackByte (c : Chan) (flux : List (BitVec 9)) (s : State) : Result :=
  .next (s.channelEvent (s.floor.chan c).verifying fun b f => f.readByte b c flux)

/-- What VERIFY_SLOT_RESULT gives, when the reading of the present slot has ended: the plan, the read side, the
slot, the slots after it and the result (R135). -/
def Channel.slotVerdict (b : Base) (x : Channel) :
    Option (TrackPlan × ReadSide × Nat × List Nat × SlotResult) :=
  match x.attempt.plan, x.attempt.read with
  | some p, some r =>
    match r.slots with
    | j :: rest => (slotResultNow b x p.layout r j).map fun result => (p, r, j, rest, result)
    | [] => none
  | _, _ => none

/-- VERIFY_SLOT_RESULT (R135). -/
def execVerifySlotResult (c : Chan) (s : State) : Result :=
  .next (s.taken fun s =>
    if (s.floor.chan c).verifying then
      match (s.floor.chan c).slotVerdict s.base with
      | some (p, r, j, rest, result) => { s with floor := s.floor.giveSlotResult c p r j rest result }
      | none => s
    else s)

/-- VERIFY_UNDERRUN (R136). -/
def execVerifyUnderrun (c : Chan) (s : State) : Result :=
  .next (s.channelEvent ((s.floor.chan c).verifying && (s.floor.chan c).verifyUnderrunSlot.isSome) fun b f =>
    match (f.chan c).verifyUnderrunSlot with
    | some (p, j) => f.endAttempt b c (.bad .underrun (p.sectorOf j))
    | none => f)

/-- STEP_PULSE_TIMER_EXPIRY (R102). -/
def execStepPulseTimerExpiry (c : Chan) (s : State) : Result :=
  .next (s.taken fun s =>
    if timerExpired (s.floor.chan c).pulseTimer then { s with floor := s.floor.modChan c Channel.pulseExpiry }
    else s)

/-- STEP_TIMER_EXPIRY (R102, R111). -/
def execStepTimerExpiry (c : Chan) (s : State) : Result :=
  .next (s.channelEvent (timerExpired (s.floor.chan c).stepTimer) fun b f => f.stepExpiry b c)

/-- SETTLE_TIMER_EXPIRY (R103). -/
def execSettleTimerExpiry (c : Chan) (s : State) : Result :=
  .next (s.taken fun s =>
    if timerExpired (s.floor.chan c).settleTimer then { s with floor := s.floor.modChan c Channel.settleExpiry }
    else s)

/-- SPINUP_TIMER_EXPIRY (R110). -/
def execSpinupTimerExpiry (c : Chan) (s : State) : Result :=
  .next (s.channelEvent (timerExpired (s.floor.chan c).spinupTimer) fun _ f => f.spinupExpiry c)

/-- INDEX_WATCHDOG_EXPIRY (R106). -/
def execIndexWatchdogExpiry (c : Chan) (s : State) : Result :=
  .next (s.channelEvent (timerExpired (s.floor.chan c).watchdog) fun _ f => f.watchdogExpiry c)

/-! The handler (R165, R170). -/

/-- The handler's own pull of LINE HOLD (R169). -/
def Floor.handlerPulls (f : Floor) (pulls : Bool) : Floor := { f with line := { f.line with handler := pulls } }

/-- LINE_HOLD_PIN_CHANGE (R170): while RESET is active the pull stands at the pin and is not taken (R169, R185). -/
def execLineHoldPinChange (pulls : Bool) (s : State) : Result :=
  .next ({ s with floor := s.floor.handlerPulls pulls }.taken State.settle)

/-- SEATED_EDGE (R165): a level that the input has already is no edge (entry 1); while RESET is active only the
raw level changes (R165, R185). -/
def execSeatedEdge (c : Chan) (level : Bool) (s : State) : Result :=
  .next
    (if (s.floor.drive c).rawSeated = level then s
    else if s.base.resetActive then
      { s with floor := s.floor.modDrive c fun d => { d with rawSeated := level } }
    else { s with floor := s.floor.modDrive c fun d => d.edge level })

/-- DEBOUNCE_TIMER_EXPIRY (R165, R166). -/
def execDebounceTimerExpiry (c : Chan) (s : State) : Result :=
  .next (s.channelEvent (timerExpired (s.floor.drive c).debounce) fun _ f => f.debounceExpiry c)

end Sys2Proof.Machine
end

