-- ==== Sys2Proof/Machine/StationCommands.lean ====
section
/-! DEFINITION. The meanings of the commands from the station ports: fetch windows (R177), rejected frames (R175)
and the station requests, each taken or held by its port (R176, R178). -/

namespace Sys2Proof.Machine

/-- FETCH_START (R177). -/
def execFetchStart (p : PortId) (s : State) : Result :=
  .next (s.taken fun s => { s with floor := s.floor.setPort p (s.floor.port p).startFetch })

/-- FETCH_WINDOW_END (R177). -/
def execFetchWindowEnd (p : PortId) (clocks : Nat) (s : State) : Result :=
  .next (s.taken fun s => { s with floor := s.floor.setPort p ((s.floor.port p).endFetch clocks) })

/-- FRAME_REJECTED (R175). -/
def execFrameRejected (p : PortId) (bits : List Bool) (s : State) : Result :=
  .next (s.taken fun s => s.reject p bits)

/-- READ_DEVICE (R184). -/
def execReadDevice (p : PortId) (payload : List Byte) (s : State) : Result :=
  .next (s.station .readDevice p payload)

/-- PORT_RESET (R186). -/
def execPortReset (p : PortId) (payload : List Byte) (s : State) : Result :=
  .next (s.station .portReset p payload)

/-- READ_EVENTS (R182). -/
def execReadEvents (p : PortId) (payload : List Byte) (s : State) : Result :=
  .next (s.station .readEvents p payload)

/-- SET_EVENT_MASK (R183). -/
def execSetEventMask (p : PortId) (payload : List Byte) (s : State) : Result :=
  .next (s.station .setEventMask p payload)

/-- SET_LINE_HOLD (R171). -/
def execSetLineHold (p : PortId) (payload : List Byte) (s : State) : Result :=
  .next (s.station .setLineHold p payload)

/-- READ_LINE (R173). -/
def execReadLine (p : PortId) (payload : List Byte) (s : State) : Result :=
  .next (s.station .readLine p payload)

/-- DEFINE_FORMAT (R18). -/
def execDefineFormat (p : PortId) (payload : List Byte) (s : State) : Result :=
  .next (s.station .defineFormat p payload)

/-- READ_FORMAT (R20). -/
def execReadFormat (p : PortId) (payload : List Byte) (s : State) : Result :=
  .next (s.station .readFormat p payload)

/-- REMOVE_FORMAT (R21). -/
def execRemoveFormat (p : PortId) (payload : List Byte) (s : State) : Result :=
  .next (s.station .removeFormat p payload)

/-- PLAN_QUERY (R26). -/
def execPlanQuery (p : PortId) (payload : List Byte) (s : State) : Result :=
  .next (s.station .planQuery p payload)

/-- OPEN_IMAGE (R45). -/
def execOpenImage (p : PortId) (payload : List Byte) (s : State) : Result :=
  .next (s.station .openImage p payload)

/-- DEFINE_TRACK (R47, R48). -/
def execDefineTrack (p : PortId) (payload : List Byte) (s : State) : Result :=
  .next (s.station .defineTrack p payload)

/-- SET_CURSOR (R49). -/
def execSetCursor (p : PortId) (payload : List Byte) (s : State) : Result :=
  .next (s.station .setCursor p payload)

/-- WRITE_DATA (R52). -/
def execWriteData (p : PortId) (payload : List Byte) (s : State) : Result :=
  .next (s.station .writeData p payload)

/-- READ_DATA (R53). -/
def execReadData (p : PortId) (payload : List Byte) (s : State) : Result :=
  .next (s.station .readData p payload)

/-- FINISH_IMAGE (R54). -/
def execFinishImage (p : PortId) (payload : List Byte) (s : State) : Result :=
  .next (s.station .finishImage p payload)

/-- DELETE_IMAGE (R58). -/
def execDeleteImage (p : PortId) (payload : List Byte) (s : State) : Result :=
  .next (s.station .deleteImage p payload)

/-- READ_IMAGE (R61). -/
def execReadImage (p : PortId) (payload : List Byte) (s : State) : Result :=
  .next (s.station .readImage p payload)

/-- READ_TRACK_ENTRY (R62). -/
def execReadTrackEntry (p : PortId) (payload : List Byte) (s : State) : Result :=
  .next (s.station .readTrackEntry p payload)

/-- READ_STORE_MAP (R40). -/
def execReadStoreMap (p : PortId) (payload : List Byte) (s : State) : Result :=
  .next (s.station .readStoreMap p payload)

/-- SET_STORE (R39). -/
def execSetStore (p : PortId) (payload : List Byte) (s : State) : Result :=
  .next (s.station .setStore p payload)

/-- DEFINE_JOB (R66, R67). -/
def execDefineJob (p : PortId) (payload : List Byte) (s : State) : Result :=
  .next (s.station .defineJob p payload)

/-- START_JOB (R69). -/
def execStartJob (p : PortId) (payload : List Byte) (s : State) : Result :=
  .next (s.station .startJob p payload)

/-- STOP_JOB (R70). -/
def execStopJob (p : PortId) (payload : List Byte) (s : State) : Result :=
  .next (s.station .stopJob p payload)

/-- CANCEL_JOB (R71). -/
def execCancelJob (p : PortId) (payload : List Byte) (s : State) : Result :=
  .next (s.station .cancelJob p payload)

/-- REMOVE_JOB (R73). -/
def execRemoveJob (p : PortId) (payload : List Byte) (s : State) : Result :=
  .next (s.station .removeJob p payload)

/-- READ_JOB (R74). -/
def execReadJob (p : PortId) (payload : List Byte) (s : State) : Result :=
  .next (s.station .readJob p payload)

/-- SET_DRIVE (R100). -/
def execSetDrive (p : PortId) (payload : List Byte) (s : State) : Result :=
  .next (s.station .setDrive p payload)

/-- ENABLE_DRIVE (R107). -/
def execEnableDrive (p : PortId) (payload : List Byte) (s : State) : Result :=
  .next (s.station .enableDrive p payload)

/-- DISABLE_DRIVE (R107). -/
def execDisableDrive (p : PortId) (payload : List Byte) (s : State) : Result :=
  .next (s.station .disableDrive p payload)

/-- FREEZE_DRIVE (R113). -/
def execFreezeDrive (p : PortId) (payload : List Byte) (s : State) : Result :=
  .next (s.station .freezeDrive p payload)

/-- RESUME_DRIVE (R114). -/
def execResumeDrive (p : PortId) (payload : List Byte) (s : State) : Result :=
  .next (s.station .resumeDrive p payload)

/-- RESET_DRIVE (R121). -/
def execResetDrive (p : PortId) (payload : List Byte) (s : State) : Result :=
  .next (s.station .resetDrive p payload)

/-- READ_DRIVE (R122). -/
def execReadDrive (p : PortId) (payload : List Byte) (s : State) : Result :=
  .next (s.station .readDrive p payload)

/-- READ_RESULT (R160). -/
def execReadResult (p : PortId) (payload : List Byte) (s : State) : Result :=
  .next (s.station .readResult p payload)

/-- SET_RESULT_FOLLOW (R161). -/
def execSetResultFollow (p : PortId) (payload : List Byte) (s : State) : Result :=
  .next (s.station .setResultFollow p payload)

/-- READ_RING (R162). -/
def execReadRing (p : PortId) (payload : List Byte) (s : State) : Result :=
  .next (s.station .readRing p payload)

end Sys2Proof.Machine
end

