-- ==== Sys2Proof/Machine/Dispatch.lean ====
section
/-! DEFINITION. One arm for each command. -/

namespace Sys2Proof.Machine

/-- The effect of a command on everything but the queue. -/
def exec (i : Instr) (s : State) : Host.Outcome State Fault Refusal :=
  match i with
  | .powerOn pins => Sys2Proof.Machine.execPowerOn pins s
  | .resetPinAssert => Sys2Proof.Machine.execResetPinAssert s
  | .resetPinRelease size1 size0 => Sys2Proof.Machine.execResetPinRelease size1 size0 s
  | .timebaseTick trk0 wprot => Sys2Proof.Machine.execTimebaseTick trk0 wprot s
  | .refreshTimerExpiry => Sys2Proof.Machine.execRefreshTimerExpiry s
  | .arbiterGrant => Sys2Proof.Machine.execArbiterGrant s
  | .storeBurstComplete => Sys2Proof.Machine.execStoreBurstComplete s
  | .planBuildComplete => Sys2Proof.Machine.execPlanBuildComplete s
  | .indexEdge c => Sys2Proof.Machine.execIndexEdge c s
  | .writeUnderrun c => Sys2Proof.Machine.execWriteUnderrun c s
  | .verifySlotResult c => Sys2Proof.Machine.execVerifySlotResult c s
  | .verifyUnderrun c => Sys2Proof.Machine.execVerifyUnderrun c s
  | .stepPulseTimerExpiry c => Sys2Proof.Machine.execStepPulseTimerExpiry c s
  | .stepTimerExpiry c => Sys2Proof.Machine.execStepTimerExpiry c s
  | .settleTimerExpiry c => Sys2Proof.Machine.execSettleTimerExpiry c s
  | .spinupTimerExpiry c => Sys2Proof.Machine.execSpinupTimerExpiry c s
  | .indexWatchdogExpiry c => Sys2Proof.Machine.execIndexWatchdogExpiry c s
  | .lineHoldPinChange pulls => Sys2Proof.Machine.execLineHoldPinChange pulls s
  | .seatedEdge c level => Sys2Proof.Machine.execSeatedEdge c level s
  | .debounceTimerExpiry c => Sys2Proof.Machine.execDebounceTimerExpiry c s
  | .fetchStart p => Sys2Proof.Machine.execFetchStart p s
  | .fetchWindowEnd p clocks => Sys2Proof.Machine.execFetchWindowEnd p clocks s
  | .frameRejected p bits => Sys2Proof.Machine.execFrameRejected p bits s
  | .readDevice p payload => Sys2Proof.Machine.execReadDevice p payload s
  | .portReset p payload => Sys2Proof.Machine.execPortReset p payload s
  | .readEvents p payload => Sys2Proof.Machine.execReadEvents p payload s
  | .setEventMask p payload => Sys2Proof.Machine.execSetEventMask p payload s
  | .setLineHold p payload => Sys2Proof.Machine.execSetLineHold p payload s
  | .readLine p payload => Sys2Proof.Machine.execReadLine p payload s
  | .defineFormat p payload => Sys2Proof.Machine.execDefineFormat p payload s
  | .readFormat p payload => Sys2Proof.Machine.execReadFormat p payload s
  | .removeFormat p payload => Sys2Proof.Machine.execRemoveFormat p payload s
  | .planQuery p payload => Sys2Proof.Machine.execPlanQuery p payload s
  | .openImage p payload => Sys2Proof.Machine.execOpenImage p payload s
  | .defineTrack p payload => Sys2Proof.Machine.execDefineTrack p payload s
  | .setCursor p payload => Sys2Proof.Machine.execSetCursor p payload s
  | .writeData p payload => Sys2Proof.Machine.execWriteData p payload s
  | .readData p payload => Sys2Proof.Machine.execReadData p payload s
  | .finishImage p payload => Sys2Proof.Machine.execFinishImage p payload s
  | .deleteImage p payload => Sys2Proof.Machine.execDeleteImage p payload s
  | .readImage p payload => Sys2Proof.Machine.execReadImage p payload s
  | .readTrackEntry p payload => Sys2Proof.Machine.execReadTrackEntry p payload s
  | .readStoreMap p payload => Sys2Proof.Machine.execReadStoreMap p payload s
  | .setStore p payload => Sys2Proof.Machine.execSetStore p payload s
  | .defineJob p payload => Sys2Proof.Machine.execDefineJob p payload s
  | .startJob p payload => Sys2Proof.Machine.execStartJob p payload s
  | .stopJob p payload => Sys2Proof.Machine.execStopJob p payload s
  | .cancelJob p payload => Sys2Proof.Machine.execCancelJob p payload s
  | .removeJob p payload => Sys2Proof.Machine.execRemoveJob p payload s
  | .readJob p payload => Sys2Proof.Machine.execReadJob p payload s
  | .setDrive p payload => Sys2Proof.Machine.execSetDrive p payload s
  | .enableDrive p payload => Sys2Proof.Machine.execEnableDrive p payload s
  | .disableDrive p payload => Sys2Proof.Machine.execDisableDrive p payload s
  | .freezeDrive p payload => Sys2Proof.Machine.execFreezeDrive p payload s
  | .resumeDrive p payload => Sys2Proof.Machine.execResumeDrive p payload s
  | .resetDrive p payload => Sys2Proof.Machine.execResetDrive p payload s
  | .readDrive p payload => Sys2Proof.Machine.execReadDrive p payload s
  | .readResult p payload => Sys2Proof.Machine.execReadResult p payload s
  | .setResultFollow p payload => Sys2Proof.Machine.execSetResultFollow p payload s
  | .readRing p payload => Sys2Proof.Machine.execReadRing p payload s
  | .writeStreamByte c => Sys2Proof.Machine.execWriteStreamByte c s
  | .readBackByte c flux => Sys2Proof.Machine.execReadBackByte c flux s

end Sys2Proof.Machine
end

