-- ==== Sys2Proof/Safety.lean ====
section
/-! DEFINITION. What counts as a safe state of the part: the laws the manual states of every state it can be in, in
the terms the claims use. -/

namespace Sys2Proof.Machine

/-! Laws of one block. -/

/-- The regions lie one after another from a base, each of at least one block, up to an end (R28). -/
def tiles : Nat → List Region → Nat → Bool
  | base, [], stop => decide (base = stop)
  | base, r :: rest, stop => decide (r.base = base) && decide (1 ≤ r.length) && tiles (base + r.length) rest stop

/-- No two FREE regions are adjacent (R28). -/
def apart : List Region → Bool
  | r :: q :: rest => !(r.owner.isNone && q.owner.isNone) && apart (q :: rest)
  | _ => true

/-- The law of the region list (R28), of a store that has blocks (R27). -/
def Store.regionLaw (t : Store) : Bool := decide (1 ≤ t.blocks) && tiles 0 t.regions t.blocks && apart t.regions

/-- The ranges of the arbiter's share and count (R38, R39). -/
def Store.arbiterLaw (t : Store) : Bool :=
  decide (1 ≤ t.share) && decide (t.share ≤ 16) && decide (t.grantCount ≤ 16)

/-- The law of the ring: at most 64 records (R150). -/
def Ring.law (r : Ring) : Bool := decide (r.records.length ≤ 64)

/-- The ring's records carry consecutive sequence numbers that end at the write position (R150). -/
def Ring.consecutive (r : Ring) : Bool :=
  decide (r.records.map (·.sequence) = (List.range r.records.length).map fun i => r.oldest + BitVec.ofNat 32 i)
    && decide (r.writePos = r.oldest + BitVec.ofNat 32 r.records.length)

/-- A cursor lies between the oldest held sequence number and the write position, inclusive (R151, R156). -/
def Ring.bounds (r : Ring) (cursor : Word32) : Bool := decide ((cursor - r.oldest).toNat ≤ r.records.length)

/-- The laws of the ring and of both cursors, following or not (R150, R151, R156). -/
def Floor.cursorLaw (f : Floor) : Bool :=
  f.ring.law && f.ring.consecutive && f.ring.bounds f.portA.resultCursor && f.ring.bounds f.portB.resultCursor

/-- The law of LINE HOLD: the internal contribution is held while a channel waits for the ring (R158), and but
during a reset the recorded level is the level (R169, R170). -/
def State.lineLaw (s : State) : Bool :=
  (s.floor.line.internal == !s.floor.ring.waiters.isEmpty)
    && (s.base.resetActive || s.floor.line.recorded == s.floor.lineHeld)

/-- The laws of a port: at most four held frames, and none but during a transfer (R178), and each event kind at
most once, in ascending order (R180). -/
def PortContext.law (x : PortContext) : Bool :=
  decide (x.hold.length ≤ 4) && (x.transfer.isSome || x.hold.isEmpty)
    && decide (x.events = allEvents.filter fun e => decide (e ∈ x.events))

/-- The laws of both ports. -/
def State.portLaw (s : State) : Bool := s.floor.portA.law && s.floor.portB.law

/-! What a job's counts obey. -/

/-- The counts of a job add up (R65). -/
def Job.countLaw (j : Job) : Prop := j.issued = j.passed + j.failed + j.aborted + j.inFlight

/-- A job with a target never has more good and running disks than the target (R75). -/
def Job.targetLaw (j : Job) : Prop := j.target ≠ 0 → j.passed + j.inFlight ≤ j.target

/-- The channels that hold a disk of a job, from its assignment until its record is taken (R65, R72). -/
def Floor.holders (f : Floor) (id : Nat) : List Chan :=
  allChannels.filter fun c => decide ((f.chan c).disk.map (·.jobId) = some id)

/-- The numbers of a serialised job that are not retired: those of its reclaim list, and those of the disks that
channels hold of it (R92). -/
def Floor.openNumbers (f : Floor) (id : Nat) (st : SerialState) : List Nat :=
  st.reclaim ++ (f.holders id).filterMap fun c => (f.chan c).disk.bind fun k => k.serial.map Prod.fst

/-- The books of a serialised job's numbers (R86, R88 to R93). -/
structure Floor.NumberLaw (f : Floor) (j : Job) (st : SerialState) : Prop where
  /-- The step is that of R86. -/
  step : 1 ≤ st.spec.step ∧ st.spec.step ≤ 255
  /-- The reclaim list is ascending without duplicates (R88). -/
  ascending : st.reclaim.Pairwise (· < ·)
  /-- Its length and the disks in flight are at most eight (R91). -/
  few : st.reclaim.length + j.inFlight ≤ 8
  /-- The counter has issued a number for each good record posted, each entry of the reclaim list and each disk
  in flight, and no other (R92). -/
  next : st.next = st.spec.start + st.spec.step * (j.passed + st.reclaim.length + j.inFlight)
  /-- Next passes the serial maximum by the step at most (R93). -/
  bound : st.next ≤ st.spec.encoding.maximum + st.spec.step
  /-- Every disk of the job carries a number and the job's specification (R89, R94). -/
  carried : ∀ c k, (f.chan c).disk = some k → k.jobId = j.id → ∃ v, k.serial = some (v, st.spec)
  /-- No number stands in two places (R92). -/
  once : (f.openNumbers j.id st).Nodup
  /-- Each was drawn from the counter, and none is above the serial maximum (R89, R92). -/
  issued : ∀ v ∈ f.openNumbers j.id st, v < st.next ∧ v ≤ st.spec.encoding.maximum ∧
    ∃ i, v = st.spec.start + st.spec.step * i

/-- The numbers of every job: those of a serialised one obey its law, the disks of another carry none (R86), and
a record carries its disk's number (R94, R148). -/
structure Floor.SerialLaw (f : Floor) : Prop where
  numbers : ∀ j ∈ f.jobs, ∀ st, j.serial = some st → f.NumberLaw j st
  plain : ∀ j ∈ f.jobs, j.serial = none → ∀ c k, (f.chan c).disk = some k → k.jobId = j.id → k.serial = none
  record : ∀ c body, (f.chan c).record = some body →
    body.serial = (f.chan c).disk.bind fun k => k.serial.map Prod.fst

/-- The books of the Job Queue: what each job counts is what the channels hold. -/
structure Floor.JobLaw (f : Floor) : Prop where
  /-- At most eight records, no two of one id (R64). -/
  few : f.jobs.length ≤ 8
  distinct : (f.jobs.map (·.id)).Nodup
  /-- The counts add up (R65) and stay within the target (R75). -/
  counts : ∀ j ∈ f.jobs, j.countLaw
  targets : ∀ j ∈ f.jobs, j.targetLaw
  /-- In flight are the disks that channels hold (R65, R72). -/
  inFlight : ∀ j ∈ f.jobs, j.inFlight = (f.holders j.id).length
  /-- A disk held belongs to a job of the queue and is made from that job's image (R73, R80). -/
  owned : ∀ c k, (f.chan c).disk = some k → ∃ j ∈ f.jobs, j.id = k.jobId ∧ j.slot = k.slot
  /-- A disk is held in SPINUP, RECAL, PRODUCING, PAUSED and POSTING, and in no other state (R99). -/
  held : ∀ c, (f.chan c).disk.isSome = (f.chan c).holdsDisk
  /-- A record is complete in POSTING, and in no other state (R117, R149). -/
  posting : ∀ c, (f.chan c).record.isSome = decide ((f.chan c).state = .posting)
  /-- A record to be taken is that of the disk held (R149). -/
  record : ∀ c body, (f.chan c).record = some body → (f.chan c).disk.map (·.jobId) = some body.jobId

/-- The channel waiting list names the channels in LOADED, each once (R76). -/
def Floor.waitingLaw (f : Floor) : Prop := f.waiting.Nodup ∧ ∀ c, c ∈ f.waiting ↔ (f.chan c).state = .loaded

/-- The Job Queue's books, its serial numbers, the waiting list, and the reference counts of the image slots
(R60). -/
structure State.JobLaw (s : State) : Prop where
  jobs : s.floor.JobLaw
  serials : s.floor.SerialLaw
  waiting : s.floor.waitingLaw
  references : ∀ k, (s.base.image k).refCount = (s.floor.jobs.filter fun j => decide (j.slot = k)).length

/-! The store's books. -/

/-- The region an open slot records, as the region list holds it. -/
def Opening.region (o : Opening) (k : SlotId) : Region := { base := o.base, length := o.length, owner := some k }

/-- The region list and the Image Directory: the second law of R28, and what keeps it. -/
structure Base.OwnLaw (b : Base) : Prop where
  regions : b.store.regionLaw = true
  /-- A FREE slot records no region, every other one does (R41). -/
  open? : ∀ k, (b.image k).opening = none ↔ (b.image k).state = .free
  /-- A slot owns exactly the region it records, and none when it is FREE (R28). -/
  owns : ∀ k, (b.store.regions.filter fun r => decide (r.owner = some k)) =
    ((b.image k).opening.map fun o => o.region k).toList
  /-- Clearing work is that of slots in CLEARING (R31). -/
  clearing : ∀ w ∈ b.store.clearing, (b.image w.slot).state = .clearing
  /-- Slots waiting for a check or under one are in CHECKING, each once (R55). -/
  waiting : ∀ k ∈ b.checkList, (b.image k).state = .checking ∧ b.check.map (·.slot) ≠ some k
  once : b.checkList.Nodup
  checked : ∀ k, b.check = some k → (b.image k.slot).state = .checking
  /-- While RESET is active every slot is FREE (R41, R185). -/
  reset : b.resetActive = true → ∀ k, (b.image k).state = .free

/-! Why every burst lies in the store. -/

/-- A span of a region's bytes lies within a slot's region. -/
def Base.fits (b : Base) (k : SlotId) (offset len : Nat) : Prop := offset + len ≤ b.regionBytes k

/-- What every DATA entry obeys: its span lies below the fill mark and is the n × S of its format, which stays
as it is while the entry names it (R19, R44, R48). -/
structure Base.SpanLaw (b : Base) : Prop where
  mark : ∀ k, (b.image k).fillMark ≤ b.regionBytes k
  none : ∀ k, (b.image k).state = .free → (b.image k).trackMap = []
  span : ∀ k f offset len, TrackEntry.data f offset len ∈ (b.image k).trackMap →
    offset + len ≤ (b.image k).fillMark ∧ ∃ d, b.format f = some d ∧ d.spanLen = len
  cleared : ∀ w ∈ b.store.clearing, w.bytes ≤ b.regionBytes w.slot
  check : ∀ k, b.check = some k → ∀ x ∈ k.spans, b.fits k.slot x.1 x.2

/-- What a port's data transfer obeys: while the check at its grant can pass, what is left of it lies in the
slot's region (R33 to R35, R51). -/
def Base.transferLaw (b : Base) (p : PortId) (t : Transfer) : Prop :=
  (b.image t.slot).openNumber = t.openNumber →
    match t.kind with
    | .write left _ => (b.image t.slot).opening.map (·.loader) = some p →
        (b.image t.slot).state ≠ .clearing ∧ b.fits t.slot t.offset left.length
    | .read left _ => (b.image t.slot).state ≠ .free → (b.image t.slot).state ≠ .clearing →
        b.fits t.slot t.offset left

/-- What the requests to the Layout Engine obey that are still wanted: the channel waits in PLAN for a disk of
that image, and the span is one of its DATA entries (R22, R25, R124). -/
structure State.PlanLaw (s : State) : Prop where
  queued : ∀ r ∈ s.floor.engine.queue,
    (s.floor.chan r.channel).state = .producing ∧ (s.floor.chan r.channel).phase = some .plan ∧
      ∀ slot offset, r.data = some (slot, offset) →
        (s.floor.chan r.channel).disk.map (·.slot) = some slot ∧
          ∃ len, TrackEntry.data r.format offset len ∈ (s.base.image slot).trackMap
  built : ∀ w, s.floor.engine.building = some w → w.discarded = false →
    (s.floor.chan w.request.channel).state = .producing ∧ (s.floor.chan w.request.channel).phase = some .plan ∧
      ∀ slot offset, w.request.data = some (slot, offset) →
        (s.floor.chan w.request.channel).disk.map (·.slot) = some slot ∧
          s.base.fits slot offset w.layout.spanLen
  once : (s.floor.engine.queue.map (·.channel) ++
    ((s.floor.engine.building.filter fun w => !w.discarded).map (·.request.channel)).toList).Nodup
  seek : ∀ c, (s.floor.chan c).seekTarget.isSome = true →
    (s.floor.chan c).state = .producing ∧ (s.floor.chan c).phase = some .seek

/-- What a channel's plan and the image bytes it has still to fetch obey (R127). -/
structure State.FetchLaw (s : State) : Prop where
  idle : ∀ c, (s.floor.chan c).disk = none ∨ (s.floor.chan c).state = .posting →
    (s.floor.chan c).fetch = [] ∧ (s.floor.chan c).attempt.plan = none
  fetch : ∀ c k, (s.floor.chan c).disk = some k → ∀ i ∈ (s.floor.chan c).fetch,
    s.base.fits k.slot i.offset i.remaining
  plan : ∀ c k p, (s.floor.chan c).disk = some k → (s.floor.chan c).attempt.plan = some p →
    ∀ x ∈ p.slots, ∀ offset, x.source = .image offset → s.base.fits k.slot offset p.layout.sectorSize

/-- What the burst in progress obeys: it lies in the store, it is none while RESET is active, and a port that
still wants it has as many bytes to move (R28, R33, R37). -/
structure State.BurstLaw (s : State) : Prop where
  inside : ∀ w, s.floor.burst = some w → w.addr + w.len ≤ s.base.store.blocks * blockBytes
  reset : s.base.resetActive = true → s.floor.burst = none
  write : ∀ w p bytes, s.floor.burst = some w → w.live = true → w.work = .write p bytes →
    ∃ t left written, (s.floor.port p).transfer = some t ∧ t.kind = .write left written ∧
      bytes.length ≤ left.length
  read : ∀ w p, s.floor.burst = some w → w.live = true → w.work = .read p →
    ∃ t left got, (s.floor.port p).transfer = some t ∧ t.kind = .read left got ∧ w.len ≤ left

/-- Every law that keeps the bursts in the store. -/
structure State.StoreLaw (s : State) : Prop where
  jobs : s.JobLaw
  own : s.base.OwnLaw
  spans : s.base.SpanLaw
  transfers : ∀ p t, (s.floor.port p).transfer = some t → s.base.transferLaw p t
  plans : s.PlanLaw
  fetches : s.FetchLaw
  burst : s.BurstLaw

/-- No transfer under way carries the open number of a slot in CLEARING: only 65,536 openings of one slot during
one transfer could bring its number back (R43). -/
def State.numbersFresh (s : State) : Prop :=
  ∀ p t, (s.floor.port p).transfer = some t → (s.base.image t.slot).state = .clearing →
    (s.base.image t.slot).openNumber ≠ t.openNumber

/-! When a port carries a request out as it comes. -/

/-- The part is out of reset and the port is not transferring: a request is carried out as its window ends (R176,
R178, R185). -/
def State.ready (s : State) (p : PortId) : Prop :=
  s.base.resetActive = false ∧ (s.floor.port p).transfer = none

/-- Nothing is due: no evaluation, no offer, no change of line left to take (entry 21). -/
def State.quiet (s : State) : Prop :=
  s.floor.evalDue = false ∧ s.floor.offers = [] ∧ s.floor.line.recorded = s.floor.lineHeld ∧
    s.floor.line.internal = !s.floor.ring.waiters.isEmpty

/-- A step that neither faults nor refuses. -/
def safeStep (s : State) : Prop := ∃ t, step s = .next t

end Sys2Proof.Machine
end

