-- ==== Sys2Proof/WellFormed.lean ====
section
/-! DEFINITION. Which commands are well formed: payloads of admitted lengths (R188), rejected windows that
R175 rejects, fetch windows long enough for their code byte, flux times that rise. A command that is not
still has a meaning; these are the checks a sender meets. -/

namespace Sys2Proof

/-- The request, port and payload of a station request command; none for an event. -/
def Instr.frame? : Instr → Option (Request × PortId × List Byte)
  | .readDevice p pl => some (.readDevice, p, pl)
  | .portReset p pl => some (.portReset, p, pl)
  | .readEvents p pl => some (.readEvents, p, pl)
  | .setEventMask p pl => some (.setEventMask, p, pl)
  | .setLineHold p pl => some (.setLineHold, p, pl)
  | .readLine p pl => some (.readLine, p, pl)
  | .defineFormat p pl => some (.defineFormat, p, pl)
  | .readFormat p pl => some (.readFormat, p, pl)
  | .removeFormat p pl => some (.removeFormat, p, pl)
  | .planQuery p pl => some (.planQuery, p, pl)
  | .openImage p pl => some (.openImage, p, pl)
  | .defineTrack p pl => some (.defineTrack, p, pl)
  | .setCursor p pl => some (.setCursor, p, pl)
  | .writeData p pl => some (.writeData, p, pl)
  | .readData p pl => some (.readData, p, pl)
  | .finishImage p pl => some (.finishImage, p, pl)
  | .deleteImage p pl => some (.deleteImage, p, pl)
  | .readImage p pl => some (.readImage, p, pl)
  | .readTrackEntry p pl => some (.readTrackEntry, p, pl)
  | .readStoreMap p pl => some (.readStoreMap, p, pl)
  | .setStore p pl => some (.setStore, p, pl)
  | .defineJob p pl => some (.defineJob, p, pl)
  | .startJob p pl => some (.startJob, p, pl)
  | .stopJob p pl => some (.stopJob, p, pl)
  | .cancelJob p pl => some (.cancelJob, p, pl)
  | .removeJob p pl => some (.removeJob, p, pl)
  | .readJob p pl => some (.readJob, p, pl)
  | .setDrive p pl => some (.setDrive, p, pl)
  | .enableDrive p pl => some (.enableDrive, p, pl)
  | .disableDrive p pl => some (.disableDrive, p, pl)
  | .freezeDrive p pl => some (.freezeDrive, p, pl)
  | .resumeDrive p pl => some (.resumeDrive, p, pl)
  | .resetDrive p pl => some (.resetDrive, p, pl)
  | .readDrive p pl => some (.readDrive, p, pl)
  | .readResult p pl => some (.readResult, p, pl)
  | .setResultFollow p pl => some (.setResultFollow, p, pl)
  | .readRing p pl => some (.readRing, p, pl)
  | .powerOn _ | .resetPinAssert | .resetPinRelease _ _ | .timebaseTick _ _ | .refreshTimerExpiry
  | .arbiterGrant | .storeBurstComplete | .planBuildComplete | .indexEdge _ | .writeUnderrun _
  | .verifySlotResult _ | .verifyUnderrun _ | .stepPulseTimerExpiry _ | .stepTimerExpiry _
  | .settleTimerExpiry _ | .spinupTimerExpiry _ | .indexWatchdogExpiry _ | .lineHoldPinChange _
  | .seatedEdge _ _ | .debounceTimerExpiry _ | .fetchStart _ | .fetchWindowEnd _ _
  | .frameRejected _ _ | .writeStreamByte _ | .readBackByte _ _ => none

/-- The bytes a station clocks in for a request command: code, length, payload (section 11.1). -/
def Instr.frameBytes (i : Instr) : Option (List Byte) :=
  i.frame?.map fun (r, _, pl) => r.code :: BitVec.ofNat 8 pl.length :: pl

/-- Rising flux times within one byte and the half-cell that follows it (entry 17). -/
def fluxRises : List (BitVec 9) → Bool
  | x :: y :: rest => decide (x.toNat < y.toNat) && fluxRises (y :: rest)
  | [x] => decide (x.toNat < 272)
  | [] => true

/-- Whether the window's judgement (R175) discards its frame. -/
def rejected (bits : List Bool) : Bool :=
  match judge (windowBytes bits) with
  | .error _ => true
  | .nothing | .fetch | .request _ _ => false

/-- The well-formed commands. -/
def Instr.wellFormed (i : Instr) : Bool :=
  match i with
  | .fetchWindowEnd _ clocks => decide (8 ≤ clocks)
  | .frameRejected _ bits => rejected bits
  | .readBackByte _ flux => fluxRises flux
  | _ =>
    match i.frame? with
    | some (r, _, pl) => r.admits pl.length
    | none => true

end Sys2Proof
end

