-- ==== Sys2Proof/Certificates/Slice0/Obligations.lean ====
section
/-! DEFINITION. The statements. A station request's completion is stated where its port is ready (State.ready): out
of reset and not transferring. `State.settle` carries out what the step has made due (entry 21). -/

open Sys2Proof Sys2Proof.Machine

/-! The machine as a whole. -/

/-- A step takes the command at the front of the queue and carries it out on the state with the queue's rest; with
nothing waiting the block idles. The queue and both clauses are the model's choice (entries 2 and 25). -/
def Obligations.StepTakesTheFrontCommand : Prop :=
  (∀ (c : Instr) (rest : List Instr) (s : State), s.pending = c :: rest →
    step s = exec c { s with pending := rest }) ∧
  (∀ s : State, s.pending = [] → step s = .next s)

/-- No command changes the queue of waiting commands, which is the model's own (entry 25, DESIGN CHOICE). -/
def Obligations.ExecKeepsTheQueue : Prop :=
  ∀ (c : Instr) (s t : State), exec c s = .next t → t.pending = s.pending

/-- Every command answers a next state, but for a burst that reaches beyond the last block of the store. -/
def Obligations.OnlyABurstBeyondTheStoreStops : Prop :=
  ∀ (c : Instr) (s : State),
    (∃ t, exec c s = .next t) ∨
    (c = .storeBurstComplete ∧ exec c s = .fault .storeAddress ∧ s.base.resetActive = false ∧
      ∃ w, s.floor.burst = some w ∧ s.base.store.blocks * 4096 < w.addr + w.len)

/-- The bytes of every well-formed request command, and whatever follows them in the window, are judged to be that
request with that payload (R175, R188). Every other frame is judged by the first case of R175 that applies: no
length byte is SHORT_FRAME, a length above 250 BAD_LENGTH, a payload shorter than its length SHORT_FRAME, a code of
no request UNKNOWN_REQUEST, a length the request does not admit BAD_LENGTH. A window's bytes are its bits by
eights, most significant first, a partial byte discarded, and at most 252 of them (R174). -/
def Obligations.RequestFramesAreJudgedAsSent : Prop :=
  (∀ (i : Instr) (bytes extra : List Byte), i.wellFormed = true → i.frameBytes = some bytes →
     ∃ r p payload, i.frame? = some (r, p, payload) ∧ judge (bytes ++ extra) = .request r payload) ∧
  judge [] = .nothing ∧ (∀ rest, judge (0 :: rest) = .fetch) ∧
  (∀ (code len : Byte) (payload : List Byte), code ≠ 0 →
    judge [code] = .error .shortFrame ∧
    (250 < len.toNat → judge (code :: len :: payload) = .error .badLength) ∧
    (len.toNat ≤ 250 → payload.length < len.toNat → judge (code :: len :: payload) = .error .shortFrame) ∧
    (len.toNat ≤ 250 → len.toNat ≤ payload.length →
      ((∀ r : Request, r.code ≠ code) → judge (code :: len :: payload) = .error .unknownRequest) ∧
      ∀ r : Request, r.code = code → judge (code :: len :: payload) =
        if r.admits len.toNat = true then .request r (payload.take len.toNat) else .error .badLength)) ∧
  (∀ bits : List Bool,
    (windowBytes bits).length = min 252 (bits.length / 8) ∧
    ∀ i k, i < (windowBytes bits).length → k < 8 →
      ((windowBytes bits).getD i 0).getLsbD (7 - k) = bits.getD (8 * i + k) false)

/-- Every step keeps the DRAM in its one canonical form: rising addresses, no cell of value 00, which is what an
unlisted byte reads as. That form and that value are the model's choice (entry 4). -/
def Obligations.MemoryStaysCanonical : Prop :=
  ∀ s t : State, Memory.wf s.mem = true → step s = .next t → Memory.wf t.mem = true

/-- Every step keeps the ring at 64 records or fewer (R150); and it keeps the records consecutive up to the write
position with both cursors between the oldest number and the write position, following or not (R150, R151, R156).
-/
def Obligations.RingNeverOverfills : Prop :=
  (∀ s t : State, s.floor.ring.law = true → step s = .next t → t.floor.ring.law = true) ∧
  (∀ s t : State, s.floor.cursorLaw = true → step s = .next t → t.floor.cursorLaw = true)

/-- Every step keeps the two laws of the regions. The list: ascending regions that cover every block once, no two
FREE ones adjacent. The list and the image slots: a slot that is not FREE owns exactly the region it records, a
FREE one owns none, and clearing and checking are of slots in CLEARING and CHECKING (R28, R31, R41, R55). -/
def Obligations.RegionsKeepTheirLaws : Prop :=
  (∀ s t : State, s.base.store.regionLaw = true → step s = .next t → t.base.store.regionLaw = true) ∧
  (∀ s t : State, s.base.OwnLaw → step s = .next t → t.base.OwnLaw)

/-- Every step keeps every burst inside the store, with the laws that this rests on: spans within their regions,
transfers, plans and fetches within their spans (R28, R33, R35, R37, R44, R127). The premise that no transfer
carries the open number of a slot in CLEARING excludes 65,536 openings of one slot during one transfer (R43). A
state of these laws steps without the fault of entry 23. -/
def Obligations.BurstsStayInTheStore : Prop :=
  (∀ s t : State, s.StoreLaw → s.numbersFresh → step s = .next t → t.StoreLaw) ∧
  (∀ s : State, s.StoreLaw → safeStep s)

/-- Every step keeps the books of the Job Queue: at most eight jobs of distinct ids, counts that add up and stay
within the target, in flight the disks that channels hold, a record exactly in POSTING, the waiting list the LOADED
channels once each, and every slot's reference count the jobs that name it (R60, R64, R65, R75, R76, R80, R83,
R99). And the numbers of every serialised job: the reclaim list is ascending without duplicates (R88), it and the
disks in flight are at most eight (R91), and the numbers the counter has issued are as many as the good records
posted, the entries of the list and the disks in flight together, each of the last two a number below next in one
place only (R92). -/
def Obligations.TheJobQueueKeepsItsBooks : Prop :=
  ∀ s t : State, s.JobLaw → step s = .next t → t.JobLaw

/-- Every step leaves the internal contribution following the waiter list (R158), and out of reset the recorded
level of LINE HOLD equal to its level (R169, R170). -/
def Obligations.LineHoldKeepsItsLaw : Prop :=
  ∀ s t : State, s.lineLaw = true → step s = .next t → t.lineLaw = true

/-- Every step keeps both ports at four held frames or fewer, none of them without a transfer (R178), and each
event kind at most once in a set (R180). -/
def Obligations.PortsKeepTheirLaw : Prop :=
  ∀ s t : State, s.portLaw = true → step s = .next t → t.portLaw = true

/-- Every step keeps the background share in 1 to 16 and the count of channel grants in 0 to 16; SET STORE clamps
its share into that range, stores it and changes nothing else (R38, R39). -/
def Obligations.ArbiterKeepsItsRanges : Prop :=
  (∀ s t : State, s.base.store.arbiterLaw = true → step s = .next t → t.base.store.arbiterLaw = true) ∧
  (∀ (p : PortId) (v : Byte) (s : State), s.ready p →
    exec (.setStore p [v]) s = .next ({ s with base := { s.base with store := { s.base.store with
      share := max 1 (min 16 v.toNat) } } }.reply p [byte (max 1 (min 16 v.toNat))]))

/-- The state after reset meets every law of Safety.lean. -/
def Obligations.ResetMeetsTheLaws : Prop :=
  Memory.wf State.reset.mem = true ∧ State.reset.floor.cursorLaw = true ∧
    State.reset.base.store.regionLaw = true ∧ State.reset.lineLaw = true ∧ State.reset.portLaw = true ∧
    State.reset.base.store.arbiterLaw = true ∧ State.reset.JobLaw ∧ State.reset.base.OwnLaw ∧
    State.reset.StoreLaw ∧ State.reset.numbersFresh

/-- Drive and timer events act on the production floor alone: the clock, the formats, the store's books, the Image
Directory and the DRAM stand. -/
def Obligations.DriveEventsLeaveTheBase : Prop :=
  ∀ (c : Chan) (flux : List (BitVec 9)) (i : Instr) (s : State),
    i ∈ [.indexEdge c, .writeStreamByte c, .writeUnderrun c, .readBackByte c flux, .verifySlotResult c,
      .verifyUnderrun c, .stepPulseTimerExpiry c, .stepTimerExpiry c, .settleTimerExpiry c,
      .spinupTimerExpiry c, .indexWatchdogExpiry c, .debounceTimerExpiry c, .planBuildComplete] →
    ∃ t, exec i s = .next t ∧ t.base = s.base ∧ t.mem = s.mem ∧ t.pending = s.pending

/-! Resets (R185). -/

/-- POWER_ON gives every block its reset values, samples the straps and the input pins, and leaves the cause
POWER_ON and the count 0. Each value is written out: every slot FREE (R41); every channel DISABLED with the default
settings (R99, R100), its outputs inactive (R98), its timers stopped (R101) and its buffer empty (R127); the ring
empty (R150); no debounce running but that of a disk already seated (R165); each port with no reply, transfer, held
frame, event, mask or data cursor, a result cursor of 0 and no follow flag (R151, R179), so SDO idle and ATTN
inactive (R174, R181). Where the spec states no reset value the value is the model's: no refresh owed, no burst,
and the working state inside Channel.reset, such as steps counted, seek target and the attempt, as nothing under
way (entry 27, DESIGN CHOICE, unsafe). The DRAM then reads 00 where R27 calls it arbitrary (entry 4, DESIGN
CHOICE); a power-on with RESET active leaves the part in reset, its debounce timers not yet loaded (entry 22,
DEDUCED). -/
def Obligations.PowerOnResetsThePart : Prop :=
  (∀ (pins : PinLevels) (s : State),
     ∃ t, exec (.powerOn pins) s = .next t ∧ t.pending = s.pending ∧ t.mem = [] ∧
       t.base.timebase = 0 ∧ t.base.resetCause = .powerOn ∧ t.base.resetCount = 0 ∧
       t.base.resetActive = s.base.resetActive ∧ t.base.trk0 = pins.trk0 ∧ t.base.wprot = pins.wprot ∧
       (∀ f, t.base.format f = none) ∧ (∀ k, t.base.image k = ImageSlot.reset) ∧
       t.base.store.blocks = strapBlocks pins.size1 pins.size0 ∧
       t.base.store.regions = [{ base := 0, length := strapBlocks pins.size1 pins.size0, owner := none }] ∧
       t.base.store.clearing = [] ∧ t.floor.burst = none ∧ t.base.store.refreshPhase = 0 ∧
       t.base.store.refreshOwed = false ∧
       t.base.store.share = 4 ∧ t.base.store.lastChannel = 7 ∧ t.base.store.lastBackground = .portB ∧
       t.base.store.grantCount = 0 ∧ t.base.checkList = [] ∧ t.base.check = none ∧
       t.floor.jobs = [] ∧ t.floor.waiting = [] ∧ t.floor.engine = { queue := [], building := none } ∧
       (∀ c, t.floor.chan c = Channel.reset) ∧ t.floor.ring = Ring.reset ∧
       (∀ p, t.floor.port p = PortContext.reset) ∧
       (∀ c, t.floor.drive c =
         { rawSeated := pins.seated.getLsbD c.val, seated := false,
           debounce := if s.base.resetActive = false ∧ pins.seated.getLsbD c.val = true then some 20000 else none,
           release := false, bin1 := false, bin0 := false }) ∧
       t.floor.line = { internal := false, recorded := pins.handlerHolds, handler := pins.handlerHolds }) ∧
  strapBlocks false false = 1024 ∧ strapBlocks false true = 2048 ∧ strapBlocks true false = 4096 ∧
  strapBlocks true true = 1024 ∧
  ImageSlot.reset = {
    state := .free, openNumber := 0, opening := none, fillMark := 0, trackMap := [], overflow := 0, expected := none
    computed := none, refCount := 0 } ∧
  Channel.reset = {
    state := .disabled, phase := none, resuming := false, frozen := false, cylinder := none, lastStamp := none
    settings := { stepPeriod := 3, settleTime := 15, heads := 2, cylinderLimit := 80, spinupUnits := 100,
                  failStreakLimit := 4 }
    intervals := [], failCount := 0, fault := none, removed := false, bin := .none, disk := none, record := none
    stepTimer := none, settleTimer := none, spinupTimer := none, watchdog := none, pulseTimer := none
    recalSteps := 0, seekTarget := none, motor := false, dir := false, stepOut := false, side := false
    wgate := false, wdata := none, buffer := [], fetch := []
    attempt := { plan := none, writeResult := none, results := [], pass := 1, firstSector := none, stream := none
                 read := none } } ∧
  Ring.reset = { records := [], writePos := 0, dropped := 0, waiters := [] } ∧
  PortContext.reset = {
    pending := none, transfer := none, hold := [], events := [], mask := [], cursor := none, resultCursor := 0
    follow := false, lineHold := false, window := none } ∧
  PortContext.reset.attn = false ∧ (∀ k, PortContext.reset.sdo k = 0xFF) ∧
  (∀ raw, DriveLines.reset raw = {
    rawSeated := raw, seated := false, debounce := none, release := false, bin1 := false, bin0 := false })

/-- RESET holds every block at its reset values, the timebase, the store's books, the ports, the channels and the
lines among them, with the cause and the count standing, each at the values that PowerOnResetsThePart writes out;
its release samples the straps, restarts the timebase and the refresh timer, makes the cause RESET_PIN and raises
the count by one up to 255, examines SEATED and LINE HOLD, and changes nothing else. That the DRAM keeps its
contents is the model's reading (entry 30, DEDUCED), as is that the levels of the input pins are followed (entry
22, DEDUCED). Where the spec states no reset value the value is the model's: no refresh owed, no burst, nothing
due, and the working state inside Channel.reset as nothing under way (entries 26 and 27, DESIGN CHOICE, unsafe). -/
def Obligations.ResetPinResetsThePart : Prop :=
  (∀ s : State, ∃ t, exec .resetPinAssert s = .next t ∧ t.pending = s.pending ∧ t.mem = s.mem ∧
    t.base.resetActive = true ∧ t.base.resetCause = s.base.resetCause ∧ t.base.resetCount = s.base.resetCount ∧
    t.base.timebase = 0 ∧ t.base.trk0 = s.base.trk0 ∧ t.base.wprot = s.base.wprot ∧
    (∀ f, t.base.format f = none) ∧ (∀ k, t.base.image k = ImageSlot.reset) ∧
    t.base.store.blocks = s.base.store.blocks ∧
    t.base.store.regions = [{ base := 0, length := s.base.store.blocks, owner := none }] ∧
    t.base.store.clearing = [] ∧ t.base.store.refreshPhase = 0 ∧ t.base.store.refreshOwed = false ∧
    t.base.store.share = 4 ∧ t.base.store.lastChannel = 7 ∧ t.base.store.lastBackground = .portB ∧
    t.base.store.grantCount = 0 ∧ t.floor.burst = none ∧ t.floor.evalDue = false ∧ t.floor.offers = [] ∧
    t.floor.line = { internal := false, recorded := s.floor.line.handler, handler := s.floor.line.handler } ∧
    t.base.checkList = [] ∧ t.base.check = none ∧
    t.floor.jobs = [] ∧ t.floor.waiting = [] ∧ t.floor.engine = { queue := [], building := none } ∧
    (∀ c, t.floor.chan c = Channel.reset) ∧ t.floor.ring = Ring.reset ∧
    (∀ p, t.floor.port p = PortContext.reset) ∧
    (∀ c, t.floor.drive c = DriveLines.reset (s.floor.drive c).rawSeated)) ∧
  (∀ (size1 size0 : Bool) (s : State), s.base.resetActive = true →
    ∃ t, exec (.resetPinRelease size1 size0) s = .next t ∧ t.pending = s.pending ∧ t.mem = s.mem ∧
      t.base = { s.base with
        timebase := 0, resetCause := .resetPin, resetCount := min 255 (s.base.resetCount + 1),
        resetActive := false, store := t.base.store } ∧
      t.base.store = {
        blocks := strapBlocks size1 size0
        regions := [{ base := 0, length := strapBlocks size1 size0, owner := none }]
        clearing := [], refreshPhase := 0, refreshOwed := false, refreshes := 0, lastChannel := 7
        lastBackground := .portB, grantCount := 0, share := 4 } ∧
      t.floor = { s.floor with
        drives := t.floor.drives, line := { s.floor.line with recorded := s.floor.lineHeld } } ∧
      (∀ c, t.floor.drive c =
        if (s.floor.drive c).rawSeated then { s.floor.drive c with debounce := some 20000 }
        else s.floor.drive c))

/-- While RESET is active the ports ignore every window, and no drive, timer, store or Layout Engine event is
taken; only the levels of the input pins are followed (entry 22, DEDUCED). -/
def Obligations.ResetMakesThePartDeaf : Prop :=
  (∀ (i : Instr) (s : State), s.base.resetActive = true →
    (i.frame?.isSome = true ∨ (∃ p, i = .fetchStart p) ∨ (∃ p n, i = .fetchWindowEnd p n) ∨
      (∃ p bits, i = .frameRejected p bits) ∨ (∃ c, i = .indexEdge c) ∨ (∃ c, i = .writeStreamByte c) ∨
      (∃ c, i = .writeUnderrun c) ∨ (∃ c flux, i = .readBackByte c flux) ∨ (∃ c, i = .verifyUnderrun c) ∨
      (∃ c, i = .verifySlotResult c) ∨ (∃ c, i = .stepPulseTimerExpiry c) ∨ (∃ c, i = .stepTimerExpiry c) ∨
      (∃ c, i = .settleTimerExpiry c) ∨ (∃ c, i = .spinupTimerExpiry c) ∨ (∃ c, i = .indexWatchdogExpiry c) ∨
      (∃ c, i = .debounceTimerExpiry c) ∨ i = .arbiterGrant ∨ i = .storeBurstComplete ∨
      i = .planBuildComplete ∨ i = .refreshTimerExpiry) →
    exec i s = .next s) ∧
  (∀ (trk0 wprot : BitVec 8) (pulls level : Bool) (c : Chan) (s : State), s.base.resetActive = true →
    exec (.timebaseTick trk0 wprot) s = .next { s with base := { s.base with trk0 := trk0, wprot := wprot } } ∧
    exec (.lineHoldPinChange pulls) s =
      .next { s with floor := { s.floor with line := { s.floor.line with handler := pulls } } } ∧
    exec (.seatedEdge c level) s = .next { s with floor := { s.floor with
      drives := s.floor.drives.set c.val { s.floor.drive c with rawSeated := level } } })

/-! The clock (R1, R36, R101, R149, R165). -/

/-- TIMEBASE_TICK raises the wrapping count by one, takes one microsecond off every running timer, and leaves jobs,
ring, ports, formats, images and the DRAM alone; ten thousand of them raise a held disk's elapsed count by exactly
one, up to 65,535 (R1, R101, R149). The levels of TRK0 and WPROT as operands (entry 3), the refresh timer's ten
tenths a tick (entry 7) and a timer that waits at zero (entry 6) are the model's own conventions. -/
def Obligations.AMicrosecondPasses : Prop :=
  (∀ k : Disk, k.elapsedRest < 10000 →
    Nat.iterate Disk.tick 10000 k = { k with elapsed := min 65535 (k.elapsed + 1) }) ∧
  ∀ (trk0 wprot : BitVec 8) (s : State), s.base.resetActive = false →
    ∃ t, exec (.timebaseTick trk0 wprot) s = .next t ∧
      t.base = { s.base with
        timebase := s.base.timebase + 1, trk0 := trk0, wprot := wprot,
        store := { s.base.store with refreshPhase := s.base.store.refreshPhase + 10 } } ∧
      (∀ c, t.floor.chan c =
        { s.floor.chan c with
          stepTimer := (s.floor.chan c).stepTimer.map (· - 1),
          settleTimer := (s.floor.chan c).settleTimer.map (· - 1),
          spinupTimer := (s.floor.chan c).spinupTimer.map (· - 1),
          watchdog := (s.floor.chan c).watchdog.map (· - 1),
          pulseTimer := (s.floor.chan c).pulseTimer.map (· - 1),
          disk := if (s.floor.chan c).holdsDisk then (s.floor.chan c).disk.map Disk.tick
            else (s.floor.chan c).disk }) ∧
      (∀ c, t.floor.drive c =
        { s.floor.drive c with debounce := (s.floor.drive c).debounce.map (· - 1) }) ∧
      t.floor = { s.floor with channels := t.floor.channels, drives := t.floor.drives } ∧
      t.mem = s.mem ∧ t.pending = s.pending

/-! The store (chapter 2). -/

/-- The arbiter's decision is the first case of R38 that applies: refresh when one is owed, and only then; the
first waiting background client in its rotation, when no channel waits or the count has reached the share; the
first urgent channel in rotation; the first waiting channel; nobody. A channel waits when it has image bytes to
fetch and its 256-byte buffer has room for the next burst, and is urgent when it waits and holds fewer than 64
bytes; the Image Check Unit waits while its check has bytes to read, a port while it has a transfer or clearing
work (R37). Each rotation starts after the client last served (R38). -/
def Obligations.TheArbiterDecidesByCases : Prop :=
  (∀ (b : Base) (f : Floor),
     (b.store.refreshOwed = true → decideGrant b f = some .refresh) ∧
     (b.store.refreshOwed = false →
       decideGrant b f ≠ some .refresh ∧
       (∀ g, decideGrant b f = some (.background g) →
         ((∀ c, (f.chan c).waits b = false) ∨ b.store.share ≤ b.store.grantCount) ∧
         ∃ before after, backgroundAfter b.store.lastBackground = before ++ g :: after ∧
           backgroundWaits b f g = true ∧ ∀ h ∈ before, backgroundWaits b f h = false) ∧
       (∀ c, decideGrant b f = some (.channel c) →
         ((∀ g, backgroundWaits b f g = false) ∨ b.store.grantCount < b.store.share) ∧
         (f.chan c).waits b = true ∧
         ∃ before after, channelsAfter b.store.lastChannel = before ++ c :: after ∧
           (((f.chan c).urgent b = true ∧ ∀ d ∈ before, (f.chan d).urgent b = false) ∨
             ((∀ d, (f.chan d).urgent b = false) ∧ ∀ d ∈ before, (f.chan d).waits b = false))) ∧
       (decideGrant b f = none →
         (∀ g, backgroundWaits b f g = false) ∧ ∀ c, (f.chan c).waits b = false))) ∧
  (∀ (b : Base) (x : Channel),
    (∀ i rest k, x.fetch = i :: rest → x.disk = some k →
      let addr := b.regionStart k.slot + i.offset
      (x.waits b = true ↔ x.buffer.length + min i.remaining (32 - addr % 32) ≤ 256)) ∧
    ((x.fetch = [] ∨ x.disk = none) → x.waits b = false) ∧
    (x.urgent b = true ↔ x.waits b = true ∧ x.buffer.length < 64)) ∧
  (∀ (b : Base) (f : Floor),
    let port (p : PortId) : Prop := (f.port p).transfer ≠ none ∨ ∃ w ∈ b.store.clearing, w.port = p
    (backgroundWaits b f .checkUnit = true ↔ ∃ k, b.check = some k ∧ k.spans ≠ []) ∧
    (backgroundWaits b f .portA = true ↔ port .a) ∧ (backgroundWaits b f .portB = true ↔ port .b)) ∧
  backgroundAfter .portB = [.checkUnit, .portA, .portB] ∧ backgroundAfter .checkUnit = [.portA, .portB, .checkUnit] ∧
  backgroundAfter .portA = [.portB, .checkUnit, .portA] ∧
  (∀ c : Chan, (channelsAfter c).map Fin.val = (List.range 8).map fun i => (c.val + 1 + i) % 8)

/-- ARBITER_GRANT starts the burst of the client decided and updates the rotation: refresh, a channel's fetch, a
port's data transfer or its clearing, or the image check, each within one 32-byte unit of the store, the slot's
region beginning at 4,096 bytes for each block before it (R27, R31, R36 to R38, R55). A port's transfer goes on
only while its slot is as it was when the transfer began (R33, R35). With a burst in progress or nobody waiting
nothing happens (entry 1, DEDUCED). The refresh burst's address and length 0 and the count of refreshes are the
model's own (entry 26). -/
def Obligations.AGrantStartsABurst : Prop :=
  (∀ s : State, s.base.resetActive = false →
     let unit (addr left : Nat) : Nat := min left (32 - addr % 32)
     let client (p : PortId) : Background := match p with | .a => .portA | .b => .portB
     let start (t : Store) (work : BurstWork) (addr len : Nat) : Host.Outcome State Fault Refusal :=
       .next { s with base := { s.base with store := t }
                      floor := { s.floor with burst := some { work := work, addr := addr, len := len, live := true } } }
     let background (g : Background) : Store := { s.base.store with lastBackground := g, grantCount := 0 }
     (s.floor.burst.isSome = true → exec .arbiterGrant s = .next s) ∧
     (s.floor.burst = none →
       (decideGrant s.base s.floor = none → exec .arbiterGrant s = .next s) ∧
       (decideGrant s.base s.floor = some .refresh →
         exec .arbiterGrant s = start { s.base.store with
           refreshOwed := false, refreshes := s.base.store.refreshes + 1 } .refresh 0 0) ∧
       (∀ c i rest k, decideGrant s.base s.floor = some (.channel c) → (s.floor.chan c).fetch = i :: rest →
         (s.floor.chan c).disk = some k →
         let addr := s.base.regionStart k.slot + i.offset
         exec .arbiterGrant s = start { s.base.store with
             lastChannel := c, grantCount := min 16 (s.base.store.grantCount + 1) }
           (.fetch c i.slot) addr (unit addr i.remaining)) ∧
       (∀ p t, decideGrant s.base s.floor = some (.background (client p)) → (s.floor.port p).transfer = some t →
         s.base.admits p t = true →
         let addr := s.base.regionStart t.slot + t.offset
         (∀ left written, t.kind = .write left written →
           exec .arbiterGrant s = start (background (client p)) (.write p (left.take (unit addr left.length))) addr
             (unit addr left.length)) ∧
         (∀ left got, t.kind = .read left got →
           exec .arbiterGrant s = start (background (client p)) (.read p) addr (unit addr left))) ∧
       (∀ p front w back, decideGrant s.base s.floor = some (.background (client p)) →
         (s.floor.port p).transfer = none → s.base.store.clearing = front ++ w :: back → w.port = p →
         (∀ v ∈ front, v.port ≠ p) →
         let addr := s.base.regionStart w.slot + w.bytes
         exec .arbiterGrant s = start (background (client p)) (.clear w.slot) addr
           (unit addr (s.base.regionBytes w.slot - w.bytes))) ∧
       (∀ k offset left rest, decideGrant s.base s.floor = some (.background .checkUnit) → s.base.check = some k →
         k.spans = (offset, left) :: rest →
         let addr := s.base.regionStart k.slot + offset
         exec .arbiterGrant s = start (background .checkUnit) .check addr (unit addr left)))) ∧
  (∀ (b : Base) (slot : SlotId) (o : Opening), (b.image slot).opening = some o →
    b.regionStart slot = o.base * 4096 ∧ b.regionBytes slot = o.length * 4096) ∧
  (∀ (b : Base) (p : PortId) (t : Transfer),
    let im := b.image t.slot
    (∀ left written, t.kind = .write left written → (b.admits p t = true ↔
      im.openNumber = t.openNumber ∧ im.state = .loading ∧ im.opening.map (·.loader) = some p)) ∧
    (∀ left got, t.kind = .read left got → (b.admits p t = true ↔
      im.openNumber = t.openNumber ∧ im.state ≠ .free ∧ im.state ≠ .clearing)))

/-- The check at the grant of a transfer's next burst stops it: the write fence when the slot is no longer LOADING,
has been opened again or has another loader (R33), the check of a port read when the slot is FREE or CLEARING or
has been opened again (R35). No byte more is moved, the reply gives the bytes moved before, and the frames held are
taken (R178). -/
def Obligations.TheFenceStopsATransfer : Prop :=
  ∀ (s : State) (p : PortId) (t : Transfer), s.base.resetActive = false → s.floor.burst = none →
    let client : Background := match p with | .a => .portA | .b => .portB
    let x := s.floor.port p
    let ended (y : PortContext) : State :=
      { s with base := { s.base with store := { s.base.store with lastBackground := client, grantCount := 0 } }
               floor := s.floor.setPort p y }
    decideGrant s.base s.floor = some (.background client) → x.transfer = some t →
    (∀ left written, t.kind = .write left written →
      ((s.base.image t.slot).state ≠ .loading ∨ (s.base.image t.slot).openNumber ≠ t.openNumber ∨
        (s.base.image t.slot).opening.map (·.loader) ≠ some p) →
      exec .arbiterGrant s = .next (State.drain p 4 (ended { x with
        transfer := none, pending := some { status := .ok, payload := [byte written] } }))) ∧
    (∀ left got, t.kind = .read left got →
      ((s.base.image t.slot).state = .free ∨ (s.base.image t.slot).state = .clearing ∨
        (s.base.image t.slot).openNumber ≠ t.openNumber) →
      exec .arbiterGrant s = .next (State.drain p 4 (ended { x with
        transfer := none, pending := some { status := .ok, payload := got }
        cursor := x.cursor.map fun k => { k with offset := k.offset + got.length } })))

/-- Write and clearing bursts change exactly their bytes: a write burst stores its bytes and the transfer goes on
after them (R33, R37); a clearing burst writes zeros and moves the progress of its own region, the others that wait
to be cleared standing in their order, and the one that reaches the region's end brings the slot to LOADING and
takes it off the list (R31, R46). A byte that no cell lists reads as 00 (entry 4, DESIGN CHOICE), on which nothing
here rests. -/
def Obligations.BurstsWriteTheirBytes : Prop :=
  (∀ (s : State) (p : PortId) (bytes left : List Byte) (addr written : Nat) (t : Transfer),
    s.base.resetActive = false → Memory.wf s.mem = true →
    s.floor.burst = some { work := .write p bytes, addr := addr, len := bytes.length, live := true } →
    addr + bytes.length ≤ s.base.store.blocks * 4096 →
    (s.floor.port p).transfer = some t → t.kind = .write left written → bytes.length < left.length →
    ∃ u, exec .storeBurstComplete s = .next u ∧ u.pending = s.pending ∧ u.base = s.base ∧
      (∀ i : Fin bytes.length, Memory.read u.mem (addr + i.val) = bytes[i]) ∧
      (∀ a, (a < addr ∨ addr + bytes.length ≤ a) → Memory.read u.mem a = Memory.read s.mem a) ∧
      u.floor = { s.floor with burst := none }.setPort p { s.floor.port p with
        transfer := some { t with
          offset := t.offset + bytes.length
          kind := .write (left.drop bytes.length) (written + bytes.length) } }) ∧
  (∀ (s : State) (front : List Clearing) (w : Clearing) (back : List Clearing) (addr len : Nat),
    s.base.resetActive = false → Memory.wf s.mem = true →
    s.floor.burst = some { work := .clear w.slot, addr := addr, len := len, live := true } →
    addr + len ≤ s.base.store.blocks * 4096 → s.base.store.clearing = front ++ w :: back →
    (∀ v ∈ front ++ back, v.slot ≠ w.slot) →
    ∃ u, exec .storeBurstComplete s = .next u ∧ u.pending = s.pending ∧
      u.floor = { s.floor with burst := none } ∧
      (∀ a, Memory.read u.mem a = if addr ≤ a ∧ a < addr + len then 0 else Memory.read s.mem a) ∧
      (w.bytes + len < s.base.regionBytes w.slot →
        u.base = { s.base with store := { s.base.store with
          clearing := front ++ { w with bytes := w.bytes + len } :: back } }) ∧
      (s.base.regionBytes w.slot ≤ w.bytes + len →
        u.base = { s.base.setImage w.slot { s.base.image w.slot with state := .loading } with
          store := { s.base.store with clearing := front ++ back } }))

/-- What a burst that completes does for its client: a fetch enters the channel's track buffer (R127), a read's
bytes join its transfer, the last burst of a transfer ends it with its reply and then the frames held are taken in
order until one starts a transfer (R33, R35, R52, R53, R178), and a burst that no client wants any more only writes
what it had to write (R32, R63, R115). -/
def Obligations.BurstsServeTheirClients : Prop :=
  (∀ (s : State) (work : BurstWork) (addr len : Nat) (live : Bool), s.base.resetActive = false →
    s.floor.burst = some { work := work, addr := addr, len := len, live := live } →
    addr + len ≤ s.base.store.blocks * 4096 →
    let bytes := Memory.readBytes s.mem addr len
    let idle : Floor := { s.floor with burst := none }
    let written : List Host.Cell := match work with
      | .write _ sent => Memory.writeBytes s.mem addr sent
      | .clear _ => Memory.writeBytes s.mem addr (List.replicate len 0)
      | _ => s.mem
    (live = false → exec .storeBurstComplete s = .next { s with mem := written, floor := idle }) ∧
    (work = .refresh → exec .storeBurstComplete s = .next { s with floor := idle }) ∧
    (∀ c j i rest, live = true → work = .fetch c j → (s.floor.chan c).fetch = i :: rest → len ≤ i.remaining →
      exec .storeBurstComplete s = .next { s with floor := idle.setChan c { s.floor.chan c with
        buffer := (s.floor.chan c).buffer ++ bytes.map fun v => (j, v)
        fetch := if i.remaining = len then rest
          else { i with offset := i.offset + len, remaining := i.remaining - len } :: rest } }) ∧
    (∀ p t left got, live = true → work = .read p → (s.floor.port p).transfer = some t → t.kind = .read left got →
      let x := s.floor.port p
      (len < left → exec .storeBurstComplete s = .next { s with floor := idle.setPort p { x with
        transfer := some { t with offset := t.offset + len, kind := .read (left - len) (got ++ bytes) } } }) ∧
      (left = len → exec .storeBurstComplete s = .next (State.drain p 4 { s with floor := idle.setPort p { x with
        transfer := none, pending := some { status := .ok, payload := got ++ bytes }
        cursor := x.cursor.map fun k => { k with offset := k.offset + (got ++ bytes).length } } }))) ∧
    (∀ p done sent t, live = true → work = .write p sent → (s.floor.port p).transfer = some t →
      t.kind = .write sent done →
      let ended : PortContext := { s.floor.port p with
        transfer := none, pending := some { status := .ok, payload := [byte (done + sent.length)] } }
      exec .storeBurstComplete s =
        .next (State.drain p 4 { s with mem := written, floor := idle.setPort p ended }))) ∧
  (∀ (s : State) (p : PortId),
    let x := s.floor.port p
    ((x.transfer.isSome = true ∨ x.hold = []) → ∀ n, State.drain p n s = s) ∧
    (∀ h rest n, x.transfer = none → x.hold = h :: rest → State.drain p (n + 1) s =
      State.drain p n ({ s with floor := s.floor.setPort p { x with hold := rest } }.take p h)) ∧
    (x.hold.length ≤ 4 →
      let t := State.drain p 4 s
      (t.floor.port p).transfer.isSome = true ∨ (t.floor.port p).hold = []))

/-! Formats and layout (chapter 1). -/

/-- What the payloads of the two defining requests say. DEFINE FORMAT: read as a format and a descriptor exactly
when every value passes the checks of R3 to R7, with each absent field at its default, the speed tolerance clamped
and the exceptions in ascending order. DEFINE JOB: read as a job exactly when every value passes the first check of
R66, with the serial specification of a 20-byte payload checked as R86 states; the job read is QUEUED with every
count 0 and its next number at the start (R65, R66, R67). -/
def Obligations.DefinitionsAreReadAndChecked : Prop :=
  (∀ (payload : List Byte) (f : FormatId) (d : Descriptor),
     let n (i : Nat) : Nat := num payload i 1
     let given (bit : Nat) : Bool := (num payload 8 2).testBit bit
     let mfm : Bool := decide (d.encoding = .mfm)
     readDescriptor payload = some (f, d) ↔
       n 0 = f.val ∧ n 1 = (if mfm then 1 else 0) ∧ n 26 ≤ 8 ∧ payload.length = 27 + 3 * n 26 ∧
       d.rate = num payload 2 2 ∧ d.rate ∈ (if mfm then [250, 300, 500, 1000] else [125, 250]) ∧
       d.rpm = num payload 4 2 ∧ (d.rpm = 300 ∨ d.rpm = 360) ∧
       d.tolerance = max 5 (min 50 (if given 0 then n 10 else 25)) ∧
       d.sectors = n 6 ∧ 1 ≤ d.sectors ∧ d.sectors ≤ 40 ∧ d.sizeCode = n 7 ∧ d.sizeCode ≤ 6 ∧
       d.firstSector = (if given 1 then n 11 else 1) ∧ d.firstSector + d.sectors - 1 ≤ 255 ∧
       d.interleave = (if given 2 then n 12 else 1) ∧
       (d.sectors = 1 → d.interleave = 1) ∧ (d.sectors ≠ 1 → 1 ≤ d.interleave ∧ d.interleave ≤ d.sectors - 1) ∧
       d.cylSkew = (if given 3 then n 13 else 0) ∧ d.cylSkew < d.sectors ∧
       d.headSkew = (if given 4 then n 14 else 0) ∧ d.headSkew < d.sectors ∧
       d.leadGap = (if given 5 then n 15 else if mfm then 80 else 40) ∧
       (given 6 = true → n 16 ≤ 1) ∧ d.indexField = (if given 6 then decide (n 16 = 1) else true) ∧
       d.openingGap = (if given 7 then n 17 else if mfm then 50 else 26) ∧
       d.sectorGap = (if given 8 then n 18 else 0) ∧ d.gapComputed = decide (d.sectorGap = 0) ∧
       d.closingMin = (if given 9 then n 19 else 16) ∧ 1 ≤ d.closingMin ∧
       d.gapFill.toNat = (if given 10 then n 20 else if mfm then 0x4E else 0xFF) ∧
       d.dataFill.toNat = (if given 11 then n 21 else 0xE5) ∧
       d.stepMultiplier = (if given 12 then n 22 else 1) ∧ (d.stepMultiplier = 1 ∨ d.stepMultiplier = 2) ∧
       d.cylOverride.map BitVec.toNat = (if given 13 then some (n 23) else none) ∧
       d.headOverride.map BitVec.toNat = (if given 14 then some (n 24) else none) ∧
       d.sizeOverride.map BitVec.toNat = (if given 15 then some (n 25) else none) ∧
       (∀ i < n 26, n (27 + 3 * i + 1) < 4 ∧ n (27 + 3 * i) < d.sectors ∧
         ∀ k < i, n (27 + 3 * k) ≠ n (27 + 3 * i)) ∧
       d.exceptions.Pairwise (fun x y => x.index < y.index) ∧
       ∀ x, x ∈ d.exceptions ↔ ∃ i < n 26, x.index = n (27 + 3 * i) ∧
         x.sector.map BitVec.toNat = (if (n (27 + 3 * i + 1)).testBit 0 then some (n (27 + 3 * i + 2)) else none) ∧
         x.deleted = (n (27 + 3 * i + 1)).testBit 1) ∧
  (∀ (p : PortId) (payload : List Byte) (j : Job),
    let n (i : Nat) : Nat := num payload i 1
    readJobDefinition p payload = some j ↔
      j.id = n 0 ∧ 1 ≤ j.id ∧ j.slot.val = n 1 ∧ j.target = num payload 2 2 ∧
      j.drives = payload.getD 4 0 ∧ n 4 ≠ 0 ∧ j.verifyEvery = n 5 ∧ j.verifyEvery ≤ 16 ∧
      n 6 = (match j.window with | .full => 0 | .w875 => 1 | .w75 => 2) ∧
      j.retryLimit = n 7 ∧ j.retryLimit ≤ 7 ∧ (j.serial = none ↔ payload.length ≠ 20) ∧
      (∀ st, j.serial = some st →
        readSerialSpec payload = some st.spec ∧ st.next = st.spec.start ∧ st.reclaim = []) ∧
      j.origin = p ∧ j.state = .queued ∧ j.endCause = none ∧ j.issued = 0 ∧ j.passed = 0 ∧ j.failed = 0 ∧
      j.aborted = 0 ∧ j.inFlight = 0) ∧
  (∀ (payload : List Byte) (sp : SerialSpec),
    let n (i : Nat) : Nat := num payload i 1
    readSerialSpec payload = some sp ↔
      sp.cylinder = n 8 ∧ sp.cylinder ≤ 83 ∧ sp.head = n 9 ∧ sp.head ≤ 1 ∧ sp.index = n 10 ∧ sp.index ≤ 39 ∧
      sp.offset = num payload 11 2 ∧ sp.offset ≤ 8191 ∧ sp.start = num payload 15 4 ∧
      sp.step = n 19 ∧ 1 ≤ sp.step ∧
      ((n 13 = 0 ∧ 4 ≤ n 14 ∧ n 14 ≤ 9 ∧ sp.encoding = .ascii (n 14)) ∨
        (n 13 = 1 ∧ n 14 = 0 ∧ sp.encoding = .binary)))

/-- DEFINE FORMAT stores the descriptor when every check of R18 passes, and refuses in R18's order, changing
nothing; and an automatic sector gap is refused exactly when its numerator is less than n, and otherwise is the
floor of the numerator by n, at most 255, with which the format fits at Pmin (R12, R13); an explicit one is kept. A
format is in use while a DATA or FORMAT-ONLY entry of a slot that is not FREE names it (R19). The window, the
capacity, the used length, the numerator and the fit are those of R11 to R13. -/
def Obligations.DefineFormatStoresOrRefuses : Prop :=
  (∀ (p : PortId) (payload : List Byte) (s : State), s.ready p →
     Request.defineFormat.admits payload.length = true →
     (readDescriptor payload = none → exec (.defineFormat p payload) s = .next (s.refuse p .badValue)) ∧
     (∀ f d, readDescriptor payload = some (f, d) →
       (s.base.formatInUse f = true → exec (.defineFormat p payload) s = .next (s.refuse p .formatInUse)) ∧
       (s.base.formatInUse f = false → d.settleGap = none →
         exec (.defineFormat p payload) s = .next (s.refuse p .trackOverfull)) ∧
       (∀ e, s.base.formatInUse f = false → d.settleGap = some e →
         (e.used + e.closingMin ≤ e.capacity e.pmin →
           exec (.defineFormat p payload) s =
             .next ({ s with base := s.base.setFormat f (some e) }.reply p e.defineReply)) ∧
         (e.capacity e.pmin < e.used + e.closingMin →
           exec (.defineFormat p payload) s = .next (s.refuse p .trackOverfull))))) ∧
  (∀ d : Descriptor, d.gapComputed = true →
     (d.gapNumerator < d.sectors → d.settleGap = none) ∧
     ((d.sectors : Int) ≤ d.gapNumerator →
       ∃ e, d.settleGap = some e ∧ e = { d with sectorGap := min 255 (d.gapNumerator.toNat / d.sectors) } ∧
         e.fits = true)) ∧
  (∀ d : Descriptor, d.gapComputed = false → d.settleGap = some d) ∧
  (∀ (b : Base) (f : FormatId), b.formatInUse f = true ↔
    ∃ slot : SlotId, (b.image slot).state ≠ .free ∧
      (TrackEntry.formatOnly f ∈ (b.image slot).trackMap ∨
        ∃ offset len, TrackEntry.data f offset len ∈ (b.image slot).trackMap)) ∧
  (∀ d : Descriptor,
    let nominal := if d.rpm = 300 then 200000 else 166666
    let index := if d.indexField then (match d.encoding with | .mfm => 16 | .fm => 7) else 0
    let before := d.leadGap + index + d.openingGap
    let sector := (match d.encoding with | .mfm => 62 | .fm => 33) + 128 * 2 ^ d.sizeCode
    d.pmin = nominal * (1000 - d.tolerance) / 1000 ∧ d.pmax = nominal * (1000 + d.tolerance) / 1000 ∧
    (∀ period, d.capacity period = period * d.rate / 8000) ∧
    (∀ period, d.inWindow period = true ↔ d.pmin ≤ period ∧ period ≤ d.pmax) ∧ d.nominal = nominal ∧
    d.used = before + d.sectors * (sector + d.sectorGap) ∧
    d.gapNumerator = (d.capacity d.pmin : Int) - before - d.sectors * sector - d.closingMin ∧
    (d.fits = true ↔ d.used + d.closingMin ≤ d.capacity d.pmin))

/-- Placement (R15): logical sector 0 goes into slot (c × Kc + h × Kh) mod n; each next one into the first slot,
from the slot before plus I and advancing by one, mod n, that holds no earlier sector; and every slot holds exactly
one. -/
def Obligations.SectorsTakeTheFirstFreeSlot : Prop :=
  ∀ (d : Descriptor) (c h : Nat), 1 ≤ d.sectors →
    let order := d.placement c h
    order.Perm (List.range d.sectors) ∧
      order[(c * d.cylSkew + h * d.headSkew) % d.sectors]? = some 0 ∧
      ∀ k slot, k + 1 < d.sectors → order[slot]? = some k →
        ∃ steps, steps < d.sectors ∧ order[(slot + d.interleave + steps) % d.sectors]? = some (k + 1) ∧
          ∀ i, i < steps → ∃ j, j ≤ k ∧ order[(slot + d.interleave + i) % d.sectors]? = some j

/-- The order and the sizes of a track's bytes (R9): the lead gap, the index field when there is one, its sync, its
prefixes and its mark, and the opening gap; in each slot sync, prefixes, header mark, header bytes, header CRC, the
header gap, sync, prefixes, data mark, data bytes, data CRC and the sector gap; and gap fill after the last sector
(R9, R10, R12, R13). -/
def Obligations.TrackBytesStandInTheirPlaces : Prop :=
  ∀ d : Descriptor,
    let sync := match d.encoding with | .mfm => 12 | .fm => 6
    let prefixes := match d.encoding with | .mfm => 3 | .fm => 0
    let index := if d.indexField then sync + prefixes + 1 else 0
    let headerGap := match d.encoding with | .mfm => 22 | .fm => 11
    let size := 128 * 2 ^ d.sizeCode
    let sector := 2 * (sync + prefixes + 1 + 2) + 4 + headerGap + size + d.sectorGap
    let opens := d.leadGap + index
    let first := opens + d.openingGap
    let leads (at0 : Nat) : Prop := (∀ i < sync, d.itemAt (at0 + i) = .sync) ∧
      ∀ i < prefixes, d.itemAt (at0 + sync + i) = .markPrefix
    (∀ i < d.leadGap, d.itemAt i = .gap) ∧
    (d.indexField = true → leads d.leadGap ∧ d.itemAt (d.leadGap + sync + prefixes) = .indexMark) ∧
    (∀ i < d.openingGap, d.itemAt (opens + i) = .gap) ∧
    (∀ j < d.sectors,
      let start := first + j * sector
      let header := start + sync + prefixes
      let data := header + 7 + headerGap + sync + prefixes
      leads start ∧ d.itemAt header = .headerMark j ∧
      (∀ i < 4, d.itemAt (header + 1 + i) = .headerByte j i) ∧
      (∀ i < 2, d.itemAt (header + 5 + i) = .headerCrc j i) ∧
      (∀ i < headerGap, d.itemAt (header + 7 + i) = .gap) ∧
      leads (header + 7 + headerGap) ∧ d.itemAt data = .dataMark j ∧
      (∀ i < size, d.itemAt (data + 1 + i) = .dataByte j i) ∧
      (∀ i < 2, d.itemAt (data + 1 + size + i) = .dataCrc j i) ∧
      (∀ i < d.sectorGap, d.itemAt (data + 3 + size + i) = .gap)) ∧
    (∀ x, first + d.sectors * sector ≤ x → d.itemAt x = .gap) ∧
    d.fixedPart = first ∧ d.sectorLen = sector ∧ d.used = first + d.sectors * sector ∧ d.sectorSize = size

/-- READ FORMAT, REMOVE FORMAT and PLAN QUERY on a defined entry, and their refusals: BAD_VALUE for a format number
above 15, and in PLAN QUERY for a cylinder above 83 or a head above 1, whatever the entry holds, then NO_FORMAT on
an undefined one (R2, R20, R21, R26); and, byte for byte, the replies of DEFINE FORMAT, READ FORMAT and PLAN QUERY
as sections 11.1 and 11.3 lay them out, each number big-endian in its bytes (R18, R187, R188). -/
def Obligations.FormatRequestsAnswer : Prop :=
  (∀ (p : PortId) (f : FormatId) (s : State), s.ready p →
    (s.base.format f = none →
      exec (.readFormat p [byte f.val]) s = .next (s.refuse p .noFormat) ∧
      exec (.removeFormat p [byte f.val]) s = .next (s.refuse p .noFormat) ∧
      ∀ c h, c ≤ 83 → h ≤ 1 →
        exec (.planQuery p [byte f.val, byte c, byte h]) s = .next (s.refuse p .noFormat)) ∧
    (∀ d, s.base.format f = some d →
      exec (.readFormat p [byte f.val]) s = .next (s.reply p (d.readReply f)) ∧
      (s.base.formatInUse f = true →
        exec (.removeFormat p [byte f.val]) s = .next (s.refuse p .formatInUse)) ∧
      (s.base.formatInUse f = false →
        exec (.removeFormat p [byte f.val]) s = .next ({ s with base := s.base.setFormat f none }.reply p [])) ∧
      (∀ c h, c ≤ 83 → h ≤ 1 →
        (d.inWindow d.nominal = true → exec (.planQuery p [byte f.val, byte c, byte h]) s =
          .next (s.reply p (buildPlan d
            { channel := 0, format := f, cylinder := c, head := h, data := none, period := d.nominal,
              serial := none }).queryReply)) ∧
        (∀ period, period < 4294967296 →
          (d.pmin ≤ period → period ≤ d.pmax →
            exec (.planQuery p ([byte f.val, byte c, byte h] ++ be 4 period)) s =
              .next (s.reply p (buildPlan d
                { channel := 0, format := f, cylinder := c, head := h, data := none, period := period,
                  serial := none }).queryReply)) ∧
          ((period < d.pmin ∨ d.pmax < period) →
            exec (.planQuery p ([byte f.val, byte c, byte h] ++ be 4 period)) s =
              .next (s.refuse p .badValue)))))) ∧
  (∀ (d : Descriptor) (f : FormatId),
    let shows (bytes : List Byte) (fields : List (Nat × Nat × Nat)) : Prop :=
      ∀ x ∈ fields, num bytes x.1 x.2.1 = x.2.2 % 256 ^ x.2.1
    let flag (v : Bool) : Nat := if v then 1 else 0
    let given (v : Option Byte) : Nat := (v.getD 0).toNat
    let nominal := if d.rpm = 300 then 200000 else 166666
    let pmin := nominal * (1000 - d.tolerance) / 1000
    let pmax := nominal * (1000 + d.tolerance) / 1000
    let closing (period : Nat) : Nat := period * d.rate / 8000 - d.used
    let entries := d.exceptions.length
    (d.defineReply.length = 17 ∧ shows d.defineReply [(0, 1, d.sectorGap), (1, 2, d.used), (3, 4, pmin), (7, 4, pmax),
      (11, 2, closing pmin), (13, 2, closing nominal), (15, 2, closing pmax)]) ∧
    ((d.readReply f).length = 27 + 3 * entries + 11 ∧ shows (d.readReply f) [(0, 1, f.val),
      (1, 1, match d.encoding with | .fm => 0 | .mfm => 1), (2, 2, d.rate), (4, 2, d.rpm), (6, 1, d.sectors),
      (7, 1, d.sizeCode), (8, 2, 0x1FFF + 0x2000 * flag d.cylOverride.isSome + 0x4000 * flag d.headOverride.isSome +
        0x8000 * flag d.sizeOverride.isSome),
      (10, 1, d.tolerance), (11, 1, d.firstSector), (12, 1, d.interleave), (13, 1, d.cylSkew), (14, 1, d.headSkew),
      (15, 1, d.leadGap), (16, 1, flag d.indexField), (17, 1, d.openingGap), (18, 1, d.sectorGap),
      (19, 1, d.closingMin), (20, 1, d.gapFill.toNat), (21, 1, d.dataFill.toNat), (22, 1, d.stepMultiplier),
      (23, 1, given d.cylOverride), (24, 1, given d.headOverride), (25, 1, given d.sizeOverride), (26, 1, entries),
      (27 + 3 * entries, 1, flag d.gapComputed), (28 + 3 * entries, 4, pmin), (32 + 3 * entries, 4, pmax),
      (36 + 3 * entries, 2, d.used)]) ∧
    (∀ i x, d.exceptions[i]? = some x → shows (d.readReply f) [(27 + 3 * i, 1, x.index),
      (28 + 3 * i, 1, flag x.sector.isSome + 2 * flag x.deleted), (29 + 3 * i, 1, given x.sector)]) ∧
    (∀ t : TrackPlan,
      (t.queryReply.length = 14 + 3 * t.slots.length ∧ shows t.queryReply [(0, 4, t.period), (4, 2, t.capacity),
        (6, 2, t.used), (8, 1, t.gap), (9, 2, t.closing), (11, 1, (t.layout.cylOverride.getD (byte t.cylinder)).toNat),
        (12, 1, (t.layout.headOverride.getD (byte t.head)).toNat),
        (13, 1, (t.layout.sizeOverride.getD (byte t.layout.sizeCode)).toNat)]) ∧
      ∀ i x, t.slots[i]? = some x → shows t.queryReply [(14 + 3 * i, 1, x.index), (15 + 3 * i, 1, x.sector.toNat),
        (16 + 3 * i, 1, flag x.deleted)])) ∧
  (∀ (p : PortId) (v c h : Byte) (period : List Byte) (s : State), s.ready p →
    (period.length = 0 ∨ period.length = 4) →
    let query := exec (.planQuery p (v :: c :: h :: period)) s
    (15 < v.toNat → ∀ r ∈ [exec (.readFormat p [v]) s, exec (.removeFormat p [v]) s, query],
      r = .next (s.refuse p .badValue)) ∧
    ((83 < c.toNat ∨ 1 < h.toNat) → query = .next (s.refuse p .badValue)))

/-! Master images (chapter 3). -/

/-- OPEN IMAGE on a FREE slot with room takes its region, counts the opening, makes a map of SKIP entries and
begins clearing; a value out of range, a slot that is not FREE and a store without room refuse it, in that order
(R29, R45). First fit: the lowest-based FREE region of the length or more gives its low end and keeps the rest
FREE, and the allocation fails exactly when there is none (R29). Every request that names a slot is refused first
for a slot or another field out of its range, then by the slot's state, then for a port that is not the loader
where it requires the loader (R42); then SET CURSOR and READ TRACK ENTRY for a track outside the map (R49, R62). -/
def Obligations.OpenImageReservesARegion : Prop :=
  (∀ (p : PortId) (slot : SlotId) (len cylinders heads : Nat) (s : State), s.ready p →
    len < 4294967296 → cylinders ≤ 255 → heads ≤ 255 →
    let send := exec (.openImage p (byte slot.val :: be 4 len ++ [byte cylinders, byte heads])) s
    let inRange : Prop := 1 ≤ len ∧ len ≤ s.base.store.blocks ∧ 1 ≤ cylinders ∧ cylinders ≤ 84 ∧
      1 ≤ heads ∧ heads ≤ 2
    (¬inRange → send = .next (s.refuse p .badValue)) ∧
    (inRange → (s.base.image slot).state ≠ .free → send = .next (s.refuse p .slotBusy)) ∧
    (inRange → (s.base.image slot).state = .free →
      (allocate len slot s.base.store.regions = none → send = .next (s.refuse p .noRoom)) ∧
      (∀ base regions, allocate len slot s.base.store.regions = some (base, regions) →
        send = .next ({ s with base := { s.base.setImage slot { s.base.image slot with
            state := .clearing, openNumber := (s.base.image slot).openNumber + 1,
            opening := some { loader := p, base := base, length := len, cylinders := cylinders, heads := heads },
            fillMark := 0, trackMap := List.replicate (cylinders * heads) .skip, overflow := 0,
            expected := none, computed := none } with
          store := { s.base.store with
            regions := regions,
            clearing := s.base.store.clearing ++ [(⟨p, slot, 0⟩ : Clearing)] } } }.reply p
          (byte slot.val :: be 2 ((s.base.image slot).openNumber + 1).toNat ++ be 2 base ++ be 2 len))))) ∧
  (∀ (len : Nat) (slot : SlotId) (regions : List Region),
    (∀ base after, allocate len slot regions = some (base, after) →
      ∃ front r back, regions = front ++ r :: back ∧ r.owner = none ∧ len ≤ r.length ∧ base = r.base ∧
        (∀ q ∈ front, ¬(q.owner = none ∧ len ≤ q.length)) ∧
        after = front ++ { base := r.base, length := len, owner := some slot } ::
          ((if r.length = len then [] else
            [{ base := r.base + len, length := r.length - len, owner := none }]) ++ back)) ∧
    (allocate len slot regions = none ↔ ∀ q ∈ regions, ¬(q.owner = none ∧ len ≤ q.length))) ∧
  (∀ (p : PortId) (slot c h kind v : Byte) (offset crc : List Byte) (s : State), s.ready p →
    offset.length = 3 → crc.length = 4 →
    let defineTrack := exec (.defineTrack p [slot, c, h, kind, v]) s
    let setCursor := exec (.setCursor p (slot :: c :: h :: offset)) s
    let finish := exec (.finishImage p (slot :: crc)) s
    let delete := exec (.deleteImage p [slot]) s
    let read := exec (.readImage p [slot]) s
    let readEntry := exec (.readTrackEntry p [slot, c, h]) s
    let refused (status : Status) (r : Host.Outcome State Fault Refusal) : Prop := r = .next (s.refuse p status)
    let track : Prop := c.toNat ≤ 83 ∧ h.toNat ≤ 1
    let defined : Prop := kind = 3 ∨ ((kind = 1 ∨ kind = 2) ∧ v.toNat ≤ 15)
    (7 < slot.toNat →
      (∀ rest : List Byte, rest.length = 6 → refused .badValue (exec (.openImage p (slot :: rest)) s)) ∧
      ∀ r ∈ [defineTrack, setCursor, finish, delete, read, readEntry], refused .badValue r) ∧
    ((¬track ∨ ¬defined) → refused .badValue defineTrack) ∧
    (¬track → refused .badValue setCursor ∧ refused .badValue readEntry) ∧
    (∀ k : SlotId, k.val = slot.toNat →
      let im := s.base.image k
      let opened : Prop := im.state = .loading ∨ im.state = .checking ∨ im.state = .ready ∨ im.state = .bad
      (im.state = .free → ∀ r ∈ [finish, delete, read], refused .noImage r) ∧
      (im.state = .free → track → refused .noImage setCursor ∧ refused .noImage readEntry ∧
        (defined → refused .noImage defineTrack)) ∧
      (im.state = .clearing → ∀ r ∈ [finish, read], refused .wrongImageState r) ∧
      (im.state = .clearing → track →
        refused .wrongImageState setCursor ∧ refused .wrongImageState readEntry) ∧
      (im.state ≠ .free → im.state ≠ .loading → refused .wrongImageState finish ∧
        (track → defined → refused .wrongImageState defineTrack)) ∧
      (∀ o, im.opening = some o → o.loader ≠ p → im.state = .loading →
        refused .notLoader finish ∧ (track → defined → refused .notLoader defineTrack)) ∧
      (∀ o, im.opening = some o → opened → track → (o.cylinders ≤ c.toNat ∨ o.heads ≤ h.toNat) →
        refused .badValue setCursor ∧ refused .badValue readEntry)))

/-- DEFINE TRACK by the loader of a slot in LOADING. It is refused for a track outside the slot's map, for one
already defined, and where its format is undefined (R47). Kind DATA gives the track a span at the fill mark, which
rises by n × S, and is refused when the region has no room for it; FORMAT-ONLY and ERASE take no bytes (R47, R48).
The entry of a track stands in track order, the heads of a cylinder together, and a DATA or FORMAT-ONLY entry names
its format (R44). -/
def Obligations.DefineTrackAllocatesASpan : Prop :=
  (∀ (p : PortId) (slot : SlotId) (f : FormatId) (c h : Nat) (o : Opening) (s : State), s.ready p →
     (s.base.image slot).state = .loading → (s.base.image slot).opening = some o → o.loader = p →
     c ≤ 83 → h ≤ 1 →
     let im := s.base.image slot
     let send (kind v : Byte) : Host.Outcome State Fault Refusal :=
       exec (.defineTrack p [byte slot.val, byte c, byte h, kind, v]) s
     let goes (status : Status) (r : Host.Outcome State Fault Refusal) : Prop := r = .next (s.refuse p status)
     let makes (e : TrackEntry) (grows : Nat) (reply : List Byte) : Host.Outcome State Fault Refusal :=
       .next ({ s with base := s.base.setImage slot { im with
         trackMap := im.trackMap.set (c * o.heads + h) e, fillMark := im.fillMark + grows } }.reply p reply)
     ((o.cylinders ≤ c ∨ o.heads ≤ h) → ∀ v,
       goes .badValue (send 1 (byte f.val)) ∧ goes .badValue (send 2 (byte f.val)) ∧ goes .badValue (send 3 v)) ∧
     (∀ e, im.entry c h = some e → e ≠ .skip → ∀ v,
       goes .trackDefined (send 1 (byte f.val)) ∧ goes .trackDefined (send 2 (byte f.val)) ∧
       goes .trackDefined (send 3 v)) ∧
     (im.entry c h = some .skip →
       (s.base.format f = none → goes .noFormat (send 1 (byte f.val)) ∧ goes .noFormat (send 2 (byte f.val))) ∧
       (∀ d, s.base.format f = some d →
         let span := d.sectors * (128 * 2 ^ d.sizeCode)
         (im.fillMark + span ≤ o.length * 4096 → send 1 (byte f.val) =
           makes (.data f im.fillMark span) span (be 4 im.fillMark ++ be 4 span)) ∧
         (o.length * 4096 < im.fillMark + span → goes .noRoom (send 1 (byte f.val))) ∧
         send 2 (byte f.val) = makes (.formatOnly f) 0 []) ∧
       ∀ v, send 3 v = makes .erase 0 [])) ∧
  (∀ (im : ImageSlot) (o : Opening) (c h : Nat), im.opening = some o →
    im.trackIndex c h = c * o.heads + h ∧
    im.entry c h = if c < o.cylinders ∧ h < o.heads then im.trackMap[c * o.heads + h]? else none) ∧
  (∀ e : TrackEntry, e.format? = match e with
    | .data f _ _ => some f | .formatOnly f => some f | .erase => none | .skip => none)

/-- SET CURSOR on an open slot replaces the port's data cursor whole (R49). READ DATA at a live cursor starts a
transfer of the bytes in span, or answers with none past the span (R53). WRITE DATA by the loader cuts the bytes
past the span, counts them as overflow, moves the cursor past all of them, and hands the bytes in span to the
store; with none in span it answers at once (R34, R51, R52). Both data requests refuse first for a cursor that is
not live or whose track is not DATA, then by their own checks (R50, R52, R53). -/
def Obligations.DataRequestsWorkAtTheCursor : Prop :=
  (∀ (p : PortId) (slot : SlotId) (c h offset : Nat) (e : TrackEntry) (s : State), s.ready p →
     c ≤ 83 → h ≤ 1 → offset ≤ 16777215 →
     ((s.base.image slot).state = .loading ∨ (s.base.image slot).state = .checking ∨
       (s.base.image slot).state = .ready ∨ (s.base.image slot).state = .bad) →
     (s.base.image slot).entry c h = some e →
     exec (.setCursor p (byte slot.val :: byte c :: byte h :: be 3 offset)) s =
       .next ({ s with floor := s.floor.setPort p { s.floor.port p with
         cursor := some { slot := slot, openNumber := (s.base.image slot).openNumber, cylinder := c, head := h,
                          offset := offset } } }.reply p (e.code :: be 4 ((e.span?.map Prod.snd).getD 0)))) ∧
  (∀ (p : PortId) (count : Nat) (cur : DataCursor) (f : FormatId) (start len : Nat) (s : State), s.ready p →
     1 ≤ count → count ≤ 248 → (s.floor.port p).cursor = some cur →
     (s.base.image cur.slot).state ≠ .free → (s.base.image cur.slot).openNumber = cur.openNumber →
     (s.base.image cur.slot).entry cur.cylinder cur.head = some (.data f start len) →
     (len ≤ cur.offset → exec (.readData p [byte count]) s = .next (s.reply p [])) ∧
     (cur.offset < len → exec (.readData p [byte count]) s =
       .next { s with floor := s.floor.setPort p { s.floor.port p with
         pending := none,
         transfer := some { slot := cur.slot, openNumber := cur.openNumber, offset := start + cur.offset,
                            kind := .read (min count (len - cur.offset)) [] } } })) ∧
  (∀ (p : PortId) (payload : List Byte) (cur : DataCursor) (f : FormatId) (start len : Nat) (s : State), s.ready p →
     1 ≤ payload.length → payload.length ≤ 248 → (s.floor.port p).cursor = some cur →
     (s.base.image cur.slot).state = .loading → (s.base.image cur.slot).openNumber = cur.openNumber →
     (s.base.image cur.slot).opening.map (·.loader) = some p →
     (s.base.image cur.slot).entry cur.cylinder cur.head = some (.data f start len) →
     (let kept := min payload.length (len - cur.offset)
      let counted := s.base.setImage cur.slot { s.base.image cur.slot with
        overflow := min 65535 ((s.base.image cur.slot).overflow + (payload.length - kept)) }
      let moved : Option DataCursor := some { cur with offset := min 16777215 (cur.offset + payload.length) }
      (kept = 0 → exec (.writeData p payload) s =
        .next { s with base := counted, floor := s.floor.setPort p { s.floor.port p with
          cursor := moved, pending := some { status := .ok, payload := [0] } } }) ∧
      (kept ≠ 0 → exec (.writeData p payload) s =
        .next { s with base := counted, floor := s.floor.setPort p { s.floor.port p with
          cursor := moved, pending := none,
          transfer := some { slot := cur.slot, openNumber := cur.openNumber, offset := start + cur.offset,
                             kind := .write (payload.take kept) 0 } } }))) ∧
  (∀ (p : PortId) (data : List Byte) (count : Byte) (s : State), s.ready p → 1 ≤ data.length → data.length ≤ 248 →
    let im (cur : DataCursor) : ImageSlot := s.base.image cur.slot
    ((s.floor.port p).cursor = none →
      exec (.readData p [count]) s = .next (s.refuse p .noImage) ∧
      exec (.writeData p data) s = .next (s.refuse p .noImage)) ∧
    (∀ cur, (s.floor.port p).cursor = some cur →
      ((im cur).state = .free ∨ (im cur).openNumber ≠ cur.openNumber →
        exec (.readData p [count]) s = .next (s.refuse p .noImage) ∧
        exec (.writeData p data) s = .next (s.refuse p .noImage)) ∧
      ((im cur).state ≠ .free → (im cur).openNumber = cur.openNumber →
        ((∀ f start len, (im cur).entry cur.cylinder cur.head ≠ some (.data f start len)) →
          exec (.readData p [count]) s = .next (s.refuse p .noTrack) ∧
          exec (.writeData p data) s = .next (s.refuse p .noTrack)) ∧
        (∀ f start len, (im cur).entry cur.cylinder cur.head = some (.data f start len) →
          ((count.toNat < 1 ∨ 248 < count.toNat) →
            exec (.readData p [count]) s = .next (s.refuse p .badValue)) ∧
          ((im cur).opening.map (·.loader) ≠ some p →
            exec (.writeData p data) s = .next (s.refuse p .notLoader)) ∧
          ((im cur).opening.map (·.loader) = some p → (im cur).state ≠ .loading →
            exec (.writeData p data) s = .next (s.refuse p .wrongImageState))))))

/-- FINISH IMAGE by the loader puts the slot in CHECKING with its expected check, and an idle Image Check Unit
takes it at once (R54, R55). A burst of the check enters its bytes into the CRC and moves on through the spans; the
last one stores the computed check and brings the slot to READY with IMAGE_READY, or to BAD with IMAGE_BAD, by
whether it equals the expected one, and the unit takes the next slot of the check list (R55 to R57). An image with
no DATA span has the check 0 (R54, R56) and completes in the step that takes it, with its own event (entry 12,
DEDUCED). The spans are those of the DATA entries in track order (R55); the check is CRC-32 of generator 04C11DB7,
preset FFFFFFFF, the bits of a byte least significant first, read out inverted (R56). -/
def Obligations.ImagesAreCheckedToReadyOrBad : Prop :=
  (∀ (p : PortId) (slot : SlotId) (crc : Nat) (o : Opening) (s : State), s.ready p →
     crc < 4294967296 → (s.base.image slot).state = .loading → (s.base.image slot).opening = some o → o.loader = p →
     (let finished := s.base.setImage slot { s.base.image slot with
        expected := some (BitVec.ofNat 32 crc), computed := none, state := .checking }
      (s.base.check.isSome = true →
        exec (.finishImage p (byte slot.val :: be 4 crc)) s =
          .next ({ s with base := { finished with checkList := s.base.checkList ++ [slot] } }.reply p [])) ∧
      (s.base.check = none → s.base.checkList = [] → (s.base.image slot).spans ≠ [] →
        exec (.finishImage p (byte slot.val :: be 4 crc)) s =
          .next ({ s with base := { finished with check := some {
            slot := slot, crc := 0xFFFFFFFF, spans := (s.base.image slot).spans, bytesRead := 0 } } }.reply p [])) ∧
      (s.base.check = none → s.base.checkList = [] → (s.base.image slot).spans = [] →
        let t : State := { s with base := s.base.setImage slot { s.base.image slot with
          expected := some (BitVec.ofNat 32 crc), computed := some 0
          state := if crc = 0 then .ready else .bad } }.reply p []
        exec (.finishImage p (byte slot.val :: be 4 crc)) s =
          .next { t with floor := t.floor.post (if crc = 0 then .imageReady else .imageBad) }))) ∧
  (∀ (s : State) (k : ImageCheck) (offset left addr len : Nat) (rest : List (Nat × Nat)),
     s.base.resetActive = false →
     s.floor.burst = some { work := .check, addr := addr, len := len, live := true } →
     addr + len ≤ s.base.store.blocks * 4096 → s.base.check = some k → k.spans = (offset, left) :: rest →
     len ≤ left →
     let read := (Memory.readBytes s.mem addr len).foldl crc32Byte k.crc
     let idle : Floor := { s.floor with burst := none }
     let onward (spans : List (Nat × Nat)) : Host.Outcome State Fault Refusal :=
       .next { s with
         base := { s.base with check := some { k with crc := read, spans := spans, bytesRead := k.bytesRead + len } }
         floor := idle }
     (len < left → exec .storeBurstComplete s = onward ((offset + len, left - len) :: rest)) ∧
     (len = left → rest ≠ [] → exec .storeBurstComplete s = onward rest) ∧
     (∀ front back, len = left → rest = [] → s.base.checkList = front ++ back → front.Nodup → k.slot ∉ front →
       (∀ l ∈ front, (s.base.image l).spans = []) →
       (∀ l ∈ back.head?, (s.base.image l).spans ≠ [] ∧ l ≠ k.slot ∧ l ∉ front) →
       let value := ~~~read
       let passes (l : SlotId) (v : Word32) : Prop := (s.base.image l).expected = some v
       let checked (l : SlotId) (v : Word32) (im : ImageSlot) : Prop :=
         (passes l v → im = { s.base.image l with computed := some v, state := .ready }) ∧
         (¬passes l v → im = { s.base.image l with computed := some v, state := .bad })
       ∃ u, exec .storeBurstComplete s = .next u ∧ u.pending = s.pending ∧ u.mem = s.mem ∧
         u.base.check = back.head?.map (fun l =>
           { slot := l, crc := 0xFFFFFFFF, spans := (s.base.image l).spans, bytesRead := 0 }) ∧
         u.base.checkList = back.drop 1 ∧ checked k.slot value (u.base.image k.slot) ∧
         (∀ l ∈ front, checked l 0 (u.base.image l)) ∧
         (∀ l, l ≠ k.slot → l ∉ front → u.base.image l = s.base.image l) ∧
         u.floor = front.foldl (fun f l => f.post
           (if (s.base.image l).expected = some 0 then .imageReady else .imageBad))
           (idle.post (if (s.base.image k.slot).expected = some value then .imageReady else .imageBad)))) ∧
  (∀ im : ImageSlot, im.spans = im.trackMap.filterMap fun e => match e with
    | .data _ offset len => some (offset, len) | .formatOnly _ => none | .erase => none | .skip => none) ∧
  (∀ (r : Word32) (v : Byte),
    let generator : Word32 := 0xEDB88320
    (∀ i < 32, generator.getLsbD i = (0x04C11DB7 : Word32).getLsbD (31 - i)) ∧
    crc32Byte r v = (List.range 8).foldl (fun (q : Word32) (i : Nat) =>
      if q.getLsbD 0 != v.getLsbD i then (q >>> 1) ^^^ generator else q >>> 1) r) ∧
  ~~~((List.range' 0x31 9).map byte).foldl crc32Byte 0xFFFFFFFF = 0xCBF43926

/-- DELETE IMAGE is refused while a job names the slot; otherwise it frees and merges the region, the slot is FREE
with its open number kept, and its clearing is abandoned (R30, R32, R58). A check of the slot is abandoned without
an event: one that waits leaves the list, the slots behind it keeping their order; one under way ends, its burst no
longer wanted, and the unit takes the next slot of the list (R59), an image with no bytes completing as it is taken
(entry 12, DEDUCED). A freed region becomes one FREE region with its FREE neighbours, of their lower base and the
sum of their lengths (R30). -/
def Obligations.DeleteImageFreesTheSlot : Prop :=
  (∀ (p : PortId) (slot : SlotId) (s : State), s.ready p → (s.base.image slot).state ≠ .free →
    let send := exec (.deleteImage p [byte slot.val]) s
    let emptied : ImageSlot := { ImageSlot.reset with openNumber := (s.base.image slot).openNumber }
    let freed : Store := { s.base.store with
      regions := freeRegion slot s.base.store.regions
      clearing := s.base.store.clearing.filter fun w => decide (w.slot ≠ slot) }
    let waiting := s.base.checkList.filter fun l => decide (l ≠ slot)
    let ok : Reply := { status := .ok, payload := [] }
    (0 < (s.base.image slot).refCount → send = .next (s.refuse p .imageInUse)) ∧
    (∀ k, (s.base.image slot).refCount = 0 → s.base.check = some k → k.slot ≠ slot →
      send = .next { s with
        base := { s.base.setImage slot emptied with store := freed, checkList := waiting }
        floor := (s.floor.orphanBurst (BurstWork.isClearOf slot)).answer p ok }) ∧
    (∀ front back, (s.base.image slot).refCount = 0 → (∀ k, s.base.check = some k → k.slot = slot) →
      waiting = front ++ back → (∀ l ∈ front, (s.base.image l).spans = []) →
      (∀ l ∈ back.head?, (s.base.image l).spans ≠ []) →
      ∃ t, send = .next t ∧ t.pending = s.pending ∧ t.mem = s.mem ∧
        t.base = { s.base with
          store := freed, images := t.base.images, checkList := back.drop 1
          check := back.head?.map fun l =>
            { slot := l, crc := 0xFFFFFFFF, spans := (s.base.image l).spans, bytesRead := 0 } } ∧
        t.base.image slot = emptied ∧
        (∀ l ∈ front, t.base.image l = { s.base.image l with
          computed := some 0, state := if (s.base.image l).expected = some 0 then .ready else .bad }) ∧
        (∀ l, l ≠ slot → l ∉ front → t.base.image l = s.base.image l) ∧
        t.floor = front.foldl (fun f l => f.post
          (if (s.base.image l).expected = some 0 then .imageReady else .imageBad))
          ((s.floor.orphanBurst fun w => w.isClearOf slot || (s.base.check.isSome && w.isCheck)).answer p ok))) ∧
  (∀ (slot : SlotId) (before left : List Region) (r : Region) (right after : List Region),
    let regions := before ++ left ++ r :: (right ++ after)
    let unowned (q : Region) : Prop := q.owner = none
    apart regions = true → r.owner = some slot → (∀ q ∈ before ++ left ++ right ++ after, q.owner ≠ some slot) →
    left.length ≤ 1 → right.length ≤ 1 → (∀ q ∈ left ++ right, unowned q) →
    (left = [] → ∀ q ∈ before.getLast?, ¬unowned q) → (right = [] → ∀ q ∈ after.head?, ¬unowned q) →
    freeRegion slot regions = before ++ {
      base := (left.headD r).base, length := ((left ++ r :: right).map Region.length).sum, owner := none } :: after) ∧
  (∀ (f : Floor) (mine : BurstWork → Bool),
    (f.burst = none → f.orphanBurst mine = f) ∧
    ∀ w, f.burst = some w → f.orphanBurst mine = { f with burst := some { w with live := w.live && !mine w.work } }) ∧
  (∀ (slot : SlotId) (work : BurstWork),
    (work.isClearOf slot = true ↔ work = .clear slot) ∧ (work.isCheck = true ↔ work = .check))

/-- The reads reply with what they show and change nothing else: READ IMAGE and READ TRACK ENTRY on an open slot,
READ JOB of an id the queue holds, with the job's place counted from 1, and the reads taken in every state (R40,
R42, R61, R62, R74, R122, R162, R173, R184). READ JOB of an id the queue does not hold is refused with NO_JOB, and
of id 0 is the queue summary (R68, R74). READ DRIVE refuses a channel number above 7 with BAD_VALUE (R122). -/
def Obligations.ReadsOnlyReply : Prop :=
  (∀ (p : PortId) (slot : SlotId) (o : Opening) (c h : Nat) (e : TrackEntry) (s : State), s.ready p →
    ((s.base.image slot).state = .loading ∨ (s.base.image slot).state = .checking ∨
      (s.base.image slot).state = .ready ∨ (s.base.image slot).state = .bad) →
    (s.base.image slot).opening = some o → c ≤ 83 → h ≤ 1 → (s.base.image slot).entry c h = some e →
    exec (.readImage p [byte slot.val]) s = .next (s.reply p (s.base.imageReport slot o)) ∧
    exec (.readTrackEntry p [byte slot.val, byte c, byte h]) s = .next (s.reply p e.reply)) ∧
  (∀ (p : PortId) (j : Job) (s : State), s.ready p → s.floor.job j.id = some j → 1 ≤ j.id → j.id ≤ 255 →
    exec (.readJob p [byte j.id]) s =
      .next (s.reply p (j.report (placeOf (fun k => k.id == j.id) s.floor.jobs)))) ∧
  (∀ (p : PortId) (c : Chan) (s : State), s.ready p →
    exec (.readDevice p []) s = .next (s.reply p [0x5A, 0x31, 0x08, 0x80, 0x01,
      byte (s.base.store.blocks / 256), s.base.resetCause.code, byte s.base.resetCount, portCode p]) ∧
    exec (.readLine p []) s = .next (s.reply p (s.floor.lineFlags :: s.floor.drives.toList.map DriveLines.flags)) ∧
    exec (.readStoreMap p []) s = .next (s.reply p
      (be 2 s.base.store.blocks ++ byte s.base.store.share :: be 2 (freeLengths s.base.store.regions).sum
        ++ be 2 ((freeLengths s.base.store.regions).foldl max 0) ++ byte s.base.store.regions.length ::
          s.base.store.regions.flatMap s.base.regionReply)) ∧
    exec (.readRing p []) s = .next (s.reply p s.floor.ringReport) ∧
    exec (.readDrive p [byte c.val]) s = .next (s.reply p (driveReport s.base s.floor c)) ∧
    exec (.readJob p [0]) s = .next (s.reply p s.floor.queueSummary)) ∧
  (∀ (p : PortId) (id : Nat) (s : State), s.ready p → 1 ≤ id → id ≤ 255 → (∀ j ∈ s.floor.jobs, j.id ≠ id) →
    exec (.readJob p [byte id]) s = .next (s.refuse p .noJob)) ∧
  (∀ (front : List Job) (j : Job) (back : List Job), (∀ q ∈ front, q.id ≠ j.id) →
    placeOf (fun k => k.id == j.id) (front ++ j :: back) = front.length + 1) ∧
  (∀ (p : PortId) (v : Byte) (s : State), s.ready p → 7 < v.toNat →
    exec (.readDrive p [v]) s = .next (s.refuse p .badValue))

/-- The codes and lengths of section 11.1, the codes of section 11.2, and byte for byte the layouts of sections
11.1, 11.4 and 11.5: each number big-endian in its bytes, each flag at its bit, an absent field 00 (R187, R188).
Held so are the image report (R61), a track entry (R62), a region of the store map (R40), the job report and the
queue summary (R74), the drive report (R122), the result record (R148), READ RING (R162), READ LINE (R173) and an
event set (R182). A number outside the range its rule gives, which no run reaches, is shown modulo its bytes; four
intervals or fewer are what every step keeps (IndexEdgesAreCaptured). The at-speed flag is judged at the current
track, in RECAL, PRODUCING, PAUSED and POSTING by the model's choice (entry 35). The replies that carry the reports
stand in ReadsOnlyReply and PortRequestsActOnTheirPort. -/
def Obligations.ReportsHoldTheirLayouts : Prop :=
  let shows (bytes : List Byte) (fields : List (Nat × Nat × Nat)) : Prop :=
    ∀ x ∈ fields, num bytes x.1 x.2.1 = x.2.2 % 256 ^ x.2.1
  let flag (v : Bool) : Nat := if v then 1 else 0
  let port (p : PortId) : Nat := match p with | .a => 0 | .b => 1
  let bits (v : Nat) (list : List Bool) : Prop := ∀ i, v.testBit i = list.getD i false
  let part (v : Option Nat) : Nat := v.getD 0
  let disk (bytes : List Byte) (at0 : Nat) (serial verified : Bool) (capture : Capture) : Prop :=
    bits (num bytes at0 1) [serial, verified, capture.held.isSome, (capture.held.bind CaptureEvent.sector).isSome,
      capture.second, (capture.held.map CaptureEvent.hard).getD false]
  let captured (capture : Capture) (at0 : Nat) : List (Nat × Nat × Nat) :=
    [(at0, 1, part (capture.held.map fun e => e.cause.code.toNat)), (at0 + 1, 1, part (capture.held.map (·.cylinder))),
      (at0 + 2, 1, part (capture.held.map (·.head))),
      (at0 + 3, 1, part ((capture.held.bind CaptureEvent.sector).map BitVec.toNat))]
  let spec (sp : SerialSpec) (at0 : Nat) : List (Nat × Nat × Nat) :=
    [(at0, 1, sp.cylinder), (at0 + 1, 1, sp.head), (at0 + 2, 1, sp.index), (at0 + 3, 2, sp.offset),
      (at0 + 5, 1, match sp.encoding with | .ascii _ => 0 | .binary => 1),
      (at0 + 6, 1, match sp.encoding with | .ascii w => w | .binary => 0), (at0 + 7, 4, sp.start),
      (at0 + 11, 1, sp.step)]
  (∀ x ∈ [(Request.readDevice, (0x01 : Byte), [0]), (.portReset, 0x02, [0]), (.readEvents, 0x03, [0]),
      (.setEventMask, 0x04, [8]), (.setLineHold, 0x05, [1]), (.readLine, 0x06, [0]),
      (.defineFormat, 0x10, [27, 30, 33, 36, 39, 42, 45, 48, 51]), (.readFormat, 0x11, [1]),
      (.removeFormat, 0x12, [1]), (.planQuery, 0x13, [3, 7]), (.openImage, 0x20, [7]), (.defineTrack, 0x21, [5]),
      (.setCursor, 0x22, [6]), (.writeData, 0x23, List.range' 1 248), (.readData, 0x24, [1]),
      (.finishImage, 0x25, [5]), (.deleteImage, 0x26, [1]), (.readImage, 0x27, [1]), (.readTrackEntry, 0x28, [3]),
      (.readStoreMap, 0x29, [0]), (.setStore, 0x2A, [1]), (.defineJob, 0x30, [8, 20]), (.startJob, 0x31, [1]),
      (.stopJob, 0x32, [1]), (.cancelJob, 0x33, [1]), (.removeJob, 0x34, [1]), (.readJob, 0x35, [1]),
      (.setDrive, 0x40, [8]), (.enableDrive, 0x41, [1]), (.disableDrive, 0x42, [1]), (.freezeDrive, 0x43, [1]),
      (.resumeDrive, 0x44, [1]), (.resetDrive, 0x45, [1]), (.readDrive, 0x46, [1]), (.readResult, 0x50, [0]),
      (.setResultFollow, 0x51, [1]), (.readRing, 0x52, [0])],
    x.1.code = x.2.1 ∧ Request.ofCode x.2.1 = some x.1 ∧ ∀ n, x.1.admits n = true ↔ n ∈ x.2.2) ∧
  (∀ x : Status, [Status.ok, .noReply, .shortFrame, .unknownRequest, .badLength, .badValue, .noFormat, .formatInUse,
      .trackOverfull, .slotBusy, .noImage, .notLoader, .wrongImageState, .noRoom, .noTrack, .trackDefined, .imageInUse,
      .imageNotReady, .jobExists, .noJob, .queueFull, .wrongJobState, .jobBusy, .driveBusy, .wrongState,
      .serialPlace][x.code.toNat]? = some x) ∧
  (∀ x : ImageState, [ImageState.free, .clearing, .loading, .checking, .ready, .bad][x.code.toNat]? = some x) ∧
  (∀ x : JobState, [JobState.queued, .running, .draining, .done, .cancelled][x.code.toNat]? = some x) ∧
  (∀ x : Option EndCause, [none, some EndCause.targetMet, some .serialsExhausted, some .stopped,
      some .cancelled][(endCauseCode x).toNat]? = some x) ∧
  (∀ x : ChannelState, [ChannelState.disabled, .empty, .loaded, .spinup, .recal, .producing, .paused, .posting,
      .unloading, .fault][x.code.toNat]? = some x) ∧
  (∀ x : Option Phase, [none, some Phase.plan, some .seek, some .settle, some .write,
      some .verify][(phaseCode x).toNat]? = some x) ∧
  (∀ x : Option DriveFault, [none, some DriveFault.speed, some .noIndex, some .noTrack0,
      some .failStreak][(faultCode x).toNat]? = some x) ∧
  (∀ x : DiskOutcome, [DiskOutcome.pass, .passSoft, .fail, .aborted][x.code.toNat]? = some x) ∧
  (∀ x : Bin, [Bin.none, .accept, .reject, .hold][x.code.toNat]? = some x) ∧
  (∀ x : Window, [Window.full, .w875, .w75][x.code.toNat]? = some x) ∧
  (∀ x : Cause, [none, some Cause.recovered, some .marginalAccepted, some .missing, some .headerMismatch,
      some .headerCrc, some .markMismatch, some .dataCrc, some .dataMismatch, some .underrun, some .overrun,
      some .writeProtected, some .cancelled, some .diskPulled, some .driveReset, some .speed, some .noIndex,
      some .noTrack0][x.code.toNat]? = some (some x)) ∧
  (∀ x : EventKind, [none, some EventKind.imageReady, some .imageBad, some .jobEnded, some .resultsWaiting,
      some .driveFault, some .lineChanged, some .resultsDropped][x.code.toNat]? = some (some x)) ∧
  (∀ x : PortId, (portCode x).toNat = port x) ∧ (∀ x : Bool, (flagByte x).toNat = flag x) ∧
  (∀ x : ResetCause, x.code = match x with | .powerOn => 0x00 | .resetPin => 0x01) ∧
  (∀ set : List EventKind,
    let bytes := eventBytes set
    let n := (allEvents.filter fun e => decide (e ∈ set)).length
    bytes.length = 8 ∧ num bytes 0 1 = n ∧ (∀ e, e.code ∈ (bytes.drop 1).take n ↔ e ∈ set) ∧
      ((bytes.drop 1).take n).Pairwise (fun v w => v.toNat < w.toNat) ∧ ∀ v ∈ bytes.drop (1 + n), v = 0) ∧
  (∀ (b : Base) (slot : SlotId) (o : Opening),
    let im := b.image slot
    let bytes := b.imageReport slot o
    let entries (kind : TrackEntry → Bool) : Nat := (im.trackMap.filter kind).length
    bytes.length = 40 ∧ bits (num bytes 25 1) [im.expected.isSome, im.computed.isSome] ∧
    shows bytes [(0, 1, slot.val), (1, 1, im.state.code.toNat), (2, 2, im.openNumber.toNat), (4, 1, port o.loader),
      (5, 2, o.base), (7, 2, o.length), (9, 1, o.cylinders), (10, 1, o.heads), (11, 4, im.fillMark),
      (15, 4, o.length * 4096 - im.fillMark),
      (19, 1, entries fun e => match e with
        | .data _ _ _ => true | .formatOnly _ => false | .erase => false | .skip => false),
      (20, 1, entries fun e => match e with
        | .data _ _ _ => false | .formatOnly _ => true | .erase => false | .skip => false),
      (21, 1, entries fun e => match e with
        | .data _ _ _ => false | .formatOnly _ => false | .erase => true | .skip => false),
      (22, 1, entries fun e => match e with
        | .data _ _ _ => false | .formatOnly _ => false | .erase => false | .skip => true),
      (23, 2, im.overflow), (26, 4, part (im.expected.map BitVec.toNat)), (30, 4, part (im.computed.map BitVec.toNat)),
      (34, 1, im.refCount)] ∧
    (∀ k, b.check = some k → k.slot = slot → shows bytes [(35, 1, 0xFF), (36, 4, k.bytesRead)]) ∧
    (b.check.map ImageCheck.slot ≠ some slot → num bytes 36 4 = 0 ∧
      (slot ∉ b.checkList → num bytes 35 1 = 0) ∧
      ∀ front back, b.checkList = front ++ slot :: back → slot ∉ front → shows bytes [(35, 1, front.length + 1)])) ∧
  (∀ e : TrackEntry, e.reply.length = 10 ∧ shows e.reply (match e with
    | .skip => [(0, 1, 0), (1, 1, 0), (2, 4, 0), (6, 4, 0)]
    | .data f offset len => [(0, 1, 1), (1, 1, f.val), (2, 4, offset), (6, 4, len)]
    | .formatOnly f => [(0, 1, 2), (1, 1, f.val), (2, 4, 0), (6, 4, 0)]
    | .erase => [(0, 1, 3), (1, 1, 0), (2, 4, 0), (6, 4, 0)])) ∧
  (∀ (b : Base) (r : Region), (b.regionReply r).length = 8 ∧
    shows (b.regionReply r) [(0, 2, r.base), (2, 2, r.length),
      (4, 1, match r.owner with | some slot => slot.val | none => 0xFF)] ∧
    ((r.owner = none ∨ ∀ w ∈ b.store.clearing, some w.slot ≠ r.owner) →
      shows (b.regionReply r) [(5, 1, 0), (6, 2, 0)]) ∧
    (∀ front w back, b.store.clearing = front ++ w :: back → r.owner = some w.slot → (∀ v ∈ front, v.slot ≠ w.slot) →
      shows (b.regionReply r) [(5, 1, 1), (6, 2, w.bytes / 4096)])) ∧
  (∀ list : List Region, freeLengths list = (list.filter fun r => decide (r.owner = none)).map Region.length) ∧
  (∀ (j : Job) (place : Nat),
    let bytes := j.report place
    shows bytes [(0, 1, j.id), (1, 1, j.slot.val), (2, 2, j.target), (4, 1, j.drives.toNat), (5, 1, j.verifyEvery),
      (6, 1, j.window.code.toNat), (7, 1, j.retryLimit), (8, 1, port j.origin), (9, 1, j.state.code.toNat),
      (10, 1, (endCauseCode j.endCause).toNat), (11, 1, place), (12, 1, flag j.issuable), (13, 1, j.inFlight),
      (14, 4, j.issued), (18, 4, j.passed), (22, 4, j.failed), (26, 4, j.aborted), (30, 1, flag j.serial.isSome)] ∧
    (j.serial = none → bytes.length = 31) ∧
    (∀ st, j.serial = some st → bytes.length = 49 + 4 * st.reclaim.length ∧ shows bytes (spec st.spec 31) ∧
      shows bytes [(43, 5, st.next), (48, 1, st.reclaim.length)] ∧
      ∀ i v, st.reclaim[i]? = some v → shows bytes [(49 + 4 * i, 4, v)])) ∧
  (∀ f : Floor,
    let bytes := f.queueSummary
    let rest := 1 + 3 * f.jobs.length
    let last := rest + 1 + 2 * f.waiting.length
    bytes.length = last + 1 ∧
    shows bytes [(0, 1, f.jobs.length), (rest, 1, f.waiting.length), (last, 1, flag f.lineHeld)] ∧
    (∀ i j, f.jobs[i]? = some j →
      shows bytes [(1 + 3 * i, 1, j.id), (2 + 3 * i, 1, j.state.code.toNat), (3 + 3 * i, 1, j.inFlight)]) ∧
    ∀ i c, f.waiting[i]? = some c →
      shows bytes [(rest + 1 + 2 * i, 1, c.val), (rest + 2 + 2 * i, 1, flag (f.chan c).frozen)]) ∧
  (∀ (b : Base) (f : Floor) (c : Chan), (f.chan c).intervals.length ≤ 4 →
    let x := f.chan c
    let bytes := driveReport b f c
    shows bytes [(0, 1, c.val), (1, 1, x.state.code.toNat), (2, 1, (phaseCode x.phase).toNat),
      (4, 1, (faultCode x.fault).toNat), (5, 1, x.failCount), (6, 1, x.bin.code.toNat), (8, 1, x.settings.stepPeriod),
      (9, 1, x.settings.settleTime), (10, 1, x.settings.heads), (11, 1, x.settings.cylinderLimit),
      (12, 1, x.settings.spinupUnits), (13, 1, x.settings.failStreakLimit), (14, 1, part x.cylinder),
      (16, 1, x.intervals.length), (17, 4, part (x.intervals[0]?.map BitVec.toNat)),
      (21, 4, part (x.intervals[1]?.map BitVec.toNat)), (25, 4, part (x.intervals[2]?.map BitVec.toNat)),
      (29, 4, part (x.intervals[3]?.map BitVec.toNat)),
      (33, 4, if x.intervals.length = 4 then (x.intervals.map BitVec.toNat).sum / 4 else 0)] ∧
    bits (num bytes 3 1) [x.resuming, x.frozen, x.removed, x.disk.isSome,
      decide (x.state = .fault ∧ x.fault ≠ none), x.atSpeed b, decide (c ∈ f.ring.waiters), x.cylinder.isNone] ∧
    bits (num bytes 7 1) [(f.drive c).seated, b.wprot.getLsbD c.val, b.trk0.getLsbD c.val, x.motor, x.side, x.wgate,
      (f.drive c).release] ∧
    (c ∉ f.waiting → num bytes 15 1 = 0) ∧
    (∀ front back, f.waiting = front ++ c :: back → c ∉ front → shows bytes [(15, 1, front.length + 1)]) ∧
    (x.disk = none → bytes.length = 37) ∧
    (∀ k, x.disk = some k → bytes.length = 75 ∧ disk bytes 39 k.serial.isSome k.verified k.capture ∧
      shows bytes ([(37, 1, k.jobId), (38, 1, k.slot.val), (40, 1, k.window.code.toNat), (41, 1, k.retryLimit),
        (42, 4, part (k.serial.map Prod.fst)), (46, 1, k.cylinder), (47, 1, k.head), (48, 1, k.retries),
        (49, 2, k.totalRetries), (51, 1, k.softCount), (52, 1, k.tracksWritten), (53, 2, k.elapsed),
        (71, 4, k.startTime.toNat)] ++ captured k.capture 55) ∧
      (k.serial = none → shows bytes [(59, 4, 0), (63, 4, 0), (67, 4, 0)]) ∧
      ∀ v sp, k.serial = some (v, sp) → shows bytes (spec sp 59))) ∧
  (∀ r : ResultRecord, r.bytes.length = 22 ∧
    disk r.bytes 7 r.body.serial.isSome r.body.verified r.body.capture ∧
    shows r.bytes ([(0, 4, r.sequence.toNat), (4, 1, r.body.jobId), (5, 1, r.body.drive.val),
      (6, 1, r.body.outcome.code.toNat), (8, 4, part r.body.serial), (16, 1, r.body.softCount),
      (17, 2, r.body.totalRetries), (19, 1, r.body.tracksWritten), (20, 2, r.elapsed)] ++ captured r.body.capture 12)) ∧
  (∀ f : Floor,
    let bytes := f.ringReport
    bytes.length = 25 + f.ring.waiters.length ∧
    shows bytes [(0, 1, f.ring.records.length), (1, 4, ((f.ring.records.head?.map ResultRecord.sequence).getD
        f.ring.writePos).toNat), (5, 4, if f.ring.records = [] then 0 else (f.ring.writePos - 1).toNat),
      (9, 4, f.ring.writePos.toNat), (13, 4, f.portA.resultCursor.toNat), (17, 4, f.portB.resultCursor.toNat),
      (22, 2, f.ring.dropped), (24, 1, f.ring.waiters.length)] ∧
    bits (num bytes 21 1) [!f.ring.records.isEmpty, f.portA.follow, f.portB.follow] ∧
    ∀ i c, f.ring.waiters[i]? = some c → shows bytes [(25 + i, 1, c.val)]) ∧
  (∀ f : Floor,
    let pulls := f.portA.lineHold || f.portB.lineHold || f.line.internal
    bits f.lineFlags.toNat [pulls || f.line.handler, f.portA.lineHold, f.portB.lineHold, f.line.internal, !pulls,
      !pulls && f.line.handler]) ∧
  (∀ d : DriveLines, bits d.flags.toNat [d.seated, d.debounce.isSome, d.release, d.bin0, d.bin1]) ∧
  (∀ (bytes : List Byte) (i n : Nat), num bytes i 0 = 0 ∧
    (i + n < bytes.length → num bytes i (n + 1) = 256 * num bytes i n + (bytes.getD (i + n) 0).toNat)) ∧
  (∀ n v : Nat, (be n v).length = n ∧ num (be n v) 0 n = v % 256 ^ n ∧ (byte v).toNat = v % 256)

/-! Jobs and serial numbers (chapters 4 and 5). -/

/-- DEFINE JOB refuses in R66's order: a value check, a full queue, a known id, a FREE slot, the placement of its
serial; otherwise it puts the record at the back of the queue and refers to its slot (R66, R67). -/
def Obligations.DefineJobJoinsTheQueue : Prop :=
  (∀ (p : PortId) (payload : List Byte) (s : State), s.ready p →
    Request.defineJob.admits payload.length = true → readJobDefinition p payload = none →
    exec (.defineJob p payload) s = .next (s.refuse p .badValue)) ∧
  (∀ (p : PortId) (payload : List Byte) (j : Job) (s : State), s.ready p →
     Request.defineJob.admits payload.length = true → readJobDefinition p payload = some j →
     (8 ≤ s.floor.jobs.length → exec (.defineJob p payload) s = .next (s.refuse p .queueFull)) ∧
     (s.floor.jobs.length < 8 → (s.floor.job j.id).isSome = true →
       exec (.defineJob p payload) s = .next (s.refuse p .jobExists)) ∧
     (s.floor.jobs.length < 8 → s.floor.job j.id = none → (s.base.image j.slot).state = .free →
       exec (.defineJob p payload) s = .next (s.refuse p .noImage)) ∧
     (s.floor.jobs.length < 8 → s.floor.job j.id = none → (s.base.image j.slot).state ≠ .free →
       (∀ st, j.serial = some st → s.base.serialCheck (s.base.image j.slot) st.spec = none) →
       exec (.defineJob p payload) s =
         .next ({ s with
           base := s.base.setImage j.slot { s.base.image j.slot with
             refCount := (s.base.image j.slot).refCount + 1 },
           floor := { s.floor with jobs := s.floor.jobs ++ [j] } }.reply p
           [byte j.id, byte (s.floor.jobs.length + 1)])) ∧
     (∀ st e, s.floor.jobs.length < 8 → s.floor.job j.id = none → (s.base.image j.slot).state ≠ .free →
       j.serial = some st → s.base.serialCheck (s.base.image j.slot) st.spec = some e →
       exec (.defineJob p payload) s = .next (s.refuse p e))) ∧
  (∀ (b : Base) (im : ImageSlot) (sp : SerialSpec),
    ((∀ f start len, im.entry sp.cylinder sp.head ≠ some (.data f start len)) →
      b.serialCheck im sp = some .serialPlace) ∧
    (∀ f start len d, im.entry sp.cylinder sp.head = some (.data f start len) → b.format f = some d →
      ((d.sectors ≤ sp.index ∨ d.sectorSize < sp.offset + sp.encoding.length) →
        b.serialCheck im sp = some .serialPlace) ∧
      (sp.index < d.sectors → sp.offset + sp.encoding.length ≤ d.sectorSize →
        b.serialCheck im sp = if sp.encoding.maximum < sp.start then some .badValue else none)))

/-- START JOB brings a QUEUED job with a READY image to RUNNING and an evaluation follows; STOP JOB ends a RUNNING
job with nothing in flight and drains one that has; REMOVE JOB takes a job that is not under way out of the queue;
CANCEL JOB ends a RUNNING or DRAINING one at once and aborts with CANCELLED every disk of it in SPINUP, RECAL,
PRODUCING or PAUSED, leaving those in POSTING (R25, R69 to R73). Each is refused first with BAD_VALUE for job id 0
and with NO_JOB for an id that names no job in the queue (R68). The order of the notices is the model's free value
(entry 14). -/
def Obligations.JobRequestsMoveTheJob : Prop :=
  (∀ (p : PortId) (j : Job) (s : State), s.ready p → s.floor.job j.id = some j → 1 ≤ j.id → j.id ≤ 255 →
     (j.state = .queued → (s.base.image j.slot).state = .ready →
       exec (.startJob p [byte j.id]) s =
         .next ({ s with floor := { s.floor.putJob { j with state := .running } with evalDue := true } }.reply p
           []).settle) ∧
     (j.state = .queued → (s.base.image j.slot).state ≠ .ready →
       exec (.startJob p [byte j.id]) s = .next (s.refuse p .imageNotReady)) ∧
     (j.state ≠ .queued → exec (.startJob p [byte j.id]) s = .next (s.refuse p .wrongJobState)) ∧
     (j.state = .running → j.inFlight = 0 →
       exec (.stopJob p [byte j.id]) s =
         .next ({ s with
           floor := (s.floor.putJob { j with state := .done, endCause := some .stopped }).post .jobEnded }.reply p
             [3])) ∧
     (j.state = .running → 0 < j.inFlight →
       exec (.stopJob p [byte j.id]) s =
         .next ({ s with floor := s.floor.putJob { j with state := .draining } }.reply p [2])) ∧
     (j.state ≠ .running → exec (.stopJob p [byte j.id]) s = .next (s.refuse p .wrongJobState)) ∧
     ((j.state = .queued ∨ j.state = .done ∨ j.state = .cancelled) → j.inFlight = 0 →
       exec (.removeJob p [byte j.id]) s =
         .next ({ s with
           base := s.base.setImage j.slot { s.base.image j.slot with
             refCount := (s.base.image j.slot).refCount - 1 },
           floor := { s.floor with jobs := s.floor.jobs.filter fun k => k.id != j.id } }.reply p [])) ∧
     (j.state = .cancelled → 0 < j.inFlight →
       exec (.removeJob p [byte j.id]) s = .next (s.refuse p .jobBusy)) ∧
     ((j.state = .running ∨ j.state = .draining) →
       exec (.removeJob p [byte j.id]) s = .next (s.refuse p .wrongJobState)) ∧
     ((j.state = .running ∨ j.state = .draining) → (∀ c, (s.floor.chan c).holdsFor j.id = false) →
       exec (.cancelJob p [byte j.id]) s =
         .next ({ s with floor := {
           (s.floor.putJob { j with state := .cancelled, endCause := some .cancelled }).post .jobEnded with
           freeDraws := s.floor.freeDraws + 1 } }.reply p [byte j.inFlight]).settle) ∧
     ((j.state = .queued ∨ j.state = .done ∨ j.state = .cancelled) →
       exec (.cancelJob p [byte j.id]) s = .next (s.refuse p .wrongJobState)) ∧
    ((j.state = .running ∨ j.state = .draining) →
      exec (.cancelJob p [byte j.id]) s =
        let ended := (s.floor.putJob { j with state := .cancelled, endCause := some .cancelled }).post .jobEnded
        .next ({ s with floor := ended.cancelNotices j.id }.reply p [byte j.inFlight]).settle)) ∧
  (∀ (f : Floor) (id : Nat),
    let t := f.cancelNotices id
    let mine (c : Chan) : Bool := (f.chan c).holdsFor id &&
      decide ((f.chan c).state ∈ [.spinup, .recal, .producing, .paused])
    (∀ c, mine c = true → t.chan c = (f.abortDisk c .cancelled).chan c) ∧
    (∀ c, mine c = false → t.chan c = f.chan c) ∧
    (∃ order : List Chan, order.Perm (allChannels.filter mine) ∧ t.offers = f.offers ++ order) ∧
    t.engine.queue = f.engine.queue.filter (fun r => !mine r.channel) ∧
    t.engine.building = f.engine.building.map (fun w =>
      if mine w.request.channel then { w with discarded := true } else w) ∧
    t.jobs = f.jobs ∧ t.ring = f.ring ∧ t.waiting = f.waiting ∧ t.drives = f.drives ∧ t.line = f.line ∧
    t.portA = f.portA ∧ t.portB = f.portB ∧ t.freeDraws = f.freeDraws + 1) ∧
  (∀ (p : PortId) (s : State), s.ready p →
    let sends (id : Byte) : List (Host.Outcome State Fault Refusal) :=
      [exec (.startJob p [id]) s, exec (.stopJob p [id]) s, exec (.cancelJob p [id]) s, exec (.removeJob p [id]) s]
    (∀ r ∈ sends 0, r = .next (s.refuse p .badValue)) ∧
    ∀ id : Byte, id ≠ 0 → (∀ j ∈ s.floor.jobs, j.id ≠ id.toNat) → ∀ r ∈ sends id, r = .next (s.refuse p .noJob)) ∧
  (∀ (f : Floor) (id : Nat),
    (f.job id = none ↔ ∀ q ∈ f.jobs, q.id ≠ id) ∧ (∀ j, f.job id = some j → j ∈ f.jobs ∧ j.id = id) ∧
    (∀ j, f.putJob j = { f with jobs := f.jobs.map fun q => if q.id = j.id then j else q }) ∧
    ∀ c, (f.chan c).holdsFor id = true ↔
      (f.chan c).state ∈ [.spinup, .recal, .producing, .paused, .posting] ∧
        ∃ k, (f.chan c).disk = some k ∧ k.jobId = id)

/-- Issuing a disk raises issued and in flight by one; accounting a posted disk lowers in flight by one and raises
exactly one of passed, failed and aborted, so that issued stays their sum, and an issuable job with a target stays
within it (R65, R75, R80, R83). A RUNNING or DRAINING job whose accounting leaves none in flight then ends by the
first of TARGET_MET, SERIALS_EXHAUSTED and, when DRAINING, STOPPED that holds; with disks in flight it does not end
(R84). -/
def Obligations.JobCountsAddUp : Prop :=
  (∀ (j : Job) (outcome : DiskOutcome) (number : Option Nat),
    j.afterIssue = { j with
      issued := j.issued + 1, inFlight := j.inFlight + 1, serial := j.serial.map fun st => st.draw.2 } ∧
    j.account outcome number = { j with
      inFlight := j.inFlight - 1
      passed := j.passed + (if outcome = .pass ∨ outcome = .passSoft then 1 else 0)
      failed := j.failed + (if outcome = .fail then 1 else 0)
      aborted := j.aborted + (if outcome = .aborted then 1 else 0)
      serial := j.serial.map fun st => st.settle outcome number } ∧
    (j.issuable = true ↔
      j.state = .running ∧ (j.target = 0 ∨ j.passed + j.inFlight < j.target) ∧ j.issued < 4294967295 ∧
        ∀ st, j.serial = some st → st.reclaim ≠ [] ∨ st.next ≤ st.spec.encoding.maximum) ∧
    (j.countLaw → j.afterIssue.countLaw ∧ (1 ≤ j.inFlight → (j.account outcome number).countLaw)) ∧
    (j.targetLaw → (j.issuable = true → j.afterIssue.targetLaw) ∧
      (1 ≤ j.inFlight → (j.account outcome number).targetLaw))) ∧
  (∀ j : Job, (j.state = .running ∨ j.state = .draining) →
     (0 < j.inFlight → j.afterEndTest = j) ∧
     (j.inFlight = 0 → j.target ≠ 0 → j.passed = j.target →
       j.afterEndTest = { j with state := .done, endCause := some .targetMet }) ∧
     (j.inFlight = 0 → (j.target = 0 ∨ j.passed ≠ j.target) →
       (∀ st, j.serial = some st → st.reclaim = [] → st.spec.encoding.maximum < st.next →
         j.afterEndTest = { j with state := .done, endCause := some .serialsExhausted }) ∧
       ((∀ st, j.serial = some st → st.reclaim ≠ [] ∨ st.next ≤ st.spec.encoding.maximum) →
         (j.state = .draining → j.afterEndTest = { j with state := .done, endCause := some .stopped }) ∧
         (j.state = .running → j.afterEndTest = j))))

/-- A serialised job issues the smallest reclaimed number, or the next one, which then rises by the step; it never
issues a number above the maximum; and a returned number enters the reclaim list in ascending order (R88 to R90).
-/
def Obligations.SerialsAreIssuedAndReturned : Prop :=
  ∀ st : SerialState,
    (∀ r rest, st.reclaim = r :: rest → st.draw = (r, { st with reclaim := rest })) ∧
    (st.reclaim = [] → st.draw = (st.next, { st with next := st.next + st.spec.step })) ∧
    (∀ j : Job, j.serial = some st → j.issuable = true → (∀ v ∈ st.reclaim, v ≤ st.spec.encoding.maximum) →
      st.draw.1 ≤ st.spec.encoding.maximum) ∧
    (∀ v, st.reclaim.Pairwise (· < ·) → v ∉ st.reclaim →
      (st.settle .fail (some v)).reclaim.Pairwise (· < ·) ∧
      (st.settle .fail (some v)).reclaim.Perm (v :: st.reclaim) ∧
      st.settle .aborted (some v) = st.settle .fail (some v) ∧
      st.settle .pass (some v) = st ∧ st.settle .passSoft (some v) = st)

/-- An ASCII serial is its w decimal digits, most significant first, and a BINARY one its four bytes (R95). -/
def Obligations.SerialsAreWrittenInFull : Prop :=
  (∀ w v, v < 10 ^ w → (SerialEncoding.ascii w).bytes v = asciiDigits w v ∧ (asciiDigits w v).length = w ∧
    (asciiDigits w v).foldl (fun n b => n * 10 + (b.toNat - 0x30)) 0 = v ∧
    ∀ b ∈ asciiDigits w v, 0x30 ≤ b.toNat ∧ b.toNat ≤ 0x39) ∧
  (∀ v, v < 4294967296 →
    (SerialEncoding.binary.bytes v).length = 4 ∧ num (SerialEncoding.binary.bytes v) 0 4 = v)

/-! Assignment and what a step makes due (R76 to R81, R109, R155 to R159, R169, R170). -/

/-- An evaluation of assignment is one pass through the waiting list, oldest first: a channel that is frozen, or
that finds LINE HOLD held, is passed over; the first job in queue order that takes it issues it a disk, and it
enters SPINUP, or POSTING with FAIL and WRITE_PROTECTED when WPROT is active (R77, R78, R80, R109). The disk issued
starts with no retries used, no total of retries, no soft event, an empty capture record, no track written and no
time elapsed, at the first track of the image (R109, R149). A job takes a channel when it is issuable, its drive
set includes the drive, the image has no more heads than the drive, and the image's cylinders times the largest
step multiplier its formats name are not above the drive's cylinder limit (R75, R77). After the pass no eligible
channel waits that a job takes. Every n-th disk issued is verified (R81). -/
def Obligations.AnEvaluationIssuesDisks : Prop :=
  (∀ (b : Base) (f : Floor),
    f.evaluate b = f.waiting.foldl (Floor.consider b) { f with evalDue := false } ∧
    (f.lineHeld = true → f.evaluate b = { f with evalDue := false }) ∧
    ((f.jobs.map (·.id)).Nodup →
      let t := f.evaluate b
      t.lineHeld = false → ∀ c ∈ t.waiting, (t.chan c).frozen = false →
        ∀ j ∈ t.jobs, Job.takes b (t.chan c).settings c j = false)) ∧
  (∀ (b : Base) (f : Floor) (c : Chan),
    (((f.chan c).frozen = true ∨ f.lineHeld = true ∨
      ∀ j ∈ f.jobs, Job.takes b (f.chan c).settings c j = false) → Floor.consider b f c = f) ∧
    (∀ front j back, (f.chan c).frozen = false → f.lineHeld = false → f.jobs = front ++ j :: back →
      (∀ q ∈ front, Job.takes b (f.chan c).settings c q = false) → Job.takes b (f.chan c).settings c j = true →
      let t := Floor.consider b f c
      let k := newDisk b j
      t.jobs = f.jobs.map (fun q => if q.id = j.id then j.afterIssue else q) ∧
      t.waiting = f.waiting.filter (fun d => decide (d ≠ c)) ∧
      (∀ d, d ≠ c → t.chan d = f.chan d) ∧ t.ring = f.ring ∧ t.portA = f.portA ∧ t.portB = f.portB ∧
      t.engine = f.engine ∧ t.drives = f.drives ∧ t.line = f.line ∧ t.evalDue = f.evalDue ∧
      (b.wprot.getLsbD c.val = false → t.offers = f.offers ∧ t.chan c = { f.chan c with
        state := .spinup, phase := none, resuming := false, removed := false, motor := true, lastStamp := none,
        intervals := [], spinupTimer := some ((f.chan c).settings.spinupUnits * 10000), disk := some k }) ∧
      (b.wprot.getLsbD c.val = true → t.offers = f.offers ++ [c] ∧
        let capture := k.capture.take ⟨true, .writeProtected, k.cylinder, k.head, none⟩
        t.chan c = { f.chan c with
          state := .posting, phase := none, resuming := false, removed := false, motor := false, side := false
          wgate := false, wdata := none, stepTimer := none, settleTimer := none, spinupTimer := none
          watchdog := none, seekTarget := none, recalSteps := 0, attempt := Attempt.none, buffer := [], fetch := []
          disk := some { k with capture := capture }
          record := some {
            jobId := j.id, drive := c, outcome := .fail, serial := k.serial.map Prod.fst, verified := k.verified
            capture := capture, softCount := 0, totalRetries := 0, tracksWritten := 0 } }))) ∧
  (∀ (b : Base) (j : Job),
    ((newDisk b j).verified = true ↔
      (j.verifyEvery ≠ 0 ∧ (j.afterIssue.issued - 1) % j.verifyEvery = 0)) ∧
    (newDisk b j).serial = j.serial.map (fun st => (st.draw.1, st.spec)) ∧ (newDisk b j).startTime = b.timebase ∧
    (newDisk b j).jobId = j.id ∧ (newDisk b j).slot = j.slot ∧ (newDisk b j).window = j.window ∧
    (newDisk b j).retryLimit = j.retryLimit ∧ (newDisk b j).cylinder = 0 ∧ (newDisk b j).head = 0 ∧
    (newDisk b j).retries = 0 ∧ (newDisk b j).totalRetries = 0 ∧ (newDisk b j).softCount = 0 ∧
    (newDisk b j).capture = { held := none, second := false } ∧ (newDisk b j).tracksWritten = 0 ∧
    (newDisk b j).elapsed = 0 ∧ (newDisk b j).elapsedRest = 0) ∧
  (∀ (b : Base) (x : Settings) (c : Chan) (j : Job),
    let im := b.image j.slot
    Job.takes b x c j = true ↔
      (j.state = .running ∧ (j.target = 0 ∨ j.passed + j.inFlight < j.target) ∧ j.issued < 4294967295 ∧
        ∀ st, j.serial = some st → st.reclaim ≠ [] ∨ st.next ≤ st.spec.encoding.maximum) ∧
      j.drives.getLsbD c.val = true ∧
      ∃ o, im.opening = some o ∧ o.heads ≤ x.heads ∧ o.cylinders * b.maxMultiplier im ≤ x.cylinderLimit)

/-- What a step carries out as due before it ends. The line: the internal contribution follows the waiter list
(R158), a level that differs from the recorded one is taken as one change with LINE_CHANGED, and a line that comes
free makes an evaluation due (R169, R170). An evaluation due is carried out, a record to be offered is offered, and
an evaluation follows a record taken (R79, R152). Where nothing is due nothing changes, and after it nothing is
left due. That order is the model's reading (entry 21, DEDUCED). An event posted joins the event sets of both
ports, each kind once (R180). -/
def Obligations.SettlingTakesWhatIsDue : Prop :=
  (∀ s : State, s.quiet → s.settle = s) ∧
  (∀ f : Floor,
    let waits := !f.ring.waiters.isEmpty
    let held := f.portA.lineHold || f.portB.lineHold || waits || f.line.handler
    (held = f.line.recorded → f.updateLine = { f with line := { f.line with internal := waits } }) ∧
    (held ≠ f.line.recorded → f.updateLine = { f with
      line := { f.line with internal := waits, recorded := held }
      evalDue := f.evalDue || !held
      portA := { f.portA with events := addEvent f.portA.events .lineChanged }
      portB := { f.portB with events := addEvent f.portB.events .lineChanged } })) ∧
  (∀ (b : Base) (f : Floor),
    (f.offers = [] → f.updateLine.evalDue = false → f.settle b = f.updateLine) ∧
    (f.offers = [] → f.updateLine.evalDue = true → (f.updateLine.evaluate b).offers = [] →
      f.settle b = f.updateLine.evaluate b) ∧
    (∀ c, f.offers = [c] → f.updateLine.evalDue = false →
      let g := { f.updateLine with offers := [] }.offer c
      (g.evalDue = false → f.settle b = g.updateLine) ∧
      (g.evalDue = true → (g.updateLine.evaluate b).offers = [] → f.settle b = g.updateLine.evaluate b))) ∧
  (∀ (s : State), s.JobLaw → s.floor.offers.length ≤ 8 → s.settle.quiet) ∧
  (∀ (f : Floor) (e : EventKind), f.post e = { f with
    portA := { f.portA with events := addEvent f.portA.events e }
    portB := { f.portB with events := addEvent f.portB.events e } }) ∧
  (∀ (set : List EventKind) (e : EventKind),
    (∀ k, k ∈ addEvent set e ↔ k = e ∨ k ∈ set) ∧ (addEvent set e).Nodup)

/-- What follows a change of cursor or follow flag. Freeing: with a follower the oldest records go while every
follower is past them, and a non-following cursor among them moves up to the new oldest number (R155, R156).
Serving: the waiters offer in list order; with a follower as many are taken as the ring has room for and the rest
go on waiting (R157), with none all are taken and the oldest records are displaced for them (R154, R159). Sequence
numbers run on from the write position (R150). -/
def Obligations.FreeingServesTheWaiters : Prop :=
  (∀ f : Floor,
    f.serveRing = Floor.serveList f.freeRecords.ring.waiters f.freeRecords ∧
    ((f.portA.follow = false ∧ f.portB.follow = false) → f.freeRecords = f) ∧
    ((f.portA.follow = true ∨ f.portB.follow = true) → f.cursorLaw = true →
      ∃ gone kept, f.ring.records = gone ++ kept ∧
        (∀ r ∈ gone, (f.portA.follow = true → f.portA.resultCursor ≠ r.sequence) ∧
          (f.portB.follow = true → f.portB.resultCursor ≠ r.sequence)) ∧
        (∀ r rest, kept = r :: rest → (f.portA.follow = true ∧ f.portA.resultCursor = r.sequence) ∨
          (f.portB.follow = true ∧ f.portB.resultCursor = r.sequence)) ∧
        let oldest : Word32 := ((kept.head?).map ResultRecord.sequence).getD f.ring.writePos
        let moved (x : PortContext) : PortContext :=
          if !x.follow && gone.any fun r => decide (r.sequence = x.resultCursor) then
            { x with resultCursor := oldest }
          else x
        f.freeRecords = { f with
          ring := { f.ring with records := kept }, portA := moved f.portA, portB := moved f.portB })) ∧
  (∀ (f : Floor) (waiters : List Chan) (bodies : Chan → RecordBody), f.ring.records.length ≤ 64 →
    f.ring.dropped ≤ 65535 → f.ring.waiters = waiters → waiters.Nodup →
    (∀ c ∈ waiters, (f.chan c).record = some (bodies c)) →
    let t := Floor.serveList waiters f
    let taken (n : Nat) : List ResultRecord := (waiters.take n).mapIdx fun i c =>
      { sequence := f.ring.writePos + BitVec.ofNat 32 i, body := bodies c
        elapsed := ((f.chan c).disk.map Disk.elapsed).getD 0 }
    ((f.portA.follow = true ∨ f.portB.follow = true) →
      let n := min waiters.length (64 - f.ring.records.length)
      t.ring = { f.ring with
        records := f.ring.records ++ taken n, writePos := f.ring.writePos + BitVec.ofNat 32 n,
        waiters := waiters.drop n } ∧
      (∀ c, c ∉ waiters.take n → t.chan c = f.chan c) ∧
      (∀ c ∈ waiters.take n, (t.chan c).disk = none ∧ (t.chan c).record = none) ∧
      (0 < n → t.evalDue = true ∧ EventKind.resultsWaiting ∈ t.portA.events ∧
        EventKind.resultsWaiting ∈ t.portB.events)) ∧
    ((f.portA.follow = false ∧ f.portB.follow = false) →
      let all := f.ring.records ++ taken waiters.length
      t.ring = { f.ring with
        records := all.drop (all.length - 64), writePos := f.ring.writePos + BitVec.ofNat 32 waiters.length,
        waiters := [], dropped := min 65535 (f.ring.dropped + (all.length - 64)) } ∧
      (∀ c ∈ waiters, (t.chan c).disk = none ∧ (t.chan c).record = none) ∧
      (64 < all.length → EventKind.resultsDropped ∈ t.portA.events ∧ EventKind.resultsDropped ∈ t.portB.events)))

/-! Drives (chapter 6). -/

/-- SET DRIVE in DISABLED, EMPTY, LOADED and FAULT clamps each given setting into its range and leaves the others;
from LOADED an evaluation follows; in the other states it is refused (R79, R100). A channel number above 7, and
given flags with a bit set that no setting has, are refused with BAD_VALUE, the latter before the state is tested
(R100, R187). -/
def Obligations.DriveSettingsAreClamped : Prop :=
  (∀ (p : PortId) (c : Chan) (flags v0 v1 v2 v3 v4 v5 : Byte) (s : State), s.ready p → flags.toNat ≤ 63 →
     let old := (s.floor.chan c).settings
     let pick (i low high : Nat) (v : Byte) (o : Nat) := if flags.getLsbD i then max low (min high v.toNat) else o
     let new : Settings :=
       { stepPeriod := pick 0 1 32 v0 old.stepPeriod, settleTime := pick 1 0 63 v1 old.settleTime,
         heads := pick 2 1 2 v2 old.heads, cylinderLimit := pick 3 40 84 v3 old.cylinderLimit,
         spinupUnits := pick 4 20 255 v4 old.spinupUnits,
         failStreakLimit := pick 5 0 15 v5 old.failStreakLimit }
     let t := { s with floor := s.floor.setChan c { s.floor.chan c with settings := new } }.reply p
       [byte new.stepPeriod, byte new.settleTime, byte new.heads, byte new.cylinderLimit, byte new.spinupUnits,
        byte new.failStreakLimit]
     (((s.floor.chan c).state = .disabled ∨ (s.floor.chan c).state = .empty ∨ (s.floor.chan c).state = .fault) →
       exec (.setDrive p [byte c.val, flags, v0, v1, v2, v3, v4, v5]) s = .next t) ∧
     ((s.floor.chan c).state = .loaded →
       exec (.setDrive p [byte c.val, flags, v0, v1, v2, v3, v4, v5]) s =
         .next { t with floor := { t.floor with evalDue := true } }.settle) ∧
     ((s.floor.chan c).state ∈
         [.spinup, .recal, .producing, .paused, .posting, .unloading] →
       exec (.setDrive p [byte c.val, flags, v0, v1, v2, v3, v4, v5]) s = .next (s.refuse p .driveBusy))) ∧
  (∀ (p : PortId) (v flags : Byte) (values : List Byte) (s : State), s.ready p → values.length = 6 →
    (7 < v.toNat ∨ 63 < flags.toNat) →
    exec (.setDrive p (v :: flags :: values)) s = .next (s.refuse p .badValue))

/-- ENABLE, DISABLE, FREEZE, RESUME and RESET DRIVE move a channel by its state, and are refused where their rules
refuse them, a channel number above 7 with BAD_VALUE first (R107, R113, R114, R121, R187). RESET DRIVE aborts a
disk in production with DRIVE_RESET and offers its record, and takes a channel in FAULT to EMPTY or LOADED. A reply
shows the state before the evaluation that the request starts (entry 19, DEDUCED); DISABLE DRIVE from EMPTY and
LOADED leaves the fail count (entry 31, DEDUCED). -/
def Obligations.DriveRequestsMoveTheChannel : Prop :=
  (∀ (p : PortId) (c : Chan) (s : State), s.ready p →
     let x := s.floor.chan c
     (x.state = .disabled → (s.floor.drive c).seated = false →
       exec (.enableDrive p [byte c.val]) s =
         .next ({ s with floor := s.floor.setChan c { x with state := .empty } }.reply p [1])) ∧
     (x.state = .disabled → (s.floor.drive c).seated = true →
       exec (.enableDrive p [byte c.val]) s =
         .next ({ s with floor := { s.floor.setChan c { x with state := .loaded } with
           waiting := s.floor.waiting ++ [c], evalDue := true } }.reply p [2]).settle) ∧
     (x.state ≠ .disabled → exec (.enableDrive p [byte c.val]) s = .next (s.refuse p .wrongState)) ∧
     ((x.state = .empty ∨ x.state = .loaded) → exec (.disableDrive p [byte c.val]) s =
       .next ({ s with floor := { s.floor.setChan c { x with state := .disabled } with
         waiting := s.floor.waiting.filter fun d => decide (d ≠ c) } }.reply p [])) ∧
     (x.state = .fault → exec (.disableDrive p [byte c.val]) s =
       .next ({ s with floor := { s.floor.setChan c { x with state := .disabled, fault := none, failCount := 0 } with
         waiting := s.floor.waiting.filter fun d => decide (d ≠ c) } }.reply p [])) ∧
     (x.state ∈ [.disabled, .spinup, .recal, .producing, .paused, .posting, .unloading] →
       exec (.disableDrive p [byte c.val]) s = .next (s.refuse p .driveBusy)) ∧
     exec (.freezeDrive p [byte c.val]) s =
       .next ({ s with floor := s.floor.setChan c { x with frozen := true } }.reply p [x.state.code]) ∧
     (x.state = .paused → exec (.resumeDrive p [byte c.val]) s =
       .next ({ s with floor := s.floor.setChan c { x with
         state := .spinup, phase := none, resuming := true, frozen := false, motor := true, lastStamp := none,
         intervals := [], spinupTimer := some (x.settings.spinupUnits * 10000) } }.reply p [3])) ∧
     (x.state = .loaded → exec (.resumeDrive p [byte c.val]) s =
       .next ({ s with floor := { s.floor.setChan c { x with frozen := false } with evalDue := true } }.reply p
         [2]).settle) ∧
     (x.state ≠ .paused → x.state ≠ .loaded → exec (.resumeDrive p [byte c.val]) s =
       .next ({ s with floor := s.floor.setChan c { x with frozen := false } }.reply p [x.state.code])) ∧
     (x.state = .disabled → exec (.resetDrive p [byte c.val]) s = .next (s.refuse p .wrongState)) ∧
     (x.state ∈ [.empty, .loaded, .posting, .unloading] → exec (.resetDrive p [byte c.val]) s =
       .next ({ s with floor := s.floor.setChan c { x with failCount := 0, fault := none } }.reply p
         [x.state.code]).settle) ∧
     (x.state = .fault → (s.floor.drive c).seated = false → exec (.resetDrive p [byte c.val]) s =
       .next ({ s with floor := s.floor.setChan c { x with state := .empty, failCount := 0, fault := none } }.reply p
         [1]).settle) ∧
     (x.state = .fault → (s.floor.drive c).seated = true → exec (.resetDrive p [byte c.val]) s =
       .next ({ s with floor := { s.floor.setChan c { x with state := .loaded, failCount := 0, fault := none } with
         waiting := s.floor.waiting ++ [c], evalDue := true } }.reply p [2]).settle) ∧
     (x.state ∈ [.spinup, .recal, .producing, .paused] →
       let t := { s.floor.abortDisk c .driveReset with offers := s.floor.offers }.offer c
       exec (.resetDrive p [byte c.val]) s =
         .next ({ s with floor := t.setChan c { t.chan c with failCount := 0, fault := none } }.reply p
           [(t.chan c).state.code]).settle)) ∧
  (∀ (p : PortId) (v : Byte) (s : State), s.ready p → 7 < v.toNat →
    ∀ r ∈ [exec (.enableDrive p [v]) s, exec (.disableDrive p [v]) s, exec (.freezeDrive p [v]) s,
        exec (.resumeDrive p [v]) s, exec (.resetDrive p [v]) s],
      r = .next (s.refuse p .badValue))

/-- An abort of a disk, in one step: a hard event at its current track, a drive fault left pending by its cause,
the Layout Engine's work withdrawn, and the channel in POSTING with outcome ABORTED, its motor, side and write
outputs inactive, its buffer gone and every timer stopped but one, its record to be offered; a channel with no disk
to abort is left alone (R25, R115, R117). A STEP pulse already begun goes on to its end (entry 8, DEDUCED). -/
def Obligations.AnAbortPostsTheDisk : Prop :=
  (∀ (f : Floor) (c : Chan) (cause : Cause) (k : Disk), (f.chan c).disk = some k →
     let x := f.chan c
     let t := f.abortDisk c cause
     (x.state ∈ [.spinup, .recal, .producing, .paused] →
       t.chan c = { x with
         state := .posting, phase := none, resuming := false, motor := false, side := false, wgate := false,
         wdata := none, stepTimer := none, settleTimer := none, spinupTimer := none, watchdog := none,
         seekTarget := none, recalSteps := 0, attempt := Attempt.none, buffer := [], fetch := [],
         fault := if cause = .speed then some .speed else if cause = .noIndex then some .noIndex
           else if cause = .noTrack0 then some .noTrack0 else x.fault,
         removed := x.removed || decide (cause = .diskPulled),
         disk := some { k with capture := k.capture.take ⟨true, cause, k.cylinder, k.head, none⟩ },
         record := some {
           jobId := k.jobId, drive := c, outcome := .aborted, serial := k.serial.map Prod.fst,
           verified := k.verified, capture := k.capture.take ⟨true, cause, k.cylinder, k.head, none⟩,
           softCount := k.softCount, totalRetries := k.totalRetries, tracksWritten := k.tracksWritten } } ∧
       t.engine = f.engine.withdraw c ∧ t.offers = f.offers ++ [c] ∧ (∀ d, d ≠ c → t.chan d = f.chan d) ∧
       t.ring = f.ring ∧ t.jobs = f.jobs ∧ t.waiting = f.waiting ∧ t.portA = f.portA ∧ t.portB = f.portB ∧
       t.drives = f.drives ∧ t.line = f.line) ∧
     (x.state ∉ [.spinup, .recal, .producing, .paused] → t = f)) ∧
  (∀ (e : LayoutEngine) (c : Chan), e.withdraw c = {
    queue := e.queue.filter fun r => decide (r.channel ≠ c)
    building := e.building.map fun w => if w.request.channel = c then { w with discarded := true } else w })

/-- INDEX_EDGE is captured only while MOTOR is active: the interval since the last stamp joins the four newest, in
RECAL and PRODUCING the watchdog is loaded, and in WRITE before its pass the edge asserts WGATE and begins the
stream at byte 0 (R104, R106, R128). In SPINUP, at speed, the channel goes on to recalibration or, resuming, to a
track boundary; not at speed it waits (R105, R110, R111). Every step keeps the four intervals or fewer of R104 that
this rests on. The data bit before the stream is the model's free value (entry 16), an edge with MOTOR inactive is
no event (entry 1), and the current track as the reference position is R105's in SPINUP and the model's choice in
other states (entry 35, DESIGN CHOICE). -/
def Obligations.IndexEdgesAreCaptured : Prop :=
  (∀ s t : State, (∀ c, (s.floor.chan c).intervals.length ≤ 4) → step s = .next t →
    ∀ c, (t.floor.chan c).intervals.length ≤ 4) ∧
  ∀ (c : Chan) (s : State), s.base.resetActive = false → (s.floor.chan c).intervals.length ≤ 4 →
    let x := s.floor.chan c
    let captured : Channel := { x with
      lastStamp := some s.base.timebase,
      intervals := match x.lastStamp with
        | none => x.intervals
        | some t => (x.intervals ++ [s.base.timebase - t]).drop (x.intervals.length - 3) }
    (x.motor = false → exec (.indexEdge c) s = .next s) ∧
    (x.motor = true → x.state = .recal ∨
        (x.state = .producing ∧ (x.phase = some .plan ∨ x.phase = some .seek ∨ x.phase = some .settle)) →
      exec (.indexEdge c) s =
        .next { s with floor := s.floor.setChan c { captured with watchdog := some 500000 } }.settle) ∧
    (∀ k, x.motor = true → x.state = .producing → x.phase = some .write → x.disk = some k → x.attempt.stream = none →
      exec (.indexEdge c) s =
        .next { s with floor := { s.floor.setChan c { captured with
          watchdog := some 500000, wgate := true,
          attempt := { x.attempt with stream := some {
            position := 0, crc := 0xFFFF, lastBit := Config.bitBeforeStream s.floor.freeDraws } } } with
          freeDraws := s.floor.freeDraws + 1 } }.settle) ∧
    (x.motor = true → x.state = .spinup → captured.atSpeed s.base = false →
      exec (.indexEdge c) s = .next { s with floor := s.floor.setChan c captured }.settle) ∧
    (∀ k, x.motor = true → x.state = .spinup → captured.atSpeed s.base = true → x.disk = some k →
      let place := (s.base.image k.slot).trackIndex k.cylinder k.head
      (x.resuming = true → exec (.indexEdge c) s =
        .next { s with floor := (s.floor.setChan c { captured with
          spinupTimer := none, watchdog := some 500000 }).boundary s.base c place }.settle) ∧
      (x.resuming = false →
        let entered : Channel := { captured with
          state := .recal, spinupTimer := none, watchdog := some 500000, dir := false, cylinder := none
          recalSteps := 0 }
        (s.base.trk0.getLsbD c.val = true → exec (.indexEdge c) s =
          .next { s with floor := (s.floor.setChan c { entered with
            cylinder := some 0, stepTimer := none }).boundary s.base c place }.settle) ∧
        (s.base.trk0.getLsbD c.val = false → exec (.indexEdge c) s =
          .next { s with floor := s.floor.setChan c { entered with
            recalSteps := 1, stepOut := true, pulseTimer := some 4
            stepTimer := some (x.settings.stepPeriod * 1000) } }.settle))) ∧
    (captured.atSpeed s.base = true ↔ captured.intervals.length = 4 ∧ ∀ i ∈ captured.intervals,
      match (referenceFormat s.base captured).bind s.base.format with
      | some d => d.pmin ≤ i.toNat ∧ i.toNat ≤ d.pmax
      | none => 158332 ≤ i.toNat ∧ i.toNat ≤ 210000) ∧
    (∀ k, x.disk = some k → referenceFormat s.base captured =
      (((s.base.image k.slot).trackMap.drop ((s.base.image k.slot).trackIndex k.cylinder k.head)).filterMap
        TrackEntry.format?).head?)

/-- The timers' expiries. A refresh falls due (R36), a STEP pulse ends (R102), a seek that has settled enters WRITE
(R103); the step timer takes a seek one cylinder nearer its target, or to settling when it stands there, and a
recalibration one step further until TRK0 is active, when it is done at cylinder 0, or until its 90th step (R102,
R103, R111); the spin-up timer and the watchdog abort the disk with their causes (R106, R110). The refresh interval
of 156 tenths (entry 7), an expiry that waits for its command (entry 6) and an expiry before its time, which is no
event (entry 1), are the model's. -/
def Obligations.TimersExpireOnceDue : Prop :=
  (∀ (c : Chan) (s : State), s.base.resetActive = false →
     let x := s.floor.chan c
     (156 ≤ s.base.store.refreshPhase →
       exec .refreshTimerExpiry s = .next { s with base := { s.base with store := { s.base.store with
         refreshPhase := s.base.store.refreshPhase - 156, refreshOwed := true } } }) ∧
     (s.base.store.refreshPhase < 156 → exec .refreshTimerExpiry s = .next s) ∧
     (x.pulseTimer = some 0 → exec (.stepPulseTimerExpiry c) s =
       .next { s with floor := s.floor.setChan c { x with pulseTimer := none, stepOut := false } }) ∧
     (x.pulseTimer ≠ some 0 → exec (.stepPulseTimerExpiry c) s = .next s) ∧
     (x.settleTimer = some 0 → x.phase = some .settle → exec (.settleTimerExpiry c) s =
       .next { s with floor := s.floor.setChan c { x with settleTimer := none, phase := some .write } }) ∧
     (x.settleTimer ≠ some 0 → exec (.settleTimerExpiry c) s = .next s)) ∧
  (∀ (c : Chan) (s : State), s.base.resetActive = false →
     let x := s.floor.chan c
     let one (y : Channel) : State := { s with floor := s.floor.setChan c y }
     (∀ target at0, x.stepTimer = some 0 → x.state = .producing → x.seekTarget = some target → x.cylinder = some at0 →
       (at0 = target → x.settings.settleTime ≠ 0 → exec (.stepTimerExpiry c) s = .next (one { x with
         stepTimer := none, phase := some .settle, seekTarget := none,
         settleTimer := some (x.settings.settleTime * 1000) }).settle) ∧
       (at0 = target → x.settings.settleTime = 0 → exec (.stepTimerExpiry c) s = .next (one { x with
         stepTimer := none, phase := some .write, seekTarget := none }).settle) ∧
       (at0 ≠ target → exec (.stepTimerExpiry c) s = .next (one { x with
         cylinder := some (if at0 < target then at0 + 1 else at0 - 1), stepOut := true, pulseTimer := some 4,
         stepTimer := some (x.settings.stepPeriod * 1000) }).settle)) ∧
     (x.stepTimer = some 0 → x.state = .recal → s.base.trk0.getLsbD c.val = false →
       (x.recalSteps < 90 → exec (.stepTimerExpiry c) s = .next (one { x with
         recalSteps := x.recalSteps + 1, stepOut := true, pulseTimer := some 4,
         stepTimer := some (x.settings.stepPeriod * 1000) }).settle) ∧
       (90 ≤ x.recalSteps → exec (.stepTimerExpiry c) s =
         .next { s with floor := (s.floor.setChan c { x with stepTimer := none }).abortDisk c .noTrack0 }.settle)) ∧
     (∀ k, x.stepTimer = some 0 → x.state = .recal → s.base.trk0.getLsbD c.val = true → x.disk = some k →
       let place := (s.base.image k.slot).trackIndex k.cylinder k.head
       exec (.stepTimerExpiry c) s = .next { s with floor := (s.floor.setChan c { x with
         cylinder := some 0, stepTimer := none }).boundary s.base c place }.settle) ∧
     (x.stepTimer ≠ some 0 → exec (.stepTimerExpiry c) s = .next s) ∧
     (x.spinupTimer = some 0 → exec (.spinupTimerExpiry c) s =
       .next { s with floor := ((s.floor.setChan c { x with spinupTimer := none }).abortDisk c
         (if x.lastStamp = none then .noIndex else .speed)) }.settle) ∧
     (x.spinupTimer ≠ some 0 → exec (.spinupTimerExpiry c) s = .next s) ∧
     (x.watchdog = some 0 → exec (.indexWatchdogExpiry c) s =
       .next { s with floor := (s.floor.setChan c { x with watchdog := none }).abortDisk c .noIndex }.settle) ∧
     (x.watchdog ≠ some 0 → exec (.indexWatchdogExpiry c) s = .next s))

/-! Tracks (chapter 7). -/

/-- PLAN_BUILD_COMPLETE hands the plan to its channel, which begins to fetch and on a retry goes on to WRITE; a
discarded plan goes nowhere; the engine takes its next request (R23, R25, R125): idle, the oldest of its queue,
with the descriptor as it stands in the Format Table, and none where the queue is empty or a plan is being built
(R22, R23). An idle engine completes nothing, which is the model's reading (entry 1, DEDUCED). The plan's slots
stand in the order of R15 with the header values and marks of R16, the data source and the serial patch of R24. A
seek starts with SIDE for the head and DIR toward the target, and makes its first step, or settles at once at its
target, or with no settle time goes on to WRITE (R102, R103, R126); the physical cylinder is the logical one times
the step multiplier of the entry's format, of an ERASE entry times the largest one the image names, or 1 (R112,
R126). -/
def Obligations.TheEngineHandsItsPlanOver : Prop :=
  (∀ (s : State), s.base.resetActive = false →
     (s.floor.engine.building = none → exec .planBuildComplete s = .next s) ∧
     (∀ w, s.floor.engine.building = some w →
       let next := LayoutEngine.kick s.base { s.floor.engine with building := none }
       let x := s.floor.chan w.request.channel
       let plan := buildPlan w.layout w.request
       (w.discarded = true →
         exec .planBuildComplete s = .next { s with floor := { s.floor with engine := next } }) ∧
       (∀ k, w.discarded = false → x.state = .producing → x.phase = some .plan → x.disk = some k →
         (0 < k.retries → exec .planBuildComplete s =
           .next { s with floor := { s.floor with engine := next }.setChan w.request.channel { x with
             attempt := { x.attempt with plan := some plan }, fetch := plan.fetchList plan.allSlots,
             phase := some .write } }) ∧
         (k.retries = 0 → exec .planBuildComplete s =
           .next { s with floor := ({ s.floor with engine := next }.setChan w.request.channel
             (Channel.startSeek { x with
               attempt := { x.attempt with plan := some plan }, fetch := plan.fetchList plan.allSlots }
               (physicalCylinder s.base k) k.head)) })))) ∧
  (∀ (d : Descriptor) (r : PlanRequest),
    let p := buildPlan d r
    (p.format = r.format ∧ p.cylinder = r.cylinder ∧ p.head = r.head ∧ p.period = r.period ∧
      p.capacity = r.period * d.rate / 8000 ∧ p.used = d.used ∧ p.gap = d.sectorGap ∧
      p.closing = p.capacity - p.used ∧ p.layout = d ∧
      p.slots.map SlotPlan.index = d.placement r.cylinder r.head) ∧
    ∀ sl ∈ p.slots,
      sl.cylinder = d.cylOverride.getD (byte r.cylinder) ∧ sl.head = d.headOverride.getD (byte r.head) ∧
      sl.size = d.sizeOverride.getD (byte d.sizeCode) ∧
      ((∀ x ∈ d.exceptions, x.index ≠ sl.index) →
        sl.sector = byte (d.firstSector + sl.index) ∧ sl.deleted = false) ∧
      (∀ front x back, d.exceptions = front ++ x :: back → x.index = sl.index →
        (∀ y ∈ front, y.index ≠ sl.index) →
        sl.sector = x.sector.getD (byte (d.firstSector + sl.index)) ∧ sl.deleted = x.deleted) ∧
      (r.data = none → sl.source = .fill d.dataFill ∧ sl.patch = none) ∧
      (∀ slot span, r.data = some (slot, span) →
        sl.source = .image (span + sl.index * (128 * 2 ^ d.sizeCode)) ∧
        (r.serial = none → sl.patch = none) ∧
        ∀ number spec, r.serial = some (number, spec) →
          sl.patch = if spec.cylinder = r.cylinder ∧ spec.head = r.head ∧ spec.index = sl.index then
            some { offset := spec.offset, bytes := spec.encoding.bytes number } else none)) ∧
  (∀ (x : Channel) (target head at0 : Nat), x.cylinder = some at0 →
    let turned : Channel := { x with
      side := decide (head = 1), dir := if at0 = target then x.dir else decide (at0 < target) }
    (at0 ≠ target → x.startSeek target head = { turned with
      phase := some .seek, seekTarget := some target
      cylinder := some (if at0 < target then at0 + 1 else at0 - 1), stepOut := true, pulseTimer := some 4
      stepTimer := some (x.settings.stepPeriod * 1000) }) ∧
    (at0 = target → x.settings.settleTime ≠ 0 → x.startSeek target head = { turned with
      phase := some .settle, seekTarget := none, settleTimer := some (x.settings.settleTime * 1000) }) ∧
    (at0 = target → x.settings.settleTime = 0 → x.startSeek target head = { turned with
      phase := some .write, seekTarget := none })) ∧
  (∀ (b : Base) (k : Disk),
    let im := b.image k.slot
    let largest := b.maxMultiplier im
    let names (e : TrackEntry) (d : Descriptor) : Prop :=
      ∃ f, b.format f = some d ∧ (e = .formatOnly f ∨ ∃ offset len, e = .data f offset len)
    (∀ e d, im.entry k.cylinder k.head = some e → names e d →
      physicalCylinder b k = k.cylinder * d.stepMultiplier) ∧
    (im.entry k.cylinder k.head = some .erase → physicalCylinder b k = k.cylinder * largest) ∧
    1 ≤ largest ∧ (∀ e ∈ im.trackMap, ∀ d, names e d → d.stepMultiplier ≤ largest) ∧
    (largest = 1 ∨ ∃ e ∈ im.trackMap, ∃ d, names e d ∧ d.stepMultiplier = largest)) ∧
  (∀ (b : Base) (r : PlanRequest) (queue : List PlanRequest) (w : PlanBuild),
    (∀ d, b.format r.format = some d →
      LayoutEngine.kick b { queue := r :: queue, building := none } =
        { queue := queue, building := some { request := r, layout := d, discarded := false } }) ∧
    LayoutEngine.kick b { queue := [], building := none } = { queue := [], building := none } ∧
    LayoutEngine.kick b { queue := queue, building := some w } = { queue := queue, building := some w })

/-- WRITE_STREAM_BYTE sends the next byte of a running pass once it is due, with its clock half and its place in
the CRC (R8, R9, R10, R17, R129): gap fill, sync, mark prefixes, the three marks, header bytes, both CRCs high byte
first, the fill byte of a FORMAT-ONLY track, and a DATA track's byte from the track buffer with the serial patch in
place (R24, R96, R127); an ERASE track is gap fill throughout, in the encoding of the image's first format. A pass
fetches the image bytes of its slots in physical order, each slot's sector from its offset; with the last data byte
of the write pass of a verified disk the first verify pass begins to fetch (R127). The CRC-16 is of generator 1021
with preset FFFF, the most significant bit first (R17), and the MFM clock half has a transition between two data
bits that are 0 (R8). When a byte is due is entry 18 and that nothing is sent before is entry 1 (both DEDUCED). -/
def Obligations.AWritePassSendsItsBytes : Prop :=
  (∀ (c : Chan) (st : WriteStream) (p : TrackPlan) (s : State), s.base.resetActive = false →
    let x := s.floor.chan c
    let e := p.layout.encoding
    let due := st.position * 8000 ≤ sinceEdge s.base x * p.layout.rate
    let ordinary (v : Byte) : Byte := match e with | .fm => 0xFF | .mfm => mfmClock st.lastBit v
    let mark (fm v : Byte) : Byte := match e with | .fm => fm | .mfm => mfmClock st.lastBit v
    let cover : List Byte := match e with | .fm => [] | .mfm => [0xA1, 0xA1, 0xA1]
    let sends (clock v : Byte) (crc : Word16) (buffer : List (Nat × Byte)) (fetch : List FetchItem) :
        Host.Outcome State Fault Refusal :=
      .next { s with floor := s.floor.setChan c { x with
        wdata := some (clock, v), buffer := buffer, fetch := fetch
        attempt := { x.attempt with stream := some {
          position := st.position + 1, crc := crc, lastBit := v.getLsbD 0 } } } }.settle
    let plain (v : Byte) (crc : Word16) := sends (ordinary v) v crc x.buffer x.fetch
    let send := exec (.writeStreamByte c) s
    x.state = .producing → x.phase = some .write → x.attempt.stream = some st → x.attempt.plan = some p →
    (¬due → send = .next s) ∧
    (due →
      (p.layout.itemAt st.position = .gap → send = plain p.layout.gapFill st.crc) ∧
      (p.layout.itemAt st.position = .sync → send = plain 0x00 st.crc) ∧
      (p.layout.itemAt st.position = .markPrefix → send = sends 0x0A 0xA1 st.crc x.buffer x.fetch) ∧
      (p.layout.itemAt st.position = .indexMark → send = sends (mark 0xD7 0xFC) 0xFC st.crc x.buffer x.fetch) ∧
      (∀ j, p.layout.itemAt st.position = .headerMark j →
        send = sends (mark 0xC7 0xFE) 0xFE (crc16 (cover ++ [0xFE])) x.buffer x.fetch) ∧
      (∀ j sl, p.slots[j]? = some sl →
        (∀ i v, p.layout.itemAt st.position = .headerByte j i →
          [sl.cylinder, sl.head, sl.sector, sl.size][i]? = some v → send = plain v (crc16Byte st.crc v)) ∧
        (p.layout.itemAt st.position = .dataMark j →
          let v : Byte := if sl.deleted then 0xF8 else 0xFB
          send = sends (mark 0xC7 v) v (crc16 (cover ++ [v])) x.buffer x.fetch) ∧
        (∀ i v, p.layout.itemAt st.position = .dataByte j i → sl.source = .fill v →
          send = sends (ordinary v) v (crc16Byte st.crc v) x.buffer (x.fetchAfter (.dataByte j i))) ∧
        (∀ i offset raw rest, p.layout.itemAt st.position = .dataByte j i → sl.source = .image offset →
          x.buffer = (j, raw) :: rest →
          let v := sl.patched i raw
          send = sends (ordinary v) v (crc16Byte st.crc v) rest (x.fetchAfter (.dataByte j i)))) ∧
      (∀ j, (p.layout.itemAt st.position = .headerCrc j 0 ∨ p.layout.itemAt st.position = .dataCrc j 0) →
        send = plain ((st.crc >>> 8).setWidth 8) st.crc) ∧
      (∀ j, (p.layout.itemAt st.position = .headerCrc j 1 ∨ p.layout.itemAt st.position = .dataCrc j 1) →
        send = plain (st.crc.setWidth 8) st.crc))) ∧
  (∀ (sl : SlotPlan) (i : Nat) (raw : Byte),
    (sl.patch = none → sl.patched i raw = raw) ∧
    (∀ q, sl.patch = some q →
      (∀ v, q.offset ≤ i → q.bytes[i - q.offset]? = some v → sl.patched i raw = v) ∧
      ((i < q.offset ∨ q.offset + q.bytes.length ≤ i) → sl.patched i raw = raw))) ∧
  (∀ (c : Chan) (st : WriteStream) (k : Disk) (e : Encoding) (rate : Nat) (fill : Byte) (s : State),
    s.base.resetActive = false →
    let x := s.floor.chan c
    x.state = .producing → x.phase = some .write → x.attempt.stream = some st → x.attempt.plan = none →
    x.disk = some k →
    (match ((s.base.image k.slot).trackMap.filterMap TrackEntry.format?).head?.bind s.base.format with
      | some d => e = d.encoding ∧ rate = d.rate ∧ fill = d.gapFill
      | none => e = .fm ∧ rate = 250 ∧ fill = 0xFF) →
    st.position * 8000 ≤ sinceEdge s.base x * rate →
    exec (.writeStreamByte c) s = .next { s with floor := s.floor.setChan c { x with
      wdata := some ((match e with | .fm => 0xFF | .mfm => mfmClock st.lastBit fill), fill)
      attempt := { x.attempt with stream := some {
        position := st.position + 1, crc := st.crc, lastBit := fill.getLsbD 0 } } } }.settle) ∧
  (∀ (x : Channel) (p : TrackPlan) (k : Disk),
    let size := 128 * 2 ^ p.layout.sizeCode
    let begins (item : StreamItem) : Prop := k.verified = true ∧ item = .dataByte (p.slots.length - 1) (size - 1) ∧
      p.slots ≠ []
    (∀ item, x.attempt.plan = some p → x.disk = some k → begins item →
      x.fetchAfter item = p.fetchList (List.range p.slots.length)) ∧
    (∀ item, x.attempt.plan = some p → x.disk = some k → ¬begins item → x.fetchAfter item = x.fetch) ∧
    (∀ item, (x.attempt.plan = none ∨ x.disk = none) → x.fetchAfter item = x.fetch) ∧
    p.allSlots = List.range p.slots.length ∧ p.fetchList [] = [] ∧
    ∀ j slots sl, p.slots[j]? = some sl →
      (∀ offset, sl.source = .image offset →
        p.fetchList (j :: slots) = { slot := j, offset := offset, remaining := size } :: p.fetchList slots) ∧
      (∀ v, sl.source = .fill v → p.fetchList (j :: slots) = p.fetchList slots)) ∧
  (∀ (b : Base) (x : Channel) (stamp : Word32), x.lastStamp = some stamp →
    sinceEdge b x = (b.timebase - stamp).toNat) ∧
  (∀ (r : Word16) (v : Byte), crc16Byte r v = (List.range 8).foldl (fun (q : Word16) (i : Nat) =>
    if q.getLsbD 15 != v.getLsbD (7 - i) then (q <<< 1) ^^^ 0x1021 else q <<< 1) r) ∧
  (∀ bytes, crc16 bytes = bytes.foldl crc16Byte 0xFFFF) ∧ crc16 ((List.range' 0x31 9).map byte) = 0x29B1 ∧
  (∀ (last : Bool) (v : Byte) (i : Nat), i < 8 → (mfmClock last v).getLsbD i =
    (!v.getLsbD i && !(if i = 7 then last else v.getLsbD (i + 1))))

/-- Passes end at the INDEX edge. A write pass is an OVERRUN of the slot whose sector holds the stream until its
last data CRC has been written, and COMPLETE from then on (R130, R132); a byte counts as written once its step has
come (entry 11, DEDUCED), and an edge inside the fixed part names a slot that is a free value (entry 15). An ERASE
track, and a disk that is not verified, then end CLEAN; a verified one begins its first verify pass (R133). A
verify pass gives MISSING to every slot it has not ended (R135), and either a second pass at 100% over the slots
that failed begins, when it was the first, at a narrower window, and every failure is one that may be cured (R137,
R138), or the attempt ends with the track result (R140). -/
def Obligations.PassesEndAtTheIndexEdge : Prop :=
  (∀ (c : Chan) (k : Disk) (s : State), s.base.resetActive = false → (s.floor.chan c).intervals.length ≤ 4 →
    let x := s.floor.chan c
    let captured : Channel := { x with
      lastStamp := some s.base.timebase, watchdog := some 500000
      intervals := match x.lastStamp with
        | none => x.intervals
        | some t => (x.intervals ++ [s.base.timebase - t]).drop (x.intervals.length - 3) }
    let f := s.floor.setChan c captured
    x.motor = true → x.state = .producing → x.disk = some k →
    (∀ st, x.phase = some .write → x.attempt.stream = some st →
      (x.attempt.plan = none →
        exec (.indexEdge c) s = .next { s with floor := f.endAttempt s.base c .clean }.settle) ∧
      (∀ p, x.attempt.plan = some p →
        (st.position < p.layout.used - p.layout.sectorGap →
          (∀ j, p.layout.fixedPart + j * p.layout.sectorLen ≤ st.position →
            st.position < p.layout.fixedPart + (j + 1) * p.layout.sectorLen →
            exec (.indexEdge c) s = .next { s with floor :=
              { f with freeDraws := f.freeDraws + 1 }.endAttempt s.base c (.bad .overrun (p.sectorOf j)) }.settle) ∧
          (st.position < p.layout.fixedPart → 0 < p.layout.sectors → ∃ j, j < p.layout.sectors ∧
            exec (.indexEdge c) s = .next { s with floor :=
              { f with freeDraws := f.freeDraws + 1 }.endAttempt s.base c (.bad .overrun (p.sectorOf j)) }.settle)) ∧
        (p.layout.used - p.layout.sectorGap ≤ st.position →
          (k.verified = false →
            exec (.indexEdge c) s = .next { s with floor := f.endAttempt s.base c .clean }.settle) ∧
          (k.verified = true → exec (.indexEdge c) s = .next { s with floor := s.floor.setChan c { captured with
            phase := some .verify, wgate := false, wdata := none
            attempt := { x.attempt with
              writeResult := some .complete, stream := none, pass := 1
              results := List.replicate p.slots.length none
              read := some {
                slots := List.range p.slots.length, phase := .seekHeader, prefixes := 0, spill := false
                searchFrom := p.layout.fixedPart -
                  (match p.layout.encoding with | .mfm => 22 | .fm => 11) } } } }.settle)))) ∧
    (∀ p r, x.phase = some .verify → x.attempt.plan = some p → x.attempt.read = some r →
      let results := x.attempt.closeResults
      let failed := failedSlots results
      let second := x.attempt.pass = 1 ∧ k.window ≠ .full ∧ failed ≠ [] ∧
        ∀ j ∈ failed, results[j]? ∈ [some (some .missing), some (some .headerCrc), some (some .dataCrc)]
      (second → ∃ t, exec (.indexEdge c) s = .next { s with floor := t }.settle ∧
        t.chan c = { captured with
          buffer := [], fetch := p.fetchList failed
          attempt := { x.attempt with pass := 2, results := results, read := some {
            slots := failed, phase := .seekHeader, prefixes := 0, spill := false
            searchFrom := p.layout.fixedPart + failed.headD 0 * p.layout.sectorLen -
              (match p.layout.encoding with | .mfm => 22 | .fm => 11) } } } ∧
        (∀ d, d ≠ c → t.chan d = s.floor.chan d) ∧ t.jobs = s.floor.jobs ∧ t.ring = s.floor.ring ∧
        t.engine = s.floor.engine ∧ t.offers = s.floor.offers) ∧
      (¬second → exec (.indexEdge c) s =
        .next { s with floor := f.endAttempt s.base c (verifyResult p results) }.settle))) ∧
  (∀ (a : Attempt) (r : ReadSide) (j : Nat), a.read = some r → j < a.results.length →
    (j ∉ r.slots → a.closeResults[j]? = a.results[j]?) ∧
    (∀ result, r.slots.head? = some j → r.phase = .ended result → a.closeResults[j]? =
      some (some (if a.pass = 2 ∧ result = .ok then .marginal else result))) ∧
    (j ∈ r.slots → (r.slots.head? ≠ some j ∨ ∀ result, r.phase ≠ .ended result) →
      a.closeResults[j]? = some (some .missing)) ∧
    (j ∈ failedSlots a.results ↔ a.results[j]? ≠ some (some .ok) ∧ a.results[j]? ≠ some (some .marginal)) ∧
    (failedSlots a.results).Pairwise (· < ·)) ∧
  (∀ (p : TrackPlan) (front back : List (Option SlotResult)),
    let ok (r : Option SlotResult) : Prop := r = some .ok
    let good (r : Option SlotResult) : Prop := r = some .ok ∨ r = some .marginal
    ((∀ r ∈ front, ok r) → verifyResult p front = .clean) ∧
    ((∀ r ∈ front, ok r) → (∀ r ∈ back, good r) →
      verifyResult p (front ++ some .marginal :: back) = .marginal (p.sectorOf front.length)) ∧
    ∀ result cause, (result, cause) ∈ [(SlotResult.missing, Cause.missing), (.headerMismatch, .headerMismatch),
        (.headerCrc, .headerCrc), (.markMismatch, .markMismatch), (.dataCrc, .dataCrc),
        (.dataMismatch, .dataMismatch)] →
      (∀ r ∈ front, good r) →
      verifyResult p (front ++ some result :: back) = .bad cause (p.sectorOf front.length)) ∧
  (∀ (p : TrackPlan) (j : Nat), p.sectorOf j = p.slots[j]?.map SlotPlan.sector)

/-- What follows a good track. A CLEAN attempt accepts it, with the soft event RECOVERED for the first attempt's
sector when retries were used; a MARGINAL one is retried while retries are left and then accepted with
MARGINAL_ACCEPTED (R141 to R143). At the boundary retries used become 0 (R123): the next track that is not SKIP
becomes current and begins, or a frozen channel pauses with it current (entry 10, DEDUCED), or with none left the
disk posts PASS or PASS_SOFT (R112, R113, R146). Beginning a track checks the speed, the mean of its four intervals
(R105), and asks for a plan, or seeks on an ERASE track (R124). -/
def Obligations.GoodTracksLeadToTheNext : Prop :=
  (∀ (b : Base) (f : Floor) (c : Chan) (k : Disk), (f.chan c).disk = some k →
    let x := f.chan c
    let after (k' : Disk) (first : Option Byte) : Floor :=
      (f.orphanBurst (BurstWork.isFetchOf c)).setChan c { x with
        wgate := false, wdata := none, buffer := [], fetch := []
        attempt := { Attempt.none with firstSector := first }, disk := some k' }
    let first (sector : Option Byte) : Option Byte := if k.retries = 0 then sector else x.attempt.firstSector
    let soft (cause : Cause) (sector : Option Byte) : Disk := { k with
      capture := k.capture.take ⟨false, cause, k.cylinder, k.head, sector⟩
      softCount := min 255 (k.softCount + 1), tracksWritten := k.tracksWritten + 1 }
    let place := (b.image k.slot).trackIndex k.cylinder k.head + 1
    (k.retries = 0 → f.endAttempt b c .clean =
      (after { k with tracksWritten := k.tracksWritten + 1 } none).boundary b c place) ∧
    (0 < k.retries → f.endAttempt b c .clean =
      (after (soft .recovered x.attempt.firstSector) x.attempt.firstSector).boundary b c place) ∧
    (∀ sector, k.retryLimit ≤ k.retries → f.endAttempt b c (.marginal sector) =
      (after (soft .marginalAccepted sector) (first sector)).boundary b c place) ∧
    (∀ sector, k.retries < k.retryLimit → f.endAttempt b c (.marginal sector) =
      (after { k with retries := k.retries + 1, totalRetries := min 65535 (k.totalRetries + 1) }
        (first sector)).beginPlan b c)) ∧
  (∀ (b : Base) (f : Floor) (c : Chan) (k : Disk) (o : Opening) (i : Nat), (f.chan c).disk = some k →
    (b.image k.slot).opening = some o →
    let x := f.chan c
    let map := (b.image k.slot).trackMap
    ((∀ e ∈ map.drop i, e = .skip) →
      let t := f.boundary b c i
      (t.chan c).state = .posting ∧ (t.chan c).motor = false ∧ (t.chan c).disk = some { k with retries := 0 } ∧
      (t.chan c).record.map RecordBody.outcome = some (if 0 < k.softCount then .passSoft else .pass) ∧
      t.offers = f.offers ++ [c] ∧ (∀ d, d ≠ c → t.chan d = f.chan d)) ∧
    (∀ n e, i ≤ n → map[n]? = some e → e ≠ .skip → (∀ q ∈ (map.take n).drop i, q = .skip) →
      let next : Disk := { k with cylinder := n / o.heads, head := n % o.heads, retries := 0 }
      (x.frozen = true → f.boundary b c i = f.setChan c { x with
        state := .paused, phase := none, resuming := false, motor := false, recalSteps := 0, seekTarget := none
        stepTimer := none, settleTimer := none, spinupTimer := none, watchdog := none
        attempt := Attempt.none, disk := some next }) ∧
      (x.frozen = false → f.boundary b c i = (f.setChan c { x with
        attempt := Attempt.none, recalSteps := 0, disk := some next }).beginPlan b c))) ∧
  (∀ (b : Base) (f : Floor) (c : Chan) (k : Disk), (f.chan c).disk = some k →
    let x := f.chan c
    let began := f.setChan c { x with
      state := .producing, resuming := false, phase := some .plan
      attempt := { Attempt.none with firstSector := x.attempt.firstSector } }
    let entry := (b.image k.slot).entry k.cylinder k.head
    let window (format : Option FormatId) (mean : Nat) : Prop :=
      match format.bind b.format with
      | some d => d.pmin ≤ mean ∧ mean ≤ d.pmax
      | none => 158332 ≤ mean ∧ mean ≤ 210000
    let ask (format : FormatId) (data : Option (SlotId × Nat)) (mean : Nat) : Floor :=
      { began with engine := LayoutEngine.kick b { f.engine with queue := f.engine.queue ++ [
        { channel := c, format := format, cylinder := k.cylinder, head := k.head, data := data, period := mean,
          serial := k.serial }] } }
    (x.meanPeriod = none → f.beginPlan b c = began.abortDisk c .speed) ∧
    (∀ mean, x.meanPeriod = some mean →
      (¬window (entry.bind TrackEntry.format?) mean → f.beginPlan b c = began.abortDisk c .speed) ∧
      (∀ format offset len, entry = some (.data format offset len) → window (some format) mean →
        f.beginPlan b c = ask format (some (k.slot, offset)) mean) ∧
      (∀ format, entry = some (.formatOnly format) → window (some format) mean →
        f.beginPlan b c = ask format none mean) ∧
      (entry = some .erase → window none mean → f.beginPlan b c = began.setChan c
        (Channel.startSeek (began.chan c) (k.cylinder * b.maxMultiplier (b.image k.slot)) k.head)))) ∧
  (∀ (x : Channel) (mean : Nat), x.meanPeriod = some mean ↔
    x.intervals.length = 4 ∧ mean = (x.intervals.map BitVec.toNat).sum / 4) ∧
  (∀ (c : Chan) (work : BurstWork), work.isFetchOf c = true ↔ ∃ j, work = .fetch c j)

/-- WRITE_UNDERRUN and VERIFY_UNDERRUN end the attempt as BAD with UNDERRUN and the slot's sector; and a BAD
attempt with no retries left posts its disk with outcome FAIL and a hard event, while one with retries left counts
a retry and plans the track again (R131, R136, R140 to R142). -/
def Obligations.UnderrunsEndTheAttempt : Prop :=
  (∀ (c : Chan) (st : WriteStream) (p : TrackPlan) (sl : SlotPlan) (j i offset : Nat) (s : State),
    s.base.resetActive = false → (s.floor.chan c).state = .producing → (s.floor.chan c).phase = some .write →
    (s.floor.chan c).attempt.stream = some st → (s.floor.chan c).attempt.plan = some p →
    st.position * 8000 ≤ sinceEdge s.base (s.floor.chan c) * p.layout.rate →
    p.layout.itemAt st.position = .dataByte j i → p.slots[j]? = some sl → sl.source = .image offset →
    (s.floor.chan c).buffer = [] →
    exec (.writeUnderrun c) s =
      .next { s with floor := s.floor.endAttempt s.base c (.bad .underrun (some sl.sector)) }.settle) ∧
  (∀ (c : Chan) (r : ReadSide) (p : TrackPlan) (sl : SlotPlan) (j count offset : Nat) (rest : List Nat)
    (crc : Word16) (differs : Bool) (s : State),
    s.base.resetActive = false → (s.floor.chan c).state = .producing → (s.floor.chan c).phase = some .verify →
    (s.floor.chan c).attempt.read = some r → (s.floor.chan c).attempt.plan = some p →
    r.slots = j :: rest → r.phase = .data count crc differs → p.slots[j]? = some sl → sl.source = .image offset →
    (s.floor.chan c).buffer = [] →
    exec (.verifyUnderrun c) s =
      .next { s with floor := s.floor.endAttempt s.base c (.bad .underrun (some sl.sector)) }.settle) ∧
  (∀ (b : Base) (f : Floor) (c : Chan) (k : Disk) (cause : Cause) (sector : Option Byte),
    (f.chan c).disk = some k →
    let t := f.endAttempt b c (.bad cause sector)
    (k.retryLimit ≤ k.retries →
      (t.chan c).state = .posting ∧ (t.chan c).wgate = false ∧ (t.chan c).motor = false ∧
        (t.chan c).buffer = [] ∧ (t.chan c).fetch = [] ∧ t.offers = f.offers ++ [c] ∧
        (t.chan c).record.map RecordBody.outcome = some .fail ∧
        (t.chan c).record.map RecordBody.capture =
          some (k.capture.take ⟨true, cause, k.cylinder, k.head, sector⟩) ∧
        (t.chan c).record.map RecordBody.totalRetries = some k.totalRetries ∧
        (∀ d, d ≠ c → t.chan d = f.chan d) ∧ t.ring = f.ring ∧ t.jobs = f.jobs ∧ t.engine = f.engine) ∧
    (∀ fmt offset len mean, k.retries < k.retryLimit →
      (b.image k.slot).entry k.cylinder k.head = some (.data fmt offset len) →
      (f.chan c).meanPeriod = some mean →
      (match b.format fmt with | some d => d.pmin ≤ mean ∧ mean ≤ d.pmax | none => 158332 ≤ mean ∧ mean ≤ 210000) →
      (t.chan c).state = .producing ∧ (t.chan c).phase = some .plan ∧ (t.chan c).wgate = false ∧
        (t.chan c).disk = some { k with
          retries := k.retries + 1, totalRetries := min 65535 (k.totalRetries + 1) } ∧
        (t.chan c).attempt.plan = none ∧ (t.chan c).buffer = [] ∧
        (∀ d, d ≠ c → t.chan d = f.chan d) ∧ t.ring = f.ring ∧ t.jobs = f.jobs ∧ t.offers = f.offers ∧
        t.engine = LayoutEngine.kick b { f.engine with queue := f.engine.queue ++ [
          { channel := c, format := fmt, cylinder := k.cylinder, head := k.head, data := some (k.slot, offset),
            period := mean, serial := k.serial }] }))

/-- READ_BACK_BYTE seeks the slot's header mark from the search start to its limit, tests the header's CRC and then
its four bytes against the plan, and seeks the data mark to its limit and tests which mark it is (R134, R135 tests
1 to 5). A header mark counts when it completes at or after the search start, wherever its prefixes lie (entry 32,
DESIGN CHOICE). VERIFY_SLOT_RESULT gives MISSING to a slot whose mark has not come by its limit, and nothing before
(R135); a slot given its result is followed by the next, sought from the end of a reading that was OK, from the
planned data end of one that failed, and in the second pass from D before its own header (R135, R138). The bytes of
the slot that were fetched or were still to fetch are dropped (entry 13, DESIGN CHOICE). How flux becomes bytes is
entry 17 (DESIGN CHOICE, unsafe) and when a position is reached or past is entry 18 (DEDUCED). -/
def Obligations.HeadersAndMarksAreSought : Prop :=
  ∀ (c : Chan) (flux : List (BitVec 9)) (k : Disk) (p : TrackPlan) (r : ReadSide) (sl : SlotPlan) (j : Nat)
    (rest : List Nat) (s : State), s.base.resetActive = false →
    let x := s.floor.chan c
    x.state = .producing → x.phase = some .verify → x.disk = some k → x.attempt.plan = some p →
    x.attempt.read = some r → r.slots = j :: rest → p.slots[j]? = some sl →
    let e := p.layout.encoding
    let read := decodeFlux (if x.attempt.pass = 2 then .full else k.window) r.spill flux
    let goes (r' : ReadSide) : Host.Outcome State Fault Refusal :=
      .next { s with floor := s.floor.setChan c { x with
        attempt := { x.attempt with read := some { r' with spill := read.2.2 } } } }.settle
    let prefixByte : Prop := e = .mfm ∧ read.2.1 = 0xA1 ∧ read.1 = 0x0A
    let mark : Prop := match e with | .mfm => 3 ≤ r.prefixes ∧ ¬prefixByte | .fm => read.1 = 0xC7
    let cover : List Byte := match e with | .fm => [] | .mfm => [0xA1, 0xA1, 0xA1]
    let allowance : Nat := match e with | .mfm => 22 | .fm => 11
    let begins := p.layout.fixedPart + j * p.layout.sectorLen
    let headerLimit := begins + (match e with | .mfm => 16 | .fm => 7) + allowance
    let dataLimit := begins + (match e with | .mfm => 60 | .fm => 31) + allowance
    let now := sinceEdge s.base x * p.layout.rate
    let onward : Host.Outcome State Fault Refusal := goes { r with prefixes := r.prefixes + 1 }
    let anew : Host.Outcome State Fault Refusal := goes { r with prefixes := 0 }
    let send := exec (.readBackByte c flux) s
    let verify := exec (.verifySlotResult c) s
    let sought (result : SlotResult) : Nat :=
      if x.attempt.pass = 2 then p.layout.fixedPart + rest.headD 0 * p.layout.sectorLen - allowance
      else if result = .ok then 0
      else begins + (match e with | .mfm => 62 | .fm => 33) + 128 * 2 ^ p.layout.sizeCode
    let left (result : SlotResult) : Channel := { x with
      buffer := x.buffer.filter fun v => decide (v.1 ≠ j)
      fetch := x.fetch.filter fun i => decide (i.slot ≠ j)
      attempt := { x.attempt with
        results := x.attempt.results.set j (some (if x.attempt.pass = 2 ∧ result = .ok then .marginal else result))
        read := some { r with slots := rest, phase := .seekHeader, prefixes := 0, searchFrom := sought result } } }
    let given (result : SlotResult) : Host.Outcome State Fault Refusal :=
      .next { s with floor := { s.floor.setChan c (left result) with burst := s.floor.burst.map fun w =>
        { w with live := w.live && decide (w.work ≠ .fetch c j) } } }
    (r.phase = .seekHeader →
      (mark → read.2.1 = 0xFE → r.searchFrom * 8000 ≤ now → now ≤ headerLimit * 8000 →
        send = goes { r with phase := .header [], prefixes := 0 }) ∧
      (¬(mark ∧ read.2.1 = 0xFE ∧ r.searchFrom * 8000 ≤ now ∧ now ≤ headerLimit * 8000) →
        (prefixByte → send = onward) ∧ (¬prefixByte → send = anew)) ∧
      (now ≤ headerLimit * 8000 → verify = .next s) ∧ (headerLimit * 8000 < now → verify = given .missing)) ∧
    (∀ got, r.phase = .header got →
      (got.length < 5 → send = goes { r with phase := .header (got ++ [read.2.1]) }) ∧
      (∀ b0 b1 b2 b3 high, got = [b0, b1, b2, b3, high] → send = goes { r with
        prefixes := 0
        phase := if crc16Bytes (crc16 (cover ++ [0xFE, b0, b1, b2, b3])) ≠ [high, read.2.1] then .ended .headerCrc
          else if [b0, b1, b2, b3] ≠ [sl.cylinder, sl.head, sl.sector, sl.size] then .ended .headerMismatch
          else .seekData })) ∧
    (r.phase = .seekData →
      let v : Byte := if sl.deleted then 0xF8 else 0xFB
      (mark → now ≤ dataLimit * 8000 → read.2.1 = v →
        send = goes { r with phase := .data 0 (crc16 (cover ++ [v])) false, prefixes := 0 }) ∧
      (mark → now ≤ dataLimit * 8000 → read.2.1 ≠ v → send = goes { r with phase := .ended .markMismatch }) ∧
      (¬(mark ∧ now ≤ dataLimit * 8000) → (prefixByte → send = onward) ∧ (¬prefixByte → send = anew)) ∧
      (now ≤ dataLimit * 8000 → verify = .next s) ∧ (dataLimit * 8000 < now → verify = given .missing)) ∧
    (∀ result, r.phase = .ended result → verify = given result) ∧
    (∀ got, r.phase = .header got → verify = .next s) ∧
    (∀ count crc differs, r.phase = .data count crc differs → verify = .next s) ∧
    (∀ crc differs got, r.phase = .dataCheck crc differs got → verify = .next s)

/-- READ_BACK_BYTE compares a data byte with the expected one, the image's from the track buffer or the fill byte
of a FORMAT-ONLY track, and counts it into the CRC; an image byte that is not in the buffer ends the pass as
UNDERRUN; the first CRC byte is kept, and the second ends the slot as DATA_CRC, DATA_MISMATCH or OK in that order
(R135, R136); VERIFY_SLOT_RESULT then stores the slot's result, MARGINAL for an OK of the second pass, and goes on
to the next slot, with the bytes of the slot it leaves, fetched and not used or still to fetch, dropped and a fetch
of them in progress no longer wanted (R135, R138; entry 13, DESIGN CHOICE). How flux becomes bytes, and the
transition kept for the next byte, is the model's choice (entry 17, DESIGN CHOICE, unsafe). -/
def Obligations.ReadBackIsTestedSlotBySlot : Prop :=
  (∀ (c : Chan) (flux : List (BitVec 9)) (k : Disk) (p : TrackPlan) (r : ReadSide) (sl : SlotPlan) (j : Nat)
    (rest : List Nat) (s : State), s.base.resetActive = false →
    let x := s.floor.chan c
    x.state = .producing → x.phase = some .verify → x.disk = some k → x.attempt.plan = some p →
    x.attempt.read = some r → r.slots = j :: rest → p.slots[j]? = some sl →
    let read := decodeFlux (if x.attempt.pass = 2 then .full else k.window) r.spill flux
    let goes (r' : ReadSide) (buffer : List (Nat × Byte)) : State :=
      { s with floor := s.floor.setChan c { x with
        buffer := buffer, attempt := { x.attempt with read := some { r' with spill := read.2.2 } } } }.settle
    (∀ count crc differs raw left offset, r.phase = .data count crc differs → sl.source = .image offset →
      x.buffer = (j, raw) :: left →
      let crc' := crc16Byte crc read.2.1
      let differs' := differs || decide (read.2.1 ≠ sl.patched count raw)
      exec (.readBackByte c flux) s = .next (goes { r with
        phase := if count + 1 < p.layout.sectorSize then .data (count + 1) crc' differs'
          else .dataCheck crc' differs' [] } left)) ∧
    (∀ count crc differs v, r.phase = .data count crc differs → sl.source = .fill v →
      let crc' := crc16Byte crc read.2.1
      let differs' := differs || decide (read.2.1 ≠ v)
      exec (.readBackByte c flux) s = .next (goes { r with
        phase := if count + 1 < p.layout.sectorSize then .data (count + 1) crc' differs'
          else .dataCheck crc' differs' [] } x.buffer)) ∧
    (∀ count crc differs offset, r.phase = .data count crc differs → sl.source = .image offset →
      (∀ raw left, x.buffer ≠ (j, raw) :: left) →
      exec (.readBackByte c flux) s =
        .next { s with floor := s.floor.endAttempt s.base c (.bad .underrun (some sl.sector)) }.settle) ∧
    (∀ crc differs, r.phase = .dataCheck crc differs [] →
      exec (.readBackByte c flux) s = .next (goes { r with phase := .dataCheck crc differs [read.2.1] } x.buffer)) ∧
    (∀ result, r.phase = .ended result → exec (.readBackByte c flux) s = .next (goes r x.buffer)) ∧
    (∀ crc differs high, r.phase = .dataCheck crc differs [high] →
      exec (.readBackByte c flux) s = .next (goes { r with
        phase := .ended (if crc16Bytes crc ≠ [high, read.2.1] then .dataCrc
          else if differs = true then .dataMismatch else .ok) } x.buffer))) ∧
  (∀ (c : Chan) (p : TrackPlan) (r : ReadSide) (j : Nat) (rest : List Nat) (result : SlotResult) (s : State),
    s.base.resetActive = false → (s.floor.chan c).state = .producing → (s.floor.chan c).phase = some .verify →
    (s.floor.chan c).attempt.plan = some p → (s.floor.chan c).attempt.read = some r → r.slots = j :: rest →
    r.phase = .ended result →
    ∃ t, exec (.verifySlotResult c) s = .next t ∧ t.base = s.base ∧ t.mem = s.mem ∧ t.pending = s.pending ∧
      (t.floor.chan c).attempt.results = (s.floor.chan c).attempt.results.set j
        (some (if (s.floor.chan c).attempt.pass = 2 ∧ result = .ok then .marginal else result)) ∧
      (t.floor.chan c).attempt.read.map ReadSide.slots = some rest ∧
      (t.floor.chan c).attempt.read.map ReadSide.phase = some .seekHeader ∧
      (t.floor.chan c).buffer = (s.floor.chan c).buffer.filter (fun v => decide (v.1 ≠ j)) ∧
      (t.floor.chan c).fetch = (s.floor.chan c).fetch.filter (fun i => decide (i.slot ≠ j)) ∧
      t.floor.burst = s.floor.burst.map (fun w => { w with live := w.live && decide (w.work ≠ .fetch c j) }) ∧
      (∀ d, d ≠ c → t.floor.chan d = s.floor.chan d) ∧ t.floor.jobs = s.floor.jobs ∧
      t.floor.ring = s.floor.ring ∧ t.floor.portA = s.floor.portA ∧ t.floor.portB = s.floor.portB)

/-! Results (chapter 8). -/

/-- A capture record filled from empty by any run of events holds the first hard event, or the first event when
none is hard, and its second error flag says that there was more than one; a disk's soft count is the number of
soft events up to 255 (R144, R145). -/
def Obligations.TheCaptureKeepsTheFirstHardEvent : Prop :=
  (∀ events : List CaptureEvent,
    let record := events.foldl Capture.take { held := none, second := false }
    record.held = (events.find? fun e => e.hard).or events.head? ∧
      record.second = decide (2 ≤ events.length)) ∧
  (∀ (b : Base) (j : Job), (newDisk b j).softCount = 0 ∧
    (newDisk b j).capture = { held := none, second := false }) ∧
  (∀ (k : Disk) (events : List (Bool × Cause × Option Byte)), k.softCount = 0 →
    (events.foldl (fun d e => Disk.takeEvent d e.1 e.2.1 e.2.2) k).softCount =
      min 255 (events.filter fun e => !e.1).length)

/-- What offering a record does. With room the ring takes it under the next sequence number; the job it is of
accounts it, returns its serial and is tested for its end; RESULTS_WAITING is posted and an evaluation is due; the
channel clears its disk, counts the fail streak, and goes to UNLOADING with its bin lines and RELEASE, or, its disk
pulled, to FAULT, LOADED or EMPTY (R83, R84, R90, R117 to R119, R150, R152, R153). Full and followed, the channel
waits and nothing else changes (R157). Full and unfollowed, the oldest record is displaced, a cursor at it moves
up, the dropped count rises with RESULTS_DROPPED, and the record is then taken (R154, R156). Only a FAIL can make
FAIL_STREAK pending (entry 9, DEDUCED). -/
def Obligations.TheRingTakesOrHoldsARecord : Prop :=
  (∀ (f : Floor) (c : Chan) (body : RecordBody), (f.chan c).record = some body →
    let x := f.chan c
    let t := f.offer c
    let taken : ResultRecord :=
      { sequence := f.ring.writePos, body := body, elapsed := (x.disk.map Disk.elapsed).getD 0 }
    let left := f.ring.waiters.filter fun d => decide (d ≠ c)
    let count := if body.outcome = .fail then min 255 (x.failCount + 1)
      else if body.outcome = .aborted then x.failCount else 0
    let fault := x.fault.or (if body.outcome = .fail ∧ x.settings.failStreakLimit ≠ 0 ∧
      x.settings.failStreakLimit ≤ count then some .failStreak else none)
    let bin : Bin := match body.outcome with
      | .pass => .accept | .passSoft => .accept | .fail => .reject | .aborted => .hold
    let cleared (state : ChannelState) (bin : Bin) : Channel := { x with
      state := state, failCount := count, fault := fault, bin := bin, disk := none, record := none }
    let d := f.drive c
    (f.ring.records.length < 64 →
      t.ring = { f.ring with
        records := f.ring.records ++ [taken], writePos := f.ring.writePos + 1, waiters := left } ∧
      t.evalDue = true ∧ t.offers = f.offers ∧ t.engine = f.engine ∧ t.line = f.line ∧
      (∀ e, ∀ p, e ∈ (t.port p).events ↔ e ∈ (f.port p).events ∨ e = .resultsWaiting ∨
        (e = .jobEnded ∧ ∃ j, f.job body.jobId = some j ∧ (j.account body.outcome body.serial).endsBy ≠ none) ∨
        (e = .driveFault ∧ x.removed = true ∧ fault ≠ none)) ∧
      (∀ p, (t.port p).resultCursor = (f.port p).resultCursor ∧ (t.port p).pending = (f.port p).pending) ∧
      ((f.jobs.map (·.id)).Nodup → t.jobs = f.jobs.map fun q =>
        if q.id = body.jobId then (q.account body.outcome body.serial).afterEndTest else q) ∧
      (∀ d, d ≠ c → t.chan d = f.chan d ∧ t.drive d = f.drive d) ∧
      (x.removed = false → t.waiting = f.waiting ∧ t.chan c = cleared .unloading bin ∧ t.drive c = { d with
        release := true, bin1 := decide (bin = .reject ∨ bin = .hold), bin0 := decide (bin = .accept ∨
          bin = .hold) }) ∧
      (x.removed = true → t.drive c = d ∧
        (fault ≠ none → t.waiting = f.waiting ∧ t.chan c = { cleared .fault .none with
          motor := false, dir := false, stepOut := false, side := false, wgate := false, wdata := none }) ∧
        (fault = none → d.seated = true → t.waiting = f.waiting ++ [c] ∧ t.chan c = cleared .loaded .none) ∧
        (fault = none → d.seated = false → t.waiting = f.waiting ∧ t.chan c = cleared .empty .none))) ∧
    (64 ≤ f.ring.records.length → (f.portA.follow = true ∨ f.portB.follow = true) →
      t = { f with ring := { f.ring with waiters := f.ring.waiters ++ [c] } }) ∧
    (f.ring.records.length = 64 → f.portA.follow = false → f.portB.follow = false → t = f.displace.offer c)) ∧
  (∀ (f : Floor) (oldest : ResultRecord) (rest : List ResultRecord), f.cursorLaw = true →
    f.ring.records = oldest :: rest → f.portA.follow = false → f.portB.follow = false →
    let moved (x : PortContext) : PortContext := { x with
      events := addEvent x.events .resultsDropped
      resultCursor := if x.resultCursor = oldest.sequence then oldest.sequence + 1 else x.resultCursor }
    f.displace = { f with
      ring := { f.ring with records := rest, dropped := min 65535 (f.ring.dropped + 1) }
      portA := moved f.portA, portB := moved f.portB })

/-! The handler (chapter 9). -/

/-- A raw SEATED edge loads the debounce timer or stops it, and the timer's expiry takes the raw level (R165). A
change reaches the channel by its state: a disk seated loads an EMPTY one; a disk gone empties a LOADED one, aborts
one in production with DISK_PULLED, marks one in POSTING, ends an UNLOADING one in EMPTY, or in FAULT with
DRIVE_FAULT when a fault is pending (R108, R115, R118, R120, R166). A change of LINE HOLD is taken once with
LINE_CHANGED, and its coming free is followed by an evaluation; SET LINE HOLD replies the level after that, and
refuses a value other than 00 and 01 with BAD_VALUE (R169 to R171). An edge to the level the input has and an
expiry before its time are no events (entry 1, DEDUCED). -/
def Obligations.TheHandlersLinesAreTaken : Prop :=
  (∀ (c : Chan) (level : Bool) (s : State), s.base.resetActive = false →
    let d := s.floor.drive c
    let x := s.floor.chan c
    let expiry := exec (.debounceTimerExpiry c) s
    let lines (seated : Bool) : Floor :=
      { s.floor with drives := s.floor.drives.set c.val { d with debounce := none, seated := seated } }
    let quietLines : DriveLines :=
      { d with debounce := none, seated := false, release := false, bin1 := false, bin0 := false }
    (d.rawSeated = level → exec (.seatedEdge c level) s = .next s) ∧
    (d.rawSeated ≠ level → exec (.seatedEdge c level) s =
      .next { s with floor := { s.floor with drives := s.floor.drives.set c.val { d with
        rawSeated := level, debounce := if level = d.seated then none else some 20000 } } }) ∧
    (d.debounce ≠ some 0 → expiry = .next s) ∧
    (d.debounce = some 0 → d.rawSeated = d.seated → expiry = .next { s with floor := lines d.seated }.settle) ∧
    (d.debounce = some 0 → d.rawSeated = true → d.seated = false →
      (x.state = .empty → expiry = .next { s with floor := { (lines true).setChan c { x with state := .loaded } with
        waiting := s.floor.waiting ++ [c], evalDue := true } }.settle) ∧
      (x.state ≠ .empty → expiry = .next { s with floor := lines true }.settle)) ∧
    (d.debounce = some 0 → d.rawSeated = false → d.seated = true →
      (x.state = .loaded → expiry = .next { s with floor := { (lines false).setChan c { x with state := .empty } with
        waiting := s.floor.waiting.filter fun q => decide (q ≠ c) } }.settle) ∧
      (x.state ∈ [.spinup, .recal, .producing, .paused] →
        expiry = .next { s with floor := (lines false).abortDisk c .diskPulled }.settle) ∧
      (x.state = .posting →
        expiry = .next { s with floor := (lines false).setChan c { x with removed := true } }.settle) ∧
      (x.state = .unloading → x.fault = none → expiry = .next { s with floor :=
        { s.floor.setChan c { x with state := .empty, bin := .none } with
          drives := s.floor.drives.set c.val quietLines } }.settle) ∧
      (x.state = .unloading → x.fault ≠ none →
        let faulted : Floor := { s.floor.setChan c { x with
            state := .fault, bin := .none, motor := false, dir := false, stepOut := false, side := false
            wgate := false, wdata := none } with
          drives := s.floor.drives.set c.val quietLines }
        expiry = .next { s with floor := faulted.post .driveFault }.settle) ∧
      (x.state ∈ [.disabled, .empty, .fault] → expiry = .next { s with floor := lines false }.settle))) ∧
  (∀ (pulls : Bool) (s : State), s.base.resetActive = false →
    exec (.lineHoldPinChange pulls) s =
      .next { s with floor := { s.floor with line := { s.floor.line with handler := pulls } } }.settle) ∧
  (∀ s : State, s.base.resetActive = false → s.quiet → s.floor.lineHeld = false →
    exec (.lineHoldPinChange true) s =
      .next { s with floor := { s.floor with
        line := { s.floor.line with handler := true, recorded := true } }.post .lineChanged }) ∧
  (∀ s : State, s.base.resetActive = false → s.quiet → s.floor.lineHeld = true → s.floor.partPulls = false →
    let freed : Floor := { s.floor with
      line := { s.floor.line with handler := false, recorded := false } }.post .lineChanged
    (freed.evaluate s.base).offers = [] →
    exec (.lineHoldPinChange false) s = .next { s with floor := freed.evaluate s.base }) ∧
  (∀ (p : PortId) (v : Bool) (s : State), s.ready p →
    let t := { s with floor := s.floor.setPort p { s.floor.port p with lineHold := v } }.settle
    exec (.setLineHold p [flagByte v]) s = .next (t.reply p [flagByte v, flagByte t.floor.lineHeld])) ∧
  (∀ (p : PortId) (s : State), s.ready p → s.quiet → s.floor.lineHeld = false →
    exec (.setLineHold p [1]) s =
      .next ({ s with floor := { s.floor.setPort p { s.floor.port p with lineHold := true } with
        line := { s.floor.line with recorded := true } }.post .lineChanged }.reply p [1, 1])) ∧
  (∀ (p : PortId) (s : State), s.ready p → s.quiet → s.floor.lineHeld = true →
    exec (.setLineHold p [1]) s =
      .next ({ s with floor := s.floor.setPort p { s.floor.port p with lineHold := true } }.reply p [1, 1])) ∧
  (∀ (p : PortId) (v : Byte) (s : State), s.ready p → v ≠ 0 → v ≠ 1 →
    exec (.setLineHold p [v]) s = .next (s.refuse p .badValue))

/-! The ports (chapter 10). -/

/-- A fetch window fixes its reply at its start, NO_REPLY while transferring or with none pending, and clears the
pending reply only when it clocked the reply out whole; a rejected frame's error becomes the reply, or is held like
any other frame while the port is transferring, four at most (R175, R177, R178). SDO carries the reply frame after
the code byte of a fetch window, and FF hex before it, after it and outside every fetch window (R174, R177). A
request that is carried out, or a refusal, replaces the pending reply (R176). -/
def Obligations.WindowsFetchAndFramesAreHeld : Prop :=
  (∀ (p : PortId) (s : State), s.base.resetActive = false →
     let x := s.floor.port p
     let one (y : PortContext) : State := { s with floor := s.floor.setPort p y }
     (∀ r, x.transfer = none → x.pending = some r →
       exec (.fetchStart p) s = .next (one { x with window := some { reply := r, pending := true } })) ∧
     ((x.transfer.isSome = true ∨ x.pending = none) → exec (.fetchStart p) s =
       .next (one { x with window := some { reply := { status := .noReply, payload := [] }, pending := false } })) ∧
     (∀ w clocks, x.window = some w →
       (w.pending = true → 8 * (3 + w.reply.payload.length) ≤ clocks →
         exec (.fetchWindowEnd p clocks) s = .next (one { x with window := none, pending := none })) ∧
       ((w.pending = false ∨ clocks < 8 * (3 + w.reply.payload.length)) →
         exec (.fetchWindowEnd p clocks) s = .next (one { x with window := none }))) ∧
     (∀ bits e, judge (windowBytes bits) = .error e →
       (x.transfer = none → exec (.frameRejected p bits) s = .next (s.refuse p (frameStatus e))) ∧
       (x.transfer.isSome = true → x.hold.length < 4 → exec (.frameRejected p bits) s =
         .next (one { x with hold := x.hold ++ [.error (frameStatus e)] })) ∧
       (x.transfer.isSome = true → 4 ≤ x.hold.length → exec (.frameRejected p bits) s = .next s)) ∧
     (∀ (i : Instr) r payload, i.wellFormed = true → i.frame? = some (r, p, payload) → r ≠ .portReset →
       x.transfer.isSome = true →
       (x.hold.length < 4 → exec i s = .next (one { x with hold := x.hold ++ [.request r payload] })) ∧
       (4 ≤ x.hold.length → exec i s = .next s))) ∧
  (∀ (x : PortContext) (k : Nat),
    (x.window = none → x.sdo k = 0xFF) ∧
    (∀ w, x.window = some w →
      x.sdo 0 = 0xFF ∧ x.sdo 1 = w.reply.status.code ∧ x.sdo 2 = byte w.reply.payload.length ∧
      (∀ v, w.reply.payload[k]? = some v → x.sdo (3 + k) = v) ∧
      (w.reply.payload.length ≤ k → x.sdo (3 + k) = 0xFF))) ∧
  (frameStatus .shortFrame = .shortFrame ∧ frameStatus .badLength = .badLength ∧
    frameStatus .unknownRequest = .unknownRequest) ∧
  (∀ (p : PortId) (s : State) (payload : List Byte) (e : Status),
    let shows (r : Reply) : State :=
      { s with floor := s.floor.setPort p { s.floor.port p with pending := some r } }
    s.reply p payload = shows { status := .ok, payload := payload } ∧
    s.refuse p e = shows { status := e, payload := [] } ∧ s.take p (.error e) = s.refuse p e ∧
    ∀ (i : Instr) r, i.wellFormed = true → i.frame? = some (r, p, payload) → s.ready p →
      exec i s = .next (s.take p (.request r payload)))

/-- The requests on a port's own context: READ EVENTS shows and empties the event set, SET EVENT MASK replaces the
mask by the kinds its payload's first byte counts, given by their codes in any order, and is refused with BAD_VALUE
for a count above 7 or a code of no kind (R183, R187); READ RESULT gives the record at the cursor and moves it, and
a follower's then frees the ring and serves the waiters (R155, R160, R182). SET RESULT FOLLOW sets the flag and
replies the cursor before the ring moves it up (R161; entry 34, DEDUCED), and a value other than 00 and 01 is
refused with BAD_VALUE (R161). PORT RESET puts the port back to its reset values with the cursor at the write
position of before the waiters are served, as R164 and R186 order it against a worked case (entry 33, DESIGN
CHOICE). ATTN is active exactly while the event set and the mask share a kind (R181). -/
def Obligations.PortRequestsActOnTheirPort : Prop :=
  (∀ (p : PortId) (s : State), s.ready p →
    let x := s.floor.port p
    let one (y : PortContext) : State := { s with floor := s.floor.setPort p y }
    exec (.readEvents p []) s =
      .next ((one { x with events := [] }).reply p (eventBytes x.events ++ eventBytes x.mask)) ∧
    (∀ payload set, payload.length = 8 → readEventSet payload = some set →
      exec (.setEventMask p payload) s =
        .next ((one { x with mask := set }).reply p (eventBytes set ++ eventBytes x.events))) ∧
    (∀ payload, payload.length = 8 → readEventSet payload = none →
      exec (.setEventMask p payload) s = .next (s.refuse p .badValue)) ∧
    ((∀ r ∈ s.floor.ring.records, r.sequence ≠ x.resultCursor) →
      exec (.readResult p []) s = .next (s.reply p [])) ∧
    (∀ front r back, s.floor.ring.records = front ++ r :: back → r.sequence = x.resultCursor →
      (∀ q ∈ front, q.sequence ≠ x.resultCursor) → x.follow = false →
      exec (.readResult p []) s =
        .next ((one { x with resultCursor := x.resultCursor + 1 }).reply p r.bytes)) ∧
    (∀ front r back, s.floor.ring.records = front ++ r :: back → r.sequence = x.resultCursor →
      (∀ q ∈ front, q.sequence ≠ x.resultCursor) → x.follow = true →
      let t := (one { x with resultCursor := x.resultCursor + 1 }).reply p r.bytes
      exec (.readResult p []) s = .next { t with floor := t.floor.serveRing }.settle) ∧
    (∀ v : Bool, ∃ t : State,
      t = (one { x with follow := v }).reply p (flagByte v :: be 4 x.resultCursor.toNat) ∧
      exec (.setResultFollow p [flagByte v]) s = .next { t with floor := t.floor.serveRing }.settle)) ∧
  (∀ (p : PortId) (s : State), s.base.resetActive = false →
    exec (.portReset p []) s = .next ({ s with floor :=
      ((s.floor.orphanBurst (BurstWork.isTransferOf p)).setPort p { PortContext.reset with
        resultCursor := s.floor.ring.writePos, window := (s.floor.port p).window }).serveRing }.reply p []).settle) ∧
  (∀ x : PortContext, x.attn = true ↔ ∃ e, e ∈ x.events ∧ e ∈ x.mask) ∧
  (∀ payload : List Byte,
    let count := (payload.getD 0 0).toNat
    let codes := (payload.drop 1).take count
    let code (e : EventKind) : Byte := match e with
      | .imageReady => 1 | .imageBad => 2 | .jobEnded => 3 | .resultsWaiting => 4 | .driveFault => 5
      | .lineChanged => 6 | .resultsDropped => 7
    (readEventSet payload = none ↔ 7 < count ∨ ∃ v ∈ codes, v = 0 ∨ 7 < v.toNat) ∧
    ∀ set, readEventSet payload = some set → set.Nodup ∧ ∀ e, e ∈ set ↔ code e ∈ codes) ∧
  (∀ (p : PortId) (work : BurstWork), work.isTransferOf p = true ↔ (∃ bytes, work = .write p bytes) ∨
    work = .read p) ∧
  (∀ (p : PortId) (v : Byte) (s : State), s.ready p → v ≠ 0 → v ≠ 1 →
    exec (.setResultFollow p [v]) s = .next (s.refuse p .badValue))
end

