-- ==== Sys2Proof/Laws/State.lean ====
section
/-! SUPPORT. One lemma for each field of each named update of the state, so that no proof unfolds a record
update. -/

namespace Sys2Proof.Machine

/-! Replies. -/

@[simp] theorem State.reply_pending (s : State) (p : PortId) (payload : List Byte) :
    (s.reply p payload).pending = s.pending := rfl

@[simp] theorem State.reply_mem (s : State) (p : PortId) (payload : List Byte) :
    (s.reply p payload).mem = s.mem := rfl

@[simp] theorem State.reply_base (s : State) (p : PortId) (payload : List Byte) :
    (s.reply p payload).base = s.base := rfl

@[simp] theorem State.refuse_pending (s : State) (p : PortId) (e : Status) :
    (s.refuse p e).pending = s.pending := rfl

@[simp] theorem State.refuse_mem (s : State) (p : PortId) (e : Status) :
    (s.refuse p e).mem = s.mem := rfl

@[simp] theorem State.refuse_base (s : State) (p : PortId) (e : Status) :
    (s.refuse p e).base = s.base := rfl

@[simp] theorem State.reply_floor (s : State) (p : PortId) (payload : List Byte) :
    (s.reply p payload).floor = s.floor.answer p { status := .ok, payload := payload } := rfl

@[simp] theorem State.refuse_floor (s : State) (p : PortId) (e : Status) :
    (s.refuse p e).floor = s.floor.answer p { status := e, payload := [] } := rfl

/-! Ports. -/

@[simp] theorem Floor.setPort_jobs (f : Floor) (p : PortId) (x : PortContext) :
    (f.setPort p x).jobs = f.jobs := by cases p <;> rfl

@[simp] theorem Floor.setPort_waiting (f : Floor) (p : PortId) (x : PortContext) :
    (f.setPort p x).waiting = f.waiting := by cases p <;> rfl

@[simp] theorem Floor.setPort_engine (f : Floor) (p : PortId) (x : PortContext) :
    (f.setPort p x).engine = f.engine := by cases p <;> rfl

@[simp] theorem Floor.setPort_channels (f : Floor) (p : PortId) (x : PortContext) :
    (f.setPort p x).channels = f.channels := by cases p <;> rfl

@[simp] theorem Floor.setPort_ring (f : Floor) (p : PortId) (x : PortContext) :
    (f.setPort p x).ring = f.ring := by cases p <;> rfl

@[simp] theorem Floor.setPort_drives (f : Floor) (p : PortId) (x : PortContext) :
    (f.setPort p x).drives = f.drives := by cases p <;> rfl

@[simp] theorem Floor.setPort_line (f : Floor) (p : PortId) (x : PortContext) :
    (f.setPort p x).line = f.line := by cases p <;> rfl

@[simp] theorem Floor.setPort_burst (f : Floor) (p : PortId) (x : PortContext) :
    (f.setPort p x).burst = f.burst := by cases p <;> rfl

@[simp] theorem Floor.setPort_evalDue (f : Floor) (p : PortId) (x : PortContext) :
    (f.setPort p x).evalDue = f.evalDue := by cases p <;> rfl

@[simp] theorem Floor.setPort_offers (f : Floor) (p : PortId) (x : PortContext) :
    (f.setPort p x).offers = f.offers := by cases p <;> rfl

@[simp] theorem Floor.setPort_freeDraws (f : Floor) (p : PortId) (x : PortContext) :
    (f.setPort p x).freeDraws = f.freeDraws := by cases p <;> rfl

@[simp] theorem Floor.port_setPort_same (f : Floor) (p : PortId) (x : PortContext) :
    (f.setPort p x).port p = x := by cases p <;> rfl

@[simp] theorem Floor.port_setPort_other (f : Floor) (p : PortId) (x : PortContext) :
    (f.setPort p x).port (otherPort p) = f.port (otherPort p) := by cases p <;> rfl

@[simp] theorem Floor.setPort_setPort (f : Floor) (p : PortId) (x y : PortContext) :
    (f.setPort p x).setPort p y = f.setPort p y := by cases p <;> rfl

@[simp] theorem Floor.setPort_port (f : Floor) (p : PortId) :
    f.setPort p (f.port p) = f := by cases p <;> rfl

@[simp] theorem Floor.answer_jobs (f : Floor) (p : PortId) (r : Reply) :
    (f.answer p r).jobs = f.jobs := by cases p <;> rfl

@[simp] theorem Floor.answer_waiting (f : Floor) (p : PortId) (r : Reply) :
    (f.answer p r).waiting = f.waiting := by cases p <;> rfl

@[simp] theorem Floor.answer_engine (f : Floor) (p : PortId) (r : Reply) :
    (f.answer p r).engine = f.engine := by cases p <;> rfl

@[simp] theorem Floor.answer_channels (f : Floor) (p : PortId) (r : Reply) :
    (f.answer p r).channels = f.channels := by cases p <;> rfl

@[simp] theorem Floor.answer_ring (f : Floor) (p : PortId) (r : Reply) :
    (f.answer p r).ring = f.ring := by cases p <;> rfl

@[simp] theorem Floor.answer_drives (f : Floor) (p : PortId) (r : Reply) :
    (f.answer p r).drives = f.drives := by cases p <;> rfl

@[simp] theorem Floor.answer_line (f : Floor) (p : PortId) (r : Reply) :
    (f.answer p r).line = f.line := by cases p <;> rfl

@[simp] theorem Floor.answer_burst (f : Floor) (p : PortId) (r : Reply) :
    (f.answer p r).burst = f.burst := by cases p <;> rfl

@[simp] theorem Floor.answer_evalDue (f : Floor) (p : PortId) (r : Reply) :
    (f.answer p r).evalDue = f.evalDue := by cases p <;> rfl

@[simp] theorem Floor.answer_offers (f : Floor) (p : PortId) (r : Reply) :
    (f.answer p r).offers = f.offers := by cases p <;> rfl

@[simp] theorem Floor.answer_freeDraws (f : Floor) (p : PortId) (r : Reply) :
    (f.answer p r).freeDraws = f.freeDraws := by cases p <;> rfl

@[simp] theorem Floor.answer_port_pending (f : Floor) (p : PortId) (r : Reply) :
    ((f.answer p r).port p).pending = some r := by cases p <;> rfl

@[simp] theorem Floor.answer_port_transfer (f : Floor) (p : PortId) (r : Reply) :
    ((f.answer p r).port p).transfer = (f.port p).transfer := by cases p <;> rfl

@[simp] theorem Floor.answer_port_hold (f : Floor) (p : PortId) (r : Reply) :
    ((f.answer p r).port p).hold = (f.port p).hold := by cases p <;> rfl

@[simp] theorem Floor.answer_port_events (f : Floor) (p : PortId) (r : Reply) :
    ((f.answer p r).port p).events = (f.port p).events := by cases p <;> rfl

@[simp] theorem Floor.answer_port_mask (f : Floor) (p : PortId) (r : Reply) :
    ((f.answer p r).port p).mask = (f.port p).mask := by cases p <;> rfl

@[simp] theorem Floor.answer_port_cursor (f : Floor) (p : PortId) (r : Reply) :
    ((f.answer p r).port p).cursor = (f.port p).cursor := by cases p <;> rfl

@[simp] theorem Floor.answer_port_resultCursor (f : Floor) (p : PortId) (r : Reply) :
    ((f.answer p r).port p).resultCursor = (f.port p).resultCursor := by cases p <;> rfl

@[simp] theorem Floor.answer_port_follow (f : Floor) (p : PortId) (r : Reply) :
    ((f.answer p r).port p).follow = (f.port p).follow := by cases p <;> rfl

@[simp] theorem Floor.answer_port_lineHold (f : Floor) (p : PortId) (r : Reply) :
    ((f.answer p r).port p).lineHold = (f.port p).lineHold := by cases p <;> rfl

@[simp] theorem Floor.answer_port_window (f : Floor) (p : PortId) (r : Reply) :
    ((f.answer p r).port p).window = (f.port p).window := by cases p <;> rfl

@[simp] theorem Floor.answer_otherPort (f : Floor) (p : PortId) (r : Reply) :
    (f.answer p r).port (otherPort p) = f.port (otherPort p) := by cases p <;> rfl

/-! Events. -/

@[simp] theorem Floor.post_jobs (f : Floor) (e : EventKind) :
    (f.post e).jobs = f.jobs := rfl

@[simp] theorem Floor.post_waiting (f : Floor) (e : EventKind) :
    (f.post e).waiting = f.waiting := rfl

@[simp] theorem Floor.post_engine (f : Floor) (e : EventKind) :
    (f.post e).engine = f.engine := rfl

@[simp] theorem Floor.post_channels (f : Floor) (e : EventKind) :
    (f.post e).channels = f.channels := rfl

@[simp] theorem Floor.post_ring (f : Floor) (e : EventKind) :
    (f.post e).ring = f.ring := rfl

@[simp] theorem Floor.post_drives (f : Floor) (e : EventKind) :
    (f.post e).drives = f.drives := rfl

@[simp] theorem Floor.post_line (f : Floor) (e : EventKind) :
    (f.post e).line = f.line := rfl

@[simp] theorem Floor.post_burst (f : Floor) (e : EventKind) :
    (f.post e).burst = f.burst := rfl

@[simp] theorem Floor.post_evalDue (f : Floor) (e : EventKind) :
    (f.post e).evalDue = f.evalDue := rfl

@[simp] theorem Floor.post_offers (f : Floor) (e : EventKind) :
    (f.post e).offers = f.offers := rfl

@[simp] theorem Floor.post_freeDraws (f : Floor) (e : EventKind) :
    (f.post e).freeDraws = f.freeDraws := rfl

@[simp] theorem Floor.post_port_pending (f : Floor) (e : EventKind) (p : PortId) :
    ((f.post e).port p).pending = (f.port p).pending := by cases p <;> rfl

@[simp] theorem Floor.post_port_transfer (f : Floor) (e : EventKind) (p : PortId) :
    ((f.post e).port p).transfer = (f.port p).transfer := by cases p <;> rfl

@[simp] theorem Floor.post_port_hold (f : Floor) (e : EventKind) (p : PortId) :
    ((f.post e).port p).hold = (f.port p).hold := by cases p <;> rfl

@[simp] theorem Floor.post_port_events (f : Floor) (e : EventKind) (p : PortId) :
    ((f.post e).port p).events = addEvent (f.port p).events e := by cases p <;> rfl

@[simp] theorem Floor.post_port_mask (f : Floor) (e : EventKind) (p : PortId) :
    ((f.post e).port p).mask = (f.port p).mask := by cases p <;> rfl

@[simp] theorem Floor.post_port_cursor (f : Floor) (e : EventKind) (p : PortId) :
    ((f.post e).port p).cursor = (f.port p).cursor := by cases p <;> rfl

@[simp] theorem Floor.post_port_resultCursor (f : Floor) (e : EventKind) (p : PortId) :
    ((f.post e).port p).resultCursor = (f.port p).resultCursor := by cases p <;> rfl

@[simp] theorem Floor.post_port_follow (f : Floor) (e : EventKind) (p : PortId) :
    ((f.post e).port p).follow = (f.port p).follow := by cases p <;> rfl

@[simp] theorem Floor.post_port_lineHold (f : Floor) (e : EventKind) (p : PortId) :
    ((f.post e).port p).lineHold = (f.port p).lineHold := by cases p <;> rfl

@[simp] theorem Floor.post_port_window (f : Floor) (e : EventKind) (p : PortId) :
    ((f.post e).port p).window = (f.port p).window := by cases p <;> rfl

/-! Channels and handler lines. -/

@[simp] theorem Floor.setChan_jobs (f : Floor) (c : Chan) (x : Channel) :
    (f.setChan c x).jobs = f.jobs := rfl

@[simp] theorem Floor.modChan_jobs (f : Floor) (c : Chan) (g : Channel → Channel) :
    (f.modChan c g).jobs = f.jobs := rfl

@[simp] theorem Floor.setChan_waiting (f : Floor) (c : Chan) (x : Channel) :
    (f.setChan c x).waiting = f.waiting := rfl

@[simp] theorem Floor.modChan_waiting (f : Floor) (c : Chan) (g : Channel → Channel) :
    (f.modChan c g).waiting = f.waiting := rfl

@[simp] theorem Floor.setChan_engine (f : Floor) (c : Chan) (x : Channel) :
    (f.setChan c x).engine = f.engine := rfl

@[simp] theorem Floor.modChan_engine (f : Floor) (c : Chan) (g : Channel → Channel) :
    (f.modChan c g).engine = f.engine := rfl

@[simp] theorem Floor.setChan_ring (f : Floor) (c : Chan) (x : Channel) :
    (f.setChan c x).ring = f.ring := rfl

@[simp] theorem Floor.modChan_ring (f : Floor) (c : Chan) (g : Channel → Channel) :
    (f.modChan c g).ring = f.ring := rfl

@[simp] theorem Floor.setChan_drives (f : Floor) (c : Chan) (x : Channel) :
    (f.setChan c x).drives = f.drives := rfl

@[simp] theorem Floor.modChan_drives (f : Floor) (c : Chan) (g : Channel → Channel) :
    (f.modChan c g).drives = f.drives := rfl

@[simp] theorem Floor.setChan_line (f : Floor) (c : Chan) (x : Channel) :
    (f.setChan c x).line = f.line := rfl

@[simp] theorem Floor.modChan_line (f : Floor) (c : Chan) (g : Channel → Channel) :
    (f.modChan c g).line = f.line := rfl

@[simp] theorem Floor.setChan_burst (f : Floor) (c : Chan) (x : Channel) :
    (f.setChan c x).burst = f.burst := rfl

@[simp] theorem Floor.modChan_burst (f : Floor) (c : Chan) (g : Channel → Channel) :
    (f.modChan c g).burst = f.burst := rfl

@[simp] theorem Floor.setChan_evalDue (f : Floor) (c : Chan) (x : Channel) :
    (f.setChan c x).evalDue = f.evalDue := rfl

@[simp] theorem Floor.modChan_evalDue (f : Floor) (c : Chan) (g : Channel → Channel) :
    (f.modChan c g).evalDue = f.evalDue := rfl

@[simp] theorem Floor.setChan_offers (f : Floor) (c : Chan) (x : Channel) :
    (f.setChan c x).offers = f.offers := rfl

@[simp] theorem Floor.modChan_offers (f : Floor) (c : Chan) (g : Channel → Channel) :
    (f.modChan c g).offers = f.offers := rfl

@[simp] theorem Floor.setChan_freeDraws (f : Floor) (c : Chan) (x : Channel) :
    (f.setChan c x).freeDraws = f.freeDraws := rfl

@[simp] theorem Floor.modChan_freeDraws (f : Floor) (c : Chan) (g : Channel → Channel) :
    (f.modChan c g).freeDraws = f.freeDraws := rfl

@[simp] theorem Floor.setChan_portA (f : Floor) (c : Chan) (x : Channel) :
    (f.setChan c x).portA = f.portA := rfl

@[simp] theorem Floor.modChan_portA (f : Floor) (c : Chan) (g : Channel → Channel) :
    (f.modChan c g).portA = f.portA := rfl

@[simp] theorem Floor.setChan_portB (f : Floor) (c : Chan) (x : Channel) :
    (f.setChan c x).portB = f.portB := rfl

@[simp] theorem Floor.modChan_portB (f : Floor) (c : Chan) (g : Channel → Channel) :
    (f.modChan c g).portB = f.portB := rfl

@[simp] theorem Floor.modDrive_jobs (f : Floor) (c : Chan) (g : DriveLines → DriveLines) :
    (f.modDrive c g).jobs = f.jobs := rfl

@[simp] theorem Floor.modDrive_waiting (f : Floor) (c : Chan) (g : DriveLines → DriveLines) :
    (f.modDrive c g).waiting = f.waiting := rfl

@[simp] theorem Floor.modDrive_engine (f : Floor) (c : Chan) (g : DriveLines → DriveLines) :
    (f.modDrive c g).engine = f.engine := rfl

@[simp] theorem Floor.modDrive_channels (f : Floor) (c : Chan) (g : DriveLines → DriveLines) :
    (f.modDrive c g).channels = f.channels := rfl

@[simp] theorem Floor.modDrive_ring (f : Floor) (c : Chan) (g : DriveLines → DriveLines) :
    (f.modDrive c g).ring = f.ring := rfl

@[simp] theorem Floor.modDrive_line (f : Floor) (c : Chan) (g : DriveLines → DriveLines) :
    (f.modDrive c g).line = f.line := rfl

@[simp] theorem Floor.modDrive_burst (f : Floor) (c : Chan) (g : DriveLines → DriveLines) :
    (f.modDrive c g).burst = f.burst := rfl

@[simp] theorem Floor.modDrive_evalDue (f : Floor) (c : Chan) (g : DriveLines → DriveLines) :
    (f.modDrive c g).evalDue = f.evalDue := rfl

@[simp] theorem Floor.modDrive_offers (f : Floor) (c : Chan) (g : DriveLines → DriveLines) :
    (f.modDrive c g).offers = f.offers := rfl

@[simp] theorem Floor.modDrive_freeDraws (f : Floor) (c : Chan) (g : DriveLines → DriveLines) :
    (f.modDrive c g).freeDraws = f.freeDraws := rfl

@[simp] theorem Floor.modDrive_portA (f : Floor) (c : Chan) (g : DriveLines → DriveLines) :
    (f.modDrive c g).portA = f.portA := rfl

@[simp] theorem Floor.modDrive_portB (f : Floor) (c : Chan) (g : DriveLines → DriveLines) :
    (f.modDrive c g).portB = f.portB := rfl

/-! Formats and images. -/

@[simp] theorem Base.setFormat_timebase (b : Base) (f : FormatId) (d : Option Descriptor) :
    (b.setFormat f d).timebase = b.timebase := rfl

@[simp] theorem Base.setFormat_resetCause (b : Base) (f : FormatId) (d : Option Descriptor) :
    (b.setFormat f d).resetCause = b.resetCause := rfl

@[simp] theorem Base.setFormat_resetCount (b : Base) (f : FormatId) (d : Option Descriptor) :
    (b.setFormat f d).resetCount = b.resetCount := rfl

@[simp] theorem Base.setFormat_resetActive (b : Base) (f : FormatId) (d : Option Descriptor) :
    (b.setFormat f d).resetActive = b.resetActive := rfl

@[simp] theorem Base.setFormat_trk0 (b : Base) (f : FormatId) (d : Option Descriptor) :
    (b.setFormat f d).trk0 = b.trk0 := rfl

@[simp] theorem Base.setFormat_wprot (b : Base) (f : FormatId) (d : Option Descriptor) :
    (b.setFormat f d).wprot = b.wprot := rfl

@[simp] theorem Base.setFormat_store (b : Base) (f : FormatId) (d : Option Descriptor) :
    (b.setFormat f d).store = b.store := rfl

@[simp] theorem Base.setFormat_images (b : Base) (f : FormatId) (d : Option Descriptor) :
    (b.setFormat f d).images = b.images := rfl

@[simp] theorem Base.setFormat_checkList (b : Base) (f : FormatId) (d : Option Descriptor) :
    (b.setFormat f d).checkList = b.checkList := rfl

@[simp] theorem Base.setFormat_check (b : Base) (f : FormatId) (d : Option Descriptor) :
    (b.setFormat f d).check = b.check := rfl

@[simp] theorem Base.setImage_timebase (b : Base) (k : SlotId) (x : ImageSlot) :
    (b.setImage k x).timebase = b.timebase := rfl

@[simp] theorem Base.modImage_timebase (b : Base) (k : SlotId) (g : ImageSlot → ImageSlot) :
    (b.modImage k g).timebase = b.timebase := rfl

@[simp] theorem Base.setImage_resetCause (b : Base) (k : SlotId) (x : ImageSlot) :
    (b.setImage k x).resetCause = b.resetCause := rfl

@[simp] theorem Base.modImage_resetCause (b : Base) (k : SlotId) (g : ImageSlot → ImageSlot) :
    (b.modImage k g).resetCause = b.resetCause := rfl

@[simp] theorem Base.setImage_resetCount (b : Base) (k : SlotId) (x : ImageSlot) :
    (b.setImage k x).resetCount = b.resetCount := rfl

@[simp] theorem Base.modImage_resetCount (b : Base) (k : SlotId) (g : ImageSlot → ImageSlot) :
    (b.modImage k g).resetCount = b.resetCount := rfl

@[simp] theorem Base.setImage_resetActive (b : Base) (k : SlotId) (x : ImageSlot) :
    (b.setImage k x).resetActive = b.resetActive := rfl

@[simp] theorem Base.modImage_resetActive (b : Base) (k : SlotId) (g : ImageSlot → ImageSlot) :
    (b.modImage k g).resetActive = b.resetActive := rfl

@[simp] theorem Base.setImage_trk0 (b : Base) (k : SlotId) (x : ImageSlot) :
    (b.setImage k x).trk0 = b.trk0 := rfl

@[simp] theorem Base.modImage_trk0 (b : Base) (k : SlotId) (g : ImageSlot → ImageSlot) :
    (b.modImage k g).trk0 = b.trk0 := rfl

@[simp] theorem Base.setImage_wprot (b : Base) (k : SlotId) (x : ImageSlot) :
    (b.setImage k x).wprot = b.wprot := rfl

@[simp] theorem Base.modImage_wprot (b : Base) (k : SlotId) (g : ImageSlot → ImageSlot) :
    (b.modImage k g).wprot = b.wprot := rfl

@[simp] theorem Base.setImage_formats (b : Base) (k : SlotId) (x : ImageSlot) :
    (b.setImage k x).formats = b.formats := rfl

@[simp] theorem Base.modImage_formats (b : Base) (k : SlotId) (g : ImageSlot → ImageSlot) :
    (b.modImage k g).formats = b.formats := rfl

@[simp] theorem Base.setImage_store (b : Base) (k : SlotId) (x : ImageSlot) :
    (b.setImage k x).store = b.store := rfl

@[simp] theorem Base.modImage_store (b : Base) (k : SlotId) (g : ImageSlot → ImageSlot) :
    (b.modImage k g).store = b.store := rfl

@[simp] theorem Base.setImage_checkList (b : Base) (k : SlotId) (x : ImageSlot) :
    (b.setImage k x).checkList = b.checkList := rfl

@[simp] theorem Base.modImage_checkList (b : Base) (k : SlotId) (g : ImageSlot → ImageSlot) :
    (b.modImage k g).checkList = b.checkList := rfl

@[simp] theorem Base.setImage_check (b : Base) (k : SlotId) (x : ImageSlot) :
    (b.setImage k x).check = b.check := rfl

@[simp] theorem Base.modImage_check (b : Base) (k : SlotId) (g : ImageSlot → ImageSlot) :
    (b.modImage k g).check = b.check := rfl

/-! What a step makes due. -/

@[simp] theorem State.settle_pending (s : State) :
    s.settle.pending = s.pending := rfl

@[simp] theorem State.settle_mem (s : State) :
    s.settle.mem = s.mem := rfl

@[simp] theorem State.settle_base (s : State) :
    s.settle.base = s.base := rfl

@[simp] theorem State.settle_floor (s : State) :
    s.settle.floor = s.floor.settle s.base := rfl

/-! Transfers, jobs, deletions. -/

@[simp] theorem State.startTransfer_pending (s : State) (p : PortId) (t : Transfer) :
    (s.startTransfer p t).pending = s.pending := rfl

@[simp] theorem State.startTransfer_mem (s : State) (p : PortId) (t : Transfer) :
    (s.startTransfer p t).mem = s.mem := rfl

@[simp] theorem State.startTransfer_base (s : State) (p : PortId) (t : Transfer) :
    (s.startTransfer p t).base = s.base := rfl

@[simp] theorem State.countWrite_pending (s : State) (p : PortId) (cur : DataCursor) (m kept : Nat) :
    (s.countWrite p cur m kept).pending = s.pending := rfl

@[simp] theorem State.addJob_pending (s : State) (j : Job) :
    (s.addJob j).pending = s.pending := rfl

@[simp] theorem State.abandon_pending (s : State) (slot : SlotId) :
    (s.abandon slot).pending = s.pending := rfl

@[simp] theorem State.finishCheck_pending (s : State) (slot : SlotId) (crc : Word32) :
    (s.finishCheck slot crc).pending = s.pending := rfl

@[simp] theorem State.tick_pending (s : State) :
    s.tick.pending = s.pending := rfl

@[simp] theorem State.countWrite_mem (s : State) (p : PortId) (cur : DataCursor) (m kept : Nat) :
    (s.countWrite p cur m kept).mem = s.mem := rfl

@[simp] theorem State.addJob_mem (s : State) (j : Job) :
    (s.addJob j).mem = s.mem := rfl

@[simp] theorem State.abandon_mem (s : State) (slot : SlotId) :
    (s.abandon slot).mem = s.mem := rfl

@[simp] theorem State.finishCheck_mem (s : State) (slot : SlotId) (crc : Word32) :
    (s.finishCheck slot crc).mem = s.mem := rfl

@[simp] theorem State.tick_mem (s : State) :
    s.tick.mem = s.mem := rfl

@[simp] theorem State.tick_base_resetCause (s : State) :
    s.tick.base.resetCause = s.base.resetCause := rfl

@[simp] theorem State.tick_base_resetCount (s : State) :
    s.tick.base.resetCount = s.base.resetCount := rfl

@[simp] theorem State.tick_base_resetActive (s : State) :
    s.tick.base.resetActive = s.base.resetActive := rfl

@[simp] theorem State.tick_base_trk0 (s : State) :
    s.tick.base.trk0 = s.base.trk0 := rfl

@[simp] theorem State.tick_base_wprot (s : State) :
    s.tick.base.wprot = s.base.wprot := rfl

@[simp] theorem State.tick_base_formats (s : State) :
    s.tick.base.formats = s.base.formats := rfl

@[simp] theorem State.tick_base_images (s : State) :
    s.tick.base.images = s.base.images := rfl

@[simp] theorem State.tick_base_checkList (s : State) :
    s.tick.base.checkList = s.base.checkList := rfl

@[simp] theorem State.tick_base_check (s : State) :
    s.tick.base.check = s.base.check := rfl

@[simp] theorem State.tick_floor_jobs (s : State) :
    s.tick.floor.jobs = s.floor.jobs := rfl

@[simp] theorem State.tick_floor_waiting (s : State) :
    s.tick.floor.waiting = s.floor.waiting := rfl

@[simp] theorem State.tick_floor_engine (s : State) :
    s.tick.floor.engine = s.floor.engine := rfl

@[simp] theorem State.tick_floor_ring (s : State) :
    s.tick.floor.ring = s.floor.ring := rfl

@[simp] theorem State.tick_floor_line (s : State) :
    s.tick.floor.line = s.floor.line := rfl

@[simp] theorem State.tick_floor_burst (s : State) :
    s.tick.floor.burst = s.floor.burst := rfl

@[simp] theorem State.tick_floor_evalDue (s : State) :
    s.tick.floor.evalDue = s.floor.evalDue := rfl

@[simp] theorem State.tick_floor_offers (s : State) :
    s.tick.floor.offers = s.floor.offers := rfl

@[simp] theorem State.tick_floor_freeDraws (s : State) :
    s.tick.floor.freeDraws = s.floor.freeDraws := rfl

@[simp] theorem State.tick_floor_portA (s : State) :
    s.tick.floor.portA = s.floor.portA := rfl

@[simp] theorem State.tick_floor_portB (s : State) :
    s.tick.floor.portB = s.floor.portB := rfl

/-! Resets. -/

@[simp] theorem State.powerOn_pending (s : State) (pins : PinLevels) :
    (s.powerOn pins).pending = s.pending := rfl

@[simp] theorem State.powerOn_mem (s : State) (pins : PinLevels) :
    (s.powerOn pins).mem = [] := rfl

@[simp] theorem State.assertReset_pending (s : State) :
    s.assertReset.pending = s.pending := rfl

@[simp] theorem State.releaseReset_pending (s : State) (size1 size0 : Bool) :
    (s.releaseReset size1 size0).pending = s.pending := rfl

@[simp] theorem State.assertReset_mem (s : State) :
    s.assertReset.mem = s.mem := rfl

@[simp] theorem State.releaseReset_mem (s : State) (size1 size0 : Bool) :
    (s.releaseReset size1 size0).mem = s.mem := rfl

@[simp] theorem Floor.endReset_jobs (f : Floor) :
    f.endReset.jobs = f.jobs := rfl

@[simp] theorem Floor.endReset_waiting (f : Floor) :
    f.endReset.waiting = f.waiting := rfl

@[simp] theorem Floor.endReset_engine (f : Floor) :
    f.endReset.engine = f.engine := rfl

@[simp] theorem Floor.endReset_channels (f : Floor) :
    f.endReset.channels = f.channels := rfl

@[simp] theorem Floor.endReset_ring (f : Floor) :
    f.endReset.ring = f.ring := rfl

@[simp] theorem Floor.endReset_burst (f : Floor) :
    f.endReset.burst = f.burst := rfl

@[simp] theorem Floor.endReset_evalDue (f : Floor) :
    f.endReset.evalDue = f.evalDue := rfl

@[simp] theorem Floor.endReset_offers (f : Floor) :
    f.endReset.offers = f.offers := rfl

@[simp] theorem Floor.endReset_freeDraws (f : Floor) :
    f.endReset.freeDraws = f.freeDraws := rfl

@[simp] theorem Floor.endReset_portA (f : Floor) :
    f.endReset.portA = f.portA := rfl

@[simp] theorem Floor.endReset_portB (f : Floor) :
    f.endReset.portB = f.portB := rfl

end Sys2Proof.Machine
end

