-- ==== Sys2Proof/Laws/Machine.lean ====
section
/-! SUPPORT. What the shared operations can do, said once each: reading back what was set, requests as they come,
events of one channel, and induction over what a step makes due and over a hold list. -/

namespace Sys2Proof.Machine

/-! Reading back what was set. -/

@[simp] theorem Floor.chan_setChan_same (f : Floor) (c : Chan) (x : Channel) : (f.setChan c x).chan c = x := by
  simp [Floor.chan, Floor.setChan]

theorem Floor.chan_setChan_other (f : Floor) (c d : Chan) (x : Channel) (h : d ≠ c) :
    (f.setChan c x).chan d = f.chan d := by
  have : c.val ≠ d.val := fun e => h (Fin.ext e.symm)
  simp [Floor.chan, Floor.setChan, this]

@[simp] theorem Floor.chan_modChan_same (f : Floor) (c : Chan) (g : Channel → Channel) :
    (f.modChan c g).chan c = g (f.chan c) := by
  simp [Floor.modChan]

theorem Floor.chan_modChan_other (f : Floor) (c d : Chan) (g : Channel → Channel) (h : d ≠ c) :
    (f.modChan c g).chan d = f.chan d := by
  simp [Floor.modChan, Floor.chan_setChan_other f c d _ h]

@[simp] theorem Floor.drive_modDrive_same (f : Floor) (c : Chan) (g : DriveLines → DriveLines) :
    (f.modDrive c g).drive c = g (f.drive c) := by
  simp [Floor.drive, Floor.modDrive]

theorem Floor.drive_modDrive_other (f : Floor) (c d : Chan) (g : DriveLines → DriveLines) (h : d ≠ c) :
    (f.modDrive c g).drive d = f.drive d := by
  have : c.val ≠ d.val := fun e => h (Fin.ext e.symm)
  simp [Floor.drive, Floor.modDrive, this]

@[simp] theorem Base.format_setFormat_same (b : Base) (f : FormatId) (d : Option Descriptor) :
    (b.setFormat f d).format f = d := by
  simp [Base.format, Base.setFormat]

theorem Base.format_setFormat_other (b : Base) (f g : FormatId) (d : Option Descriptor) (h : g ≠ f) :
    (b.setFormat f d).format g = b.format g := by
  have : f.val ≠ g.val := fun e => h (Fin.ext e.symm)
  simp [Base.format, Base.setFormat, this]

@[simp] theorem Base.image_setImage_same (b : Base) (k : SlotId) (x : ImageSlot) :
    (b.setImage k x).image k = x := by
  simp [Base.image, Base.setImage]

theorem Base.image_setImage_other (b : Base) (k l : SlotId) (x : ImageSlot) (h : l ≠ k) :
    (b.setImage k x).image l = b.image l := by
  have : k.val ≠ l.val := fun e => h (Fin.ext e.symm)
  simp [Base.image, Base.setImage, this]

@[simp] theorem Base.image_modImage_same (b : Base) (k : SlotId) (g : ImageSlot → ImageSlot) :
    (b.modImage k g).image k = g (b.image k) := by
  simp [Base.modImage]

theorem Base.image_modImage_other (b : Base) (k l : SlotId) (g : ImageSlot → ImageSlot) (h : l ≠ k) :
    (b.modImage k g).image l = b.image l := by
  simp [Base.modImage, Base.image_setImage_other b k l _ h]

/-- `map8` applies its function at every place. -/
@[simp] theorem map8_get {α β : Type} (g : α → β) (v : Vector α 8) (c : Nat) (h : c < 8) :
    (map8 g v)[c] = g v[c] := by
  have : c = 0 ∨ c = 1 ∨ c = 2 ∨ c = 3 ∨ c = 4 ∨ c = 5 ∨ c = 6 ∨ c = 7 := by omega
  rcases this with h | h | h | h | h | h | h | h <;> subst h <;> rfl

/-! Numbers in frames. -/

@[simp] theorem be_length (n v : Nat) : (be n v).length = n := by
  induction n with
  | zero => rfl
  | succ n ih => simp [be, ih]

theorem be_foldl (n v acc : Nat) :
    (be n v).foldl (fun (a : Nat) (b : Byte) => a * 256 + b.toNat) acc = acc * 256 ^ n + v % 256 ^ n := by
  induction n generalizing acc with
  | zero => simp [be, Nat.mod_one]
  | succ n ih =>
    simp only [be, List.foldl_cons, ih, BitVec.toNat_ofNat]
    have h := Nat.mod_mul (a := 256 ^ n) (b := 256) (x := v)
    rw [show 256 ^ (n + 1) = 256 ^ n * 256 from rfl, h]
    ring

/-- A number written as bytes anywhere in a payload is read back there, modulo what its bytes hold (R187). -/
theorem num_be (front back : List Byte) (n v : Nat) : num (front ++ be n v ++ back) front.length n = v % 256 ^ n := by
  have taken : ((front ++ be n v ++ back).drop front.length).take n = be n v := by
    rw [List.append_assoc, List.drop_left]
    exact List.take_left' (be_length n v)
  rw [num, taken, be_foldl]
  omega

theorem finOf?_val (n : Nat) (i : Fin n) : finOf? n i.val = some i := by
  simp [finOf?]

/-! Requests as they come. -/

/-- A well-formed request that comes to a ready port is carried out. -/
theorem State.station_ready (s : State) (r : Request) (p : PortId) (payload : List Byte) (h : s.ready p)
    (hlen : r.admits payload.length = true) (hmax : payload.length ≤ 250) :
    s.station r p payload = perform r p payload s := by
  have hr : s.base.resetActive = false := h.1
  have ht : s.transferring p = false := by simp [State.transferring, h.2]
  have hh : heldFrame r payload = .request r payload := by simp [heldFrame, hlen, hmax]
  unfold State.station
  rw [hr, hh]
  unfold State.receive
  cases r <;> simp [ht, State.take]

/-- No payload length that R188 admits is above 250. -/
theorem Request.admits_le (r : Request) (len : Nat) (h : r.admits len = true) : len ≤ 250 := by
  cases r <;> simp [Request.admits] at h <;> omega

/-- PORT RESET comes even while the port is transferring. -/
theorem State.station_portReset (s : State) (p : PortId) (h : s.base.resetActive = false) :
    s.station .portReset p [] = doPortReset p [] s := by
  unfold State.station
  rw [h]
  rfl

/-! Events of one channel. -/

@[simp] theorem State.taken_pending (s : State) (g : State → State) (h : (g s).pending = s.pending) :
    (s.taken g).pending = s.pending := by
  unfold State.taken; split <;> simp_all

@[simp] theorem State.channelEvent_pending (s : State) (o : Bool) (g : Base → Floor → Floor) :
    (s.channelEvent o g).pending = s.pending := by
  unfold State.channelEvent State.taken; split <;> try split
  all_goals rfl

@[simp] theorem State.channelEvent_mem (s : State) (o : Bool) (g : Base → Floor → Floor) :
    (s.channelEvent o g).mem = s.mem := by
  unfold State.channelEvent State.taken; split <;> try split
  all_goals rfl

@[simp] theorem State.channelEvent_base (s : State) (o : Bool) (g : Base → Floor → Floor) :
    (s.channelEvent o g).base = s.base := by
  unfold State.channelEvent State.taken; split <;> try split
  all_goals rfl

/-! Induction over what a step makes due. -/

theorem Floor.settleLoop_induction {P : Floor → Prop} {b : Base} (line : ∀ f, P f → P f.updateLine)
    (one : ∀ f, P f → P (f.settleOne b)) (n : Nat) (f : Floor) (h : P f) : P (Floor.settleLoop b n f) := by
  induction n generalizing f with
  | zero => exact line f h
  | succ n ih =>
    simp only [Floor.settleLoop]
    split
    · exact ih _ (one _ (line f h))
    · exact line f h

/-- What holds of a floor, and is kept by the line's update and by each thing that is due, holds once the step is
settled. -/
theorem Floor.settle_induction {P : Floor → Prop} {b : Base} (line : ∀ f, P f → P f.updateLine)
    (one : ∀ f, P f → P (f.settleOne b)) (f : Floor) (h : P f) : P (f.settle b) :=
  Floor.settleLoop_induction line one 64 f h

/-- However much is due, settling ends with an update of the line. -/
theorem Floor.settle_ends_with_updateLine (b : Base) (f : Floor) : ∃ g : Floor, f.settle b = g.updateLine := by
  suffices ∀ n f, ∃ g : Floor, Floor.settleLoop b n f = g.updateLine from this 64 f
  intro n
  induction n with
  | zero => exact fun f => ⟨f, rfl⟩
  | succ n ih =>
    intro f
    simp only [Floor.settleLoop]
    split
    · exact ih _
    · exact ⟨f, rfl⟩

/-- What holds of a state, and is kept by taking a frame off a hold list, holds once the list is drained. -/
theorem State.drain_induction {P : State → Prop} (p : PortId)
    (one : ∀ s h rest, P s → (s.floor.port p).hold = h :: rest → s.transferring p = false →
      P ({ s with floor := s.floor.setPort p { s.floor.port p with hold := rest } }.take p h))
    (n : Nat) (s : State) (h : P s) : P (State.drain p n s) := by
  induction n generalizing s with
  | zero => exact h
  | succ n ih =>
    unfold State.drain
    split
    · exact h
    · next ht =>
      split
      · exact h
      · next x rest hx => exact ih _ (one s x rest h hx (by simpa using ht))

/-- A hold list is left alone where no transfer ended. -/
theorem State.drainEnded_same (s t : State) (p : PortId) (h : s.transferring p = t.transferring p) :
    s.drainEnded t p = t := by
  unfold State.drainEnded; rw [h]; cases t.transferring p <;> rfl

/-- Where no transfer ended, nothing is drained. -/
theorem State.drainHolds_same (s t : State) (h : ∀ p, s.transferring p = t.transferring p) :
    s.drainHolds t = t := by
  unfold State.drainHolds
  rw [State.drainEnded_same s t .a (h .a), State.drainEnded_same s t .b (h .b)]

/-! The line. -/

/-- After its update the recorded level is the level, and the internal contribution follows the waiter list. -/
theorem Floor.updateLine_spec (f : Floor) :
    f.updateLine.line.recorded = f.updateLine.lineHeld ∧
      f.updateLine.line.internal = !f.updateLine.ring.waiters.isEmpty := by
  unfold Floor.updateLine
  simp only
  split
  · next h => exact ⟨h.symm, rfl⟩
  · split <;> simp [Floor.lineHeld, Floor.partPulls, Floor.post]

@[simp] theorem Floor.updateLine_ring (f : Floor) : f.updateLine.ring = f.ring := by
  unfold Floor.updateLine; simp only; split <;> try split
  all_goals rfl

@[simp] theorem Floor.updateLine_channels (f : Floor) : f.updateLine.channels = f.channels := by
  unfold Floor.updateLine; simp only; split <;> try split
  all_goals rfl

@[simp] theorem Floor.updateLine_jobs (f : Floor) : f.updateLine.jobs = f.jobs := by
  unfold Floor.updateLine; simp only; split <;> try split
  all_goals rfl

end Sys2Proof.Machine
end

