-- ==== Sys2Proof/Laws/Memory.lean ====
section
/-! SUPPORT. The DRAM: every memory operation keeps the canonical form, a read gives the last byte written, and a
write leaves every other address alone. -/

namespace Sys2Proof.Machine

theorem Memory.wfFrom_mono {low high : Nat} {mem : List Host.Cell} (h : Memory.wfFrom high mem = true)
    (hle : low ≤ high) : Memory.wfFrom low mem = true := by
  cases mem with
  | nil => rfl
  | cons cell rest =>
    obtain ⟨k, v⟩ := cell
    simp only [Memory.wfFrom, Bool.and_eq_true, decide_eq_true_eq] at h ⊢
    exact ⟨⟨le_trans hle h.1.1, h.1.2⟩, h.2⟩

/-- Writing one byte keeps the canonical form from any bound not above the address. -/
theorem Memory.wfFrom_write {low a : Nat} {mem : List Host.Cell} (v : Byte)
    (h : Memory.wfFrom low mem = true) (hlow : low ≤ a) : Memory.wfFrom low (Memory.write mem a v) = true := by
  induction mem generalizing low with
  | nil =>
    simp only [Memory.write]
    split <;> simp_all [Memory.wfFrom]
  | cons cell rest ih =>
    obtain ⟨k, w⟩ := cell
    simp only [Memory.wfFrom, Bool.and_eq_true, decide_eq_true_eq] at h
    simp only [Memory.write]
    split
    · split <;> simp_all [Memory.wfFrom]
    · split
      · next hlt heq =>
        split
        · exact Memory.wfFrom_mono h.2 (by omega)
        · subst heq; simp_all [Memory.wfFrom]
      · next hlt hne =>
        simp only [Memory.wfFrom, Bool.and_eq_true, decide_eq_true_eq]
        exact ⟨h.1, ih h.2 (by omega)⟩

/-- Writing one byte keeps the canonical form. -/
theorem Memory.wf_write {mem : List Host.Cell} (a : Nat) (v : Byte) (h : Memory.wf mem = true) :
    Memory.wf (Memory.write mem a v) = true :=
  Memory.wfFrom_write v h (Nat.zero_le a)

/-- Writing bytes keeps the canonical form. -/
theorem Memory.wf_writeBytes {mem : List Host.Cell} (a : Nat) (bytes : List Byte) (h : Memory.wf mem = true) :
    Memory.wf (Memory.writeBytes mem a bytes) = true := by
  induction bytes generalizing mem a with
  | nil => exact h
  | cons b rest ih => exact ih (a + 1) (Memory.wf_write a b h)

/-- Below the bound of the canonical form nothing is listed. -/
theorem Memory.read_below {low a : Nat} {mem : List Host.Cell} (h : Memory.wfFrom low mem = true)
    (ha : a < low) : Memory.read mem a = unlistedByte := by
  induction mem generalizing low with
  | nil => rfl
  | cons cell rest ih =>
    obtain ⟨k, v⟩ := cell
    simp only [Memory.wfFrom, Bool.and_eq_true, decide_eq_true_eq] at h
    simp only [Memory.read]
    rw [if_neg (by omega)]
    exact ih h.2 (by omega)

theorem Memory.read_writeFrom {low a : Nat} {mem : List Host.Cell} (v : Byte) (h : Memory.wfFrom low mem = true)
    (x : Nat) : Memory.read (Memory.write mem a v) x = if x = a then v else Memory.read mem x := by
  induction mem generalizing low with
  | nil =>
    simp only [Memory.write]
    by_cases hv : v = unlistedByte
    · rw [if_pos hv, hv]; simp [Memory.read]
    · rw [if_neg hv]
      by_cases hx : x = a
      · simp [Memory.read, hx]
      · rw [if_neg hx]; simp only [Memory.read]; rw [if_neg (Ne.symm hx)]
  | cons cell rest ih =>
    obtain ⟨k, w⟩ := cell
    simp only [Memory.wfFrom, Bool.and_eq_true, decide_eq_true_eq] at h
    simp only [Memory.write]
    by_cases hlt : a < k
    · rw [if_pos hlt]
      by_cases hv : v = unlistedByte
      · rw [if_pos hv]
        by_cases hx : x = a
        · subst hx; rw [if_pos rfl, hv]
          exact Memory.read_below (low := k) (by simp [Memory.wfFrom, h.1.2, h.2]) hlt
        · rw [if_neg hx]
      · rw [if_neg hv]
        by_cases hx : x = a
        · simp [Memory.read, hx]
        · rw [if_neg hx]; simp only [Memory.read]; rw [if_neg (Ne.symm hx)]
    · rw [if_neg hlt]
      by_cases heq : a = k
      · rw [if_pos heq]
        subst heq
        by_cases hv : v = unlistedByte
        · rw [if_pos hv]
          by_cases hx : x = a
          · subst hx; rw [if_pos rfl, hv]; exact Memory.read_below h.2 (by omega)
          · rw [if_neg hx]; simp only [Memory.read]; rw [if_neg (Ne.symm hx)]
        · rw [if_neg hv]
          by_cases hx : x = a
          · simp [Memory.read, hx]
          · rw [if_neg hx]; simp only [Memory.read]; rw [if_neg (Ne.symm hx), if_neg (Ne.symm hx)]
      · rw [if_neg heq]
        simp only [Memory.read]
        by_cases hk : k = x
        · rw [if_pos hk, if_neg (by omega), if_pos hk]
        · rw [if_neg hk, if_neg hk]; exact ih h.2

/-- A read after a write gives the byte written at its address and the byte before at any other. -/
theorem Memory.read_write {mem : List Host.Cell} (a : Nat) (v : Byte) (h : Memory.wf mem = true) (x : Nat) :
    Memory.read (Memory.write mem a v) x = if x = a then v else Memory.read mem x :=
  Memory.read_writeFrom v h x

/-- Writing bytes leaves every address outside them alone. -/
theorem Memory.read_writeBytes_outside {mem : List Host.Cell} (a : Nat) (bytes : List Byte)
    (h : Memory.wf mem = true) (x : Nat) (hx : x < a ∨ a + bytes.length ≤ x) :
    Memory.read (Memory.writeBytes mem a bytes) x = Memory.read mem x := by
  induction bytes generalizing mem a with
  | nil => rfl
  | cons b rest ih =>
    simp only [List.length_cons] at hx
    rw [Memory.writeBytes, ih (a + 1) (Memory.wf_write a b h) (by omega), Memory.read_write a b h,
      if_neg (by omega)]

/-- Writing bytes puts each at its address. -/
theorem Memory.read_writeBytes_inside {mem : List Host.Cell} (a : Nat) (bytes : List Byte)
    (h : Memory.wf mem = true) (i : Nat) (hi : i < bytes.length) :
    Memory.read (Memory.writeBytes mem a bytes) (a + i) = bytes[i] := by
  induction bytes generalizing mem a i with
  | nil => simp at hi
  | cons b rest ih =>
    rw [Memory.writeBytes]
    cases i with
    | zero =>
      rw [Memory.read_writeBytes_outside (a + 1) rest (Memory.wf_write a b h) (a + 0) (by omega),
        Memory.read_write a b h, if_pos (by omega)]
      rfl
    | succ i =>
      have := ih (a + 1) (Memory.wf_write a b h) i (by simpa using hi)
      rw [show a + (i + 1) = a + 1 + i by omega, this]
      rfl

/-- Reading bytes gives as many. -/
@[simp] theorem Memory.readBytes_length (mem : List Host.Cell) (a n : Nat) :
    (Memory.readBytes mem a n).length = n := by
  induction n generalizing a with
  | zero => rfl
  | succ n ih => simp [Memory.readBytes, ih]

/-- The memory after reset has the canonical form. -/
theorem State.reset_mem_wf : Memory.wf State.reset.mem = true := rfl

end Sys2Proof.Machine
end

