-- ==== Sys2Proof/Tests/Slice0.lean ====
section
/-! SUPPORT. Tests. Expected results come from the manual's worked cases and examples, or from its rules by hand;
each test names its source. The witnesses show states that meet a statement's hypotheses. -/

namespace Sys2Proof.Tests

open Sys2Proof Sys2Proof.Machine

/-! Well-formed commands: each check refuses an ill-formed term (R175, R177, R188, entry 17). -/

theorem test_wf_length_not_admitted : (Instr.readDevice .a [0]).wellFormed = false := by decide

theorem test_wf_define_format_length : (Instr.defineFormat .a (List.replicate 28 0)).wellFormed = false := by decide

theorem test_wf_write_data_empty : (Instr.writeData .b []).wellFormed = false := by decide

theorem test_wf_fetch_window_too_short : (Instr.fetchWindowEnd .a 7).wellFormed = false := by decide

theorem test_wf_frame_not_rejected : (Instr.frameRejected .a (List.replicate 16 false)).wellFormed = false := by decide

theorem test_wf_flux_falls : (Instr.readBackByte 0 [9, 8]).wellFormed = false := by decide

theorem test_wf_good_terms :
    (Instr.readDevice .a []).wellFormed = true ∧ (Instr.planQuery .b [3, 0, 0]).wellFormed = true ∧
      (Instr.fetchWindowEnd .a 8).wellFormed = true ∧ (Instr.frameRejected .a (List.replicate 8 true)).wellFormed = true ∧
      (Instr.readBackByte 7 [8, 9]).wellFormed = true ∧ (Instr.stepTimerExpiry 5).wellFormed = true := by decide

/-! No row of the table has bits (entry 25). -/

theorem test_no_word_spells_a_command : decodeTableWord 16 0x0100 = none := rfl

theorem test_withFetchWord_changes_nothing : State.reset.withFetchWord 8 1 = State.reset := rfl

/-! Frames (section 10.2). -/

/-- The example of R175: OPEN IMAGE of declared length 7 cut after five payload bytes. -/
theorem test_short_frame : judge [0x20, 7, 0, 0, 0, 0, 1] = .error .shortFrame := by decide

/-- R175: an unknown code and a wrong length, each by its case. -/
theorem test_unknown_and_bad_length :
    judge [0x7F, 0] = .error .unknownRequest ∧ judge [0x02, 1, 0] = .error .badLength ∧
      judge [0x01, 251] = .error .badLength := by decide

/-- R174: eight bits, most significant first; a final partial byte is discarded. -/
theorem test_window_bytes :
    windowBytes [true, false, true, false, false, false, false, true, true, true] = [0xA1] := by decide

/-! The field checks: the nine ASCII digits (R17, R56). -/

set_option maxRecDepth 20000 in
theorem test_crc16 : crc16 [0x31, 0x32, 0x33, 0x34, 0x35, 0x36, 0x37, 0x38, 0x39] = 0x29B1 := by decide

set_option maxRecDepth 20000 in
theorem test_crc32 : crc32 [0x31, 0x32, 0x33, 0x34, 0x35, 0x36, 0x37, 0x38, 0x39] = 0xCBF43926 := by decide

theorem test_crc32_of_nothing : crc32 [] = 0 := by decide

/-! Clock halves (R8): 4E hex after a 0 bit, and the mark prefix as A1 hex read with its missing transition. -/

theorem test_mfm_clock : mfmClock false 0x4E = 0x90 ∧ mfmClock true 0x00 = 0x7F := by decide

theorem test_mark_prefix_clock : mfmClock false 0xA1 = 0x0E ∧ markPrefixClock = 0x0A := by decide

/-! The worked case of the 18 × 512 MFM layout (chapter 1). -/

/-- Format 3 as DEFINE FORMAT carries it: every field but the required six, lead gap, index field, opening gap and
closing minimum absent. -/
def format3Payload : List Byte :=
  [3, 1, 0x01, 0xF4, 0x01, 0x2C, 18, 2, 0x02, 0xE0] ++ [0, 0, 0, 0, 0, 80, 1, 50, 0, 16, 0, 0, 0, 0, 0, 0] ++ [0]

/-- Format 3 as the worked case gives it, its gap not yet computed. -/
def format3 : Descriptor :=
  { encoding := .mfm, rate := 500, rpm := 300, tolerance := 25, sectors := 18, sizeCode := 2, firstSector := 1,
    interleave := 1, cylSkew := 0, headSkew := 0, leadGap := 80, indexField := true, openingGap := 50,
    sectorGap := 0, gapComputed := true, closingMin := 16, gapFill := 0x4E, dataFill := 0xE5,
    stepMultiplier := 1, cylOverride := none, headOverride := none, sizeOverride := none, exceptions := [] }

/-- Format 3 as stored. -/
def format3Stored : Descriptor := { format3 with sectorGap := 94 }

set_option maxRecDepth 20000 in
theorem test_read_format3 : readDescriptor format3Payload = some (3, format3) := by decide

theorem test_format3_gap : format3.settleGap = some format3Stored := by decide

theorem test_format3_numbers :
    format3Stored.used = 12170 ∧ format3Stored.pmin = 195000 ∧ format3Stored.pmax = 205000 ∧
      format3Stored.closing 195000 = 17 ∧ format3Stored.closing 200000 = 330 ∧
      format3Stored.closing 205000 = 642 ∧ format3Stored.closing 198400 = 230 := by decide

theorem test_near_the_limit :
    { format3 with sectors := 19 }.autoGap = some 58 ∧ { format3 with sectors := 20 }.autoGap = some 27 ∧
      { format3 with sectors := 21 }.autoGap = none ∧ { format3 with sectors := 1 }.autoGap = some 255 ∧
      { format3 with tolerance := 50 }.autoGap = some 76 ∧
      { format3 with gapComputed := false, sectorGap := 95 }.fits = false := by decide

/-- The windows of 360 rpm at T = 25 (R11). -/
theorem test_360_rpm :
    { format3 with rpm := 360 }.pmin = 162499 ∧ { format3 with rpm := 360 }.pmax = 170832 ∧
      { format3 with rpm := 360, rate := 250 }.capacity 162499 = 5078 := by decide

/-- The three placements of the worked case. -/
theorem test_placements :
    { format3 with sectors := 9, interleave := 2 }.placement 0 0 = [0, 5, 1, 6, 2, 7, 3, 8, 4] ∧
      { format3 with sectors := 9, interleave := 3 }.placement 0 0 = [0, 3, 6, 1, 4, 7, 2, 5, 8] ∧
      { format3 with sectors := 9, interleave := 2, cylSkew := 3, headSkew := 1 }.placement 2 1 =
        [1, 6, 2, 7, 3, 8, 4, 0, 5] := by decide

/-- The exception of the worked case: logical sector 4 with sector number 9 and a deleted mark. -/
theorem test_exception :
    let d := { format3 with sectors := 9, exceptions := [{ index := 4, sector := some 9, deleted := true }] }
    d.recordedSector 4 = 9 ∧ d.recordedSector 8 = 9 ∧ d.recordedDeleted 4 = true ∧ d.recordedDeleted 8 = false := by
  decide

/-! States. -/

/-- The base with format 3 defined. -/
def baseF : Base := State.reset.base.setFormat 3 (some format3Stored)

/-- An open image of one cylinder and one head. -/
def image (state : ImageState) (map : List TrackEntry) : ImageSlot :=
  { ImageSlot.reset with
    state := state, openNumber := 1, trackMap := map
    opening := some { loader := .a, base := 0, length := 360, cylinders := map.length, heads := 1 } }

/-- Slot 0 open, with the rest of the store FREE. -/
def baseOf (im : ImageSlot) : Base :=
  { baseF.setImage 0 im with
    store := { baseF.store with
      regions := [{ base := 0, length := 360, owner := some 0 }, { base := 360, length := 664, owner := none }] } }

/-- A machine of a base and a floor. -/
def machine (b : Base) (f : Floor) : State := { pending := [], mem := [], base := b, floor := f }

/-- The reset floor. -/
def floor0 : Floor := State.reset.floor

/-- Slot 0 LOADING with one SKIP track. -/
def loading : State := machine (baseOf (image .loading [.skip])) floor0

/-- Slot 0 READY with one DATA track of format 3. -/
def baseReady : Base := baseOf (image .ready [.data 3 0 9216])

/-- A job of slot 0. -/
def job (state : JobState) : Job :=
  { id := 7, slot := 0, target := 4, drives := 0x07, verifyEvery := 0, window := .full, retryLimit := 2,
    serial := none, origin := .b, state := state, endCause := none, issued := 0, passed := 0, failed := 0,
    aborted := 0, inFlight := 0 }

/-- The floor with one job. -/
def floorJ (j : Job) : Floor := { floor0 with jobs := [j] }

/-- Format 3's plan for cylinder 0, head 0. -/
def plan3 : TrackPlan :=
  buildPlan { format3Stored with sectors := 1, sizeCode := 0 }
    { channel := 0, format := 3, cylinder := 0, head := 0, data := some (0, 0), period := 200000, serial := none }

/-- A disk of job 7. -/
def disk : Disk := { newDisk baseReady (job .running) with retryLimit := 0 }

/-- A channel in PRODUCING. -/
def producing (phase : Phase) : Channel :=
  { Channel.reset with
    state := .producing, phase := some phase, motor := true, cylinder := some 0, lastStamp := some 0
    intervals := [200000, 200000, 200000, 200000], disk := some disk }

/-- A machine with one channel set. -/
def withChan (x : Channel) : State := machine baseReady (floor0.setChan 0 x)

/-- The status of the pending reply of Port A after a command. -/
def statusA (r : Result) : Option Status :=
  match r with
  | .next t => t.floor.portA.pending.map (·.status)
  | _ => none

/-! Reset and requests. -/

/-- R27, R185: the straps select 2,048 blocks, and a raw SEATED level loads its debounce timer. -/
theorem test_power_on :
    let pins : PinLevels :=
      { size1 := false, size0 := true, seated := 4, trk0 := 0, wprot := 0, handlerHolds := false }
    (State.reset.powerOn pins).base.store.blocks = 2048 ∧
      ((State.reset.powerOn pins).floor.drive 2).debounce = some 20000 ∧
      ((State.reset.powerOn pins).floor.drive 1).debounce = none := by decide

/-- R18: the reply to the worked case's DEFINE FORMAT. -/
theorem test_define_format_reply :
    format3Stored.defineReply = [94, 0x2F, 0x8A, 0, 2, 0xF9, 0xB8, 0, 3, 0x20, 0xC8, 0, 17, 0x01, 0x4A, 0x02, 0x82] := by
  decide

/-- R18: format 3 is defined, and a redefinition while an image names it is refused. -/
theorem test_define_format :
    statusA (exec (.defineFormat .a format3Payload) State.reset) = some .ok ∧
      statusA (exec (.defineFormat .a format3Payload) (machine baseReady floor0)) = some .formatInUse := by decide

/-- R66: the checks after the value checks. -/
theorem test_define_job_refusals :
    statusA (exec (.defineJob .a [7, 0, 0, 4, 7, 0, 0, 2]) State.reset) = some .noImage ∧
      statusA (exec (.defineJob .a [7, 0, 0, 4, 0, 0, 0, 2]) State.reset) = some .badValue := by decide

/-- R175, R176: a wrong length is a frame error, and a good READ DEVICE is answered. -/
theorem test_request_frames :
    statusA (exec (.readDevice .a [0]) State.reset) = some .badLength ∧
      statusA (exec (.readDevice .a []) State.reset) = some .ok := by decide

/-! The worked region sequence (chapter 2). -/

theorem test_region_sequence :
    let start : List Region := [{ base := 0, length := 2048, owner := none }]
    let s1 := ((allocate 360 0 start).map Prod.snd).getD []
    let s2 := ((allocate 400 1 s1).map Prod.snd).getD []
    let s3 := freeRegion 0 s2
    let s4 := ((allocate 300 2 s3).map Prod.snd).getD []
    s2 = [⟨0, 360, some 0⟩, ⟨360, 400, some 1⟩, ⟨760, 1288, none⟩] ∧
      s3 = [⟨0, 360, none⟩, ⟨360, 400, some 1⟩, ⟨760, 1288, none⟩] ∧
      s4 = [⟨0, 300, some 2⟩, ⟨300, 60, none⟩, ⟨360, 400, some 1⟩, ⟨760, 1288, none⟩] ∧
      allocate 1300 3 s4 = none ∧
      freeRegion 1 s4 = [⟨0, 300, some 2⟩, ⟨300, 1748, none⟩] := by decide

/-! The worked sequence of grants (chapter 2). -/

/-- A channel that waits with so many bytes buffered. -/
def fetching (held : Nat) : Channel :=
  { producing .write with
    buffer := List.replicate held (0, 0), fetch := [{ slot := 0, offset := 0, remaining := 512 }] }

/-- The arbiter's state in the worked case. -/
def grantBase (channel : Chan) (last : Background) (count : Nat) (owed : Bool) (checking : Bool) : Base :=
  { baseReady with
    store := { baseReady.store with
      share := 2, lastChannel := channel, lastBackground := last, grantCount := count, refreshOwed := owed }
    check := if checking then some { slot := 0, crc := 0, spans := [(0, 32)], bytesRead := 0 } else none }

/-- The clients in the worked case: channel 2's and channel 5's buffers where they wait, and Port A's transfer. -/
def grantFloor (two five : Option Nat) (portA : Bool) : Floor :=
  let f := match two with | some n => floor0.setChan 2 (fetching n) | none => floor0
  let g := match five with | some n => f.setChan 5 (fetching n) | none => f
  { g with portA := { g.portA with
      transfer := if portA then
        some { slot := 0, openNumber := 1, offset := 0, kind := .write [1, 2] 0 } else none } }

set_option maxRecDepth 20000 in
theorem test_grants :
    decideGrant (grantBase 3 .checkUnit 1 false false) (grantFloor (some 180) (some 40) true) = some (.channel 5) ∧
      decideGrant (grantBase 5 .checkUnit 2 false false) (grantFloor (some 180) (some 40) true) =
        some (.background .portA) ∧
      decideGrant (grantBase 5 .portA 0 false false) (grantFloor (some 180) (some 72) true) = some (.channel 2) ∧
      decideGrant (grantBase 2 .portA 1 true false) (grantFloor none (some 72) false) = some .refresh ∧
      decideGrant (grantBase 2 .portA 1 false true) (grantFloor none (some 72) false) = some (.channel 5) ∧
      decideGrant (grantBase 5 .portA 2 false true) (grantFloor (some 180) (some 72) false) =
        some (.background .checkUnit) := by decide

/-- R34's example: a span of 9,216 bytes, offset 9,100, 248 bytes. -/
theorem test_in_span : inSpan 9216 9100 248 = 116 := by decide

/-! Serial numbers (R95, the worked case of job 7). -/

theorem test_serial_bytes :
    (SerialEncoding.ascii 6).bytes 1003 = [0x30, 0x30, 0x31, 0x30, 0x30, 0x33] ∧
      (SerialEncoding.ascii 4).bytes 42 = [0x30, 0x30, 0x34, 0x32] ∧
      SerialEncoding.binary.bytes 305419896 = [0x12, 0x34, 0x56, 0x78] := by decide

/-- Job 7's serial state. -/
def serial7 : SerialState :=
  { spec := { cylinder := 0, head := 0, index := 0, offset := 16, encoding := .ascii 6, start := 1000, step := 1 }
    next := 1003, reclaim := [] }

theorem test_serial_returns_and_reissues :
    (serial7.settle .fail (some 1001)).reclaim = [1001] ∧
      (serial7.settle .fail (some 1001)).draw = (1001, serial7) ∧ serial7.draw.1 = 1003 := by decide

/-- The worked case of the spent counter: 10,000 is above 9,999. -/
theorem test_spent_counter :
    let st : SerialState :=
      { serial7 with spec := { serial7.spec with encoding := .ascii 4, step := 2 }, next := 10000 }
    let j := { job .running with target := 0, serial := some st }
    j.issuable = false ∧ j.endsBy = some .serialsExhausted ∧ serial7.spec.encoding.maximum = 999999 := by decide

/-! Speed (the worked case of a slow spin-up): the interval of edge 3 crosses the timebase's wrap. -/

theorem test_slow_spinup :
    let e1 := Channel.reset.captureEdge 4294700000
    let e3 := (e1.captureEdge 4294910000).captureEdge 145704
    let e5 := (e3.captureEdge 346704).captureEdge 547104
    let e6 := e5.captureEdge 746904
    e3.intervals = [210000, 203000] ∧ e5.meanPeriod = some 203600 ∧ e6.meanPeriod = some 201050 ∧
      ({ e5 with disk := some disk }).atSpeed baseReady = false ∧
      ({ e6 with disk := some disk }).atSpeed baseReady = true := by decide

/-- R105's bounds of the open window are inclusive. -/
theorem test_open_window :
    openWindow 158332 = true ∧ openWindow 158331 = false ∧ openWindow 210000 = true ∧ openWindow 210001 = false := by
  decide

/-! Fail streaks (the example of R119): limit 3, FAIL, FAIL, ABORTED, FAIL. -/

theorem test_fail_streak :
    let x := { Channel.reset with settings := { Settings.reset with failStreakLimit := 3 } }
    let y := ((x.afterPosting .fail).afterPosting .fail).afterPosting .aborted
    y.failCount = 2 ∧ y.fault = none ∧ (y.afterPosting .fail).fault = some .failStreak := by decide

/-! The ring (the worked case of chapter 8): rows 6 and 9. -/

/-- A record of the worked case. -/
def record (n : Nat) : ResultRecord :=
  { sequence := BitVec.ofNat 32 n, elapsed := 0
    body := { jobId := 7, drive := 0, outcome := .pass, serial := none, verified := false
              capture := { held := none, second := false }, softCount := 0, totalRetries := 0, tracksWritten := 1 } }

/-- The ring of a row, with both cursors; Port B follows. -/
def ringFloor (from' to' : Nat) (a b : Word32) (followA : Bool) (waiters : List Chan) : Floor :=
  let f := { floor0 with
    ring := { floor0.ring with
      records := (List.range (to' + 1 - from')).map fun i => record (from' + i)
      writePos := BitVec.ofNat 32 (to' + 1), waiters := waiters }
    line := { floor0.line with internal := !waiters.isEmpty, recorded := !waiters.isEmpty }
    portA := { floor0.portA with resultCursor := a, follow := followA }
    portB := { floor0.portB with resultCursor := b, follow := true } }
  waiters.foldl (fun g c => g.setChan c { Channel.reset with
    state := .posting, disk := some disk, record := some ((record 0).body) }) f

/-- Row 6: 100 is freed, channel 6's record is taken as 164 and channel 1 still waits. -/
theorem test_ring_row6 :
    let g := (ringFloor 100 163 151 101 false [6, 1]).serveRing
    g.ring.oldest = 101 ∧ g.ring.records.length = 64 ∧ g.ring.writePos = 165 ∧ g.ring.waiters = [1] ∧
      (g.chan 6).state = .unloading ∧ (g.chan 1).state = .posting := by decide

/-- Row 9: PORT RESET from B frees 49 records and leaves 151 to 165. -/
theorem test_ring_row9 :
    let s := machine baseReady (ringFloor 102 165 151 102 true [])
    let f := (doPortReset .b [] s).floor
    f.ring.oldest = 151 ∧ f.ring.records.length = 15 ∧ f.portB.resultCursor = 166 ∧ f.ring.dropped = 0 := by decide

/-- The same ring with no follower: 100 is displaced and Port B's cursor moves to 101. -/
theorem test_ring_displaces :
    let f := ringFloor 100 163 150 100 false []
    let g := { f with portB := { f.portB with follow := false } }.displace
    g.ring.oldest = 101 ∧ g.ring.dropped = 1 ∧ g.portA.resultCursor = 150 ∧ g.portB.resultCursor = 101 := by decide

/-! The fetch window (R177). -/

theorem test_fetch_bytes :
    let w : FetchWindow := { reply := { status := .badValue, payload := [0xAB] }, pending := true }
    [0, 1, 2, 3, 4].map w.sdo = [0xFF, 0x05, 0x01, 0xAB, 0xFF] ∧ w.whole 31 = false ∧ w.whole 32 = true := by decide

/-! Seeks (the example of R102): from cylinder 10 to 14, four steps. -/

theorem test_seek :
    let x := ({ Channel.reset with cylinder := some 10 }).startSeek 14 1
    x.cylinder = some 11 ∧ x.dir = true ∧ x.side = true ∧ x.stepTimer = some 3000 ∧
      ((x.continueSeek 14).continueSeek 14).cylinder = some 13 ∧
      (((x.continueSeek 14).continueSeek 14).continueSeek 14).cylinder = some 14 ∧
      ((((x.continueSeek 14).continueSeek 14).continueSeek 14).continueSeek 14).settleTimer = some 15000 := by decide

/-! Witnesses: for each statement with hypotheses, states and operands that meet them together, and one for each of
its clauses, at the ends of their ranges. -/

theorem witness_StepTakesTheFrontCommand :
    ({ State.reset with pending := [.arbiterGrant] } : State).pending = .arbiterGrant :: [] ∧
      State.reset.pending = [] := ⟨rfl, rfl⟩

theorem witness_ExecKeepsTheQueue : exec .arbiterGrant State.reset = .next State.reset := rfl

/-- A burst that ends one byte beyond a store of 1,024 blocks; the one before it ends with the store. -/
def burstEnd (addr : Nat) : State :=
  machine baseReady { floor0 with burst := some { work := .refresh, addr := addr, len := 1, live := true } }

set_option maxRecDepth 20000 in
theorem witness_OnlyABurstBeyondTheStoreStops :
    exec .storeBurstComplete (burstEnd 4194304) = .fault .storeAddress ∧
      exec .storeBurstComplete (burstEnd 4194303) = .next (machine baseReady floor0) := ⟨rfl, rfl⟩

theorem witness_RequestFramesAreJudgedAsSent :
    (Instr.readData .a [5]).wellFormed = true ∧ (Instr.readData .a [5]).frameBytes = some [0x24, 1, 5] ∧
      (Instr.readRing .b []).wellFormed = true ∧ (Instr.readRing .b []).frameBytes = some [0x52, 0] := by decide

/-- A frame for each case of R175: lengths 251 and 250, a payload one byte short, a code of no request, and lengths
that READ DATA does not admit and admits. -/
theorem witness_RequestFramesAreJudgedAsSent_errors :
    (0x24 : Byte) ≠ 0 ∧ 250 < (251 : Byte).toNat ∧ (250 : Byte).toNat ≤ 250 ∧
      ([1, 2] : List Byte).length < (3 : Byte).toNat ∧ (1 : Byte).toNat ≤ ([5] : List Byte).length ∧
      judge [0x07, 0] = .error .unknownRequest ∧ judge [0x24, 2, 1, 2] = .error .badLength ∧
      Request.readData.code = 0x24 ∧ judge [0x24, 1, 5] = .request .readData [5] := by decide

/-! The laws that every step keeps. -/

/-- The ring full, two channels waiting for it, and both ports idle. -/
def fullRing : State := machine baseReady (ringFloor 100 163 151 101 false [6, 1])

/-- For MemoryStaysCanonical, LineHoldKeepsItsLaw, PortsKeepTheirLaw and ArbiterKeepsItsRanges. -/
theorem witness_laws :
    Memory.wf [(0, 1), (4194303, 255)] = true ∧ fullRing.lineLaw = true ∧ fullRing.portLaw = true ∧
      fullRing.base.store.arbiterLaw = true ∧ step fullRing = .next fullRing :=
  ⟨rfl, by decide, by decide, by decide, rfl⟩

theorem witness_RingNeverOverfills :
    fullRing.floor.ring.law = true ∧ fullRing.floor.cursorLaw = true ∧ fullRing.floor.ring.records.length = 64 := by
  decide

/-- Slot 0 READY, named by one job. -/
def baseNamed : Base := baseOf { image .ready [.data 3 0 9216] with fillMark := 9216, refCount := 1 }

/-- A running job of one disk, which channel 0 is writing. -/
def busyFloor : Floor :=
  (floorJ { job .running with issued := 1, inFlight := 1 }).setChan 0 (producing .write)

/-- The part as it writes a disk. -/
def busy : State := machine baseNamed busyFloor

/-- Whatever holds of none of the other channels' disks is said of channel 0's alone. -/
theorem busy_disk (c : Chan) (k : Disk) (h : (busyFloor.chan c).disk = some k) : c = 0 ∧ k = disk := by
  have other : ∀ c : Chan, c ≠ 0 → (busyFloor.chan c).disk = none := by decide
  by_cases hc : c = 0
  · exact ⟨hc, by subst hc; exact (Option.some.inj h).symm⟩
  · rw [other c hc] at h; cases h

theorem witness_RegionsKeepTheirLaws : baseNamed.store.regionLaw = true ∧ baseNamed.OwnLaw :=
  ⟨by decide,
    { regions := by decide
      open? := by decide
      owns := by decide
      clearing := by decide
      waiting := by decide
      once := by decide
      checked := fun _ h => by cases h
      reset := fun h => by cases h }⟩

theorem busy_records (c : Chan) : (busyFloor.chan c).record = none := by revert c; decide

theorem witness_TheJobQueueKeepsItsBooks : busy.JobLaw where
  jobs := {
    few := by decide
    distinct := by decide
    counts := by intro j hj; cases List.mem_singleton.1 hj; rfl
    targets := by intro j hj; cases List.mem_singleton.1 hj; intro _; decide
    inFlight := by decide
    owned := by
      intro c k h
      obtain ⟨-, rfl⟩ := busy_disk c k h
      exact ⟨_, List.mem_singleton.2 rfl, rfl, rfl⟩
    held := by decide
    posting := by decide
    record := by
      intro c body h
      rw [show (busy.floor.chan c).record = none from busy_records c] at h
      cases h }
  serials := {
    numbers := by intro j hj st h; cases List.mem_singleton.1 hj; cases h
    plain := by
      intro j _ _ c k h _
      obtain ⟨-, rfl⟩ := busy_disk c k h
      rfl
    record := by
      intro c body h
      rw [show (busy.floor.chan c).record = none from busy_records c] at h
      cases h }
  waiting := ⟨by decide, by decide⟩
  references := by decide

/-- A serialised job whose counter is spent: 9,997 on a good disk, 9,998 returned, 9,999 on channel 0's disk. -/
def spentSerial : SerialState :=
  { spec := { cylinder := 0, head := 0, index := 0, offset := 16, encoding := .ascii 4, start := 9997, step := 1 }
    next := 10000, reclaim := [9998] }

/-- The floor of that job. -/
def spentFloor : Floor :=
  (floorJ { job .running with
    serial := some spentSerial, issued := 3, passed := 1, failed := 1, inFlight := 1 }).setChan 0
    { producing .write with disk := some { disk with serial := some (9999, spentSerial.spec) } }

/-- The laws of the serial numbers at their bounds: the numbers of the list and of the channel, next above the
maximum by the step. -/
theorem witness_NumberLaw (j : Job) (hj : j ∈ spentFloor.jobs) : spentFloor.NumberLaw j spentSerial := by
  cases List.mem_singleton.1 hj
  exact {
    step := by decide
    ascending := by decide
    few := by decide
    next := by decide
    bound := by decide
    carried := by
      have other : ∀ c : Chan, c ≠ 0 → (spentFloor.chan c).disk = none := by decide
      intro c k h _
      by_cases hc : c = 0
      · subst hc; cases h; exact ⟨9999, rfl⟩
      · rw [other c hc] at h; cases h
    once := by decide
    issued := by
      intro v hv
      have hv : v ∈ [9998, 9999] := hv
      rcases List.mem_cons.1 hv with rfl | hv
      · exact ⟨by decide, by decide, 1, by decide⟩
      · cases List.mem_singleton.1 hv; exact ⟨by decide, by decide, 2, by decide⟩ }

theorem busy_spans : baseNamed.SpanLaw where
  mark := by decide
  none := by decide
  span := by
    intro k f offset len h
    have others : ∀ k : SlotId, k ≠ 0 → (baseNamed.image k).trackMap = [] := by decide
    by_cases hk : k = 0
    · subst hk
      have h0 : (baseNamed.image 0).trackMap = [.data 3 0 9216] := rfl
      rw [h0, List.mem_singleton] at h
      cases h
      exact ⟨by decide, format3Stored, by decide, by decide⟩
    · rw [others k hk] at h; cases h
  cleared := by decide
  check := fun _ h => by cases h

theorem witness_BurstsStayInTheStore : busy.StoreLaw ∧ busy.numbersFresh :=
  ⟨{ jobs := witness_TheJobQueueKeepsItsBooks
     own := witness_RegionsKeepTheirLaws.2
     spans := busy_spans
     transfers := fun p t h => by cases p <;> cases h
     plans := {
       queued := fun r h => by cases h
       built := fun w h => by cases h
       once := by decide
       seek := by decide }
     fetches := {
       idle := by decide
       fetch := fun c k h i hi => by
         obtain ⟨rfl, -⟩ := busy_disk c k h
         cases hi
       plan := fun c k p h hp => by
         obtain ⟨rfl, -⟩ := busy_disk c k h
         cases hp }
     burst := {
       inside := fun w h => by cases h
       reset := fun h => by cases h
       write := fun w p bytes h => by cases h
       read := fun w p h => by cases h } },
    fun p t h => by cases p <;> cases h⟩

theorem witness_DriveEventsLeaveTheBase :
    Instr.indexEdge 7 ∈ [Instr.indexEdge 7, .writeStreamByte 7] := by decide

/-! Resets and the clock. -/

theorem witness_PowerOnResetsThePart :
    State.reset.base.resetActive = false ∧ State.reset.assertReset.base.resetActive = true := ⟨rfl, rfl⟩

theorem witness_ResetPinResetsThePart : State.reset.assertReset.base.resetActive = true := rfl

theorem witness_ResetMakesThePartDeaf :
    State.reset.assertReset.base.resetActive = true ∧ (Instr.readRing .b []).frame?.isSome = true ∧
      Instr.fetchStart .a = .fetchStart .a := ⟨rfl, rfl, rfl⟩

theorem witness_AMicrosecondPasses :
    State.reset.base.resetActive = false ∧ disk.elapsedRest < 10000 ∧
      { disk with elapsedRest := 9999 }.elapsedRest < 10000 := by decide

/-! The store. -/

theorem witness_TheArbiterDecidesByCases :
    decideGrant (grantBase 2 .portA 1 true false) (grantFloor none none false) = some .refresh ∧
      (grantBase 5 .checkUnit 2 false false).store.refreshOwed = false ∧
      decideGrant (grantBase 5 .checkUnit 2 false false) (grantFloor none none true) = some (.background .portA) ∧
      decideGrant (grantBase 5 .checkUnit 2 false false) (grantFloor (some 0) none false) = some (.channel 2) ∧
      decideGrant State.reset.base floor0 = none := by decide

set_option maxRecDepth 20000 in
/-- A buffer with room for exactly one burst of 32 bytes and one without, and channels that hold 63 and 64 bytes. -/
theorem witness_TheArbiterDecidesByCases_waiting :
    (fetching 224).fetch = [{ slot := 0, offset := 0, remaining := 512 }] ∧ (fetching 224).disk = some disk ∧
      (fetching 224).waits baseReady = true ∧ (fetching 225).waits baseReady = false ∧
      (fetching 63).urgent baseReady = true ∧ (fetching 64).urgent baseReady = false ∧
      Channel.reset.fetch = [] ∧ Channel.reset.disk = none := by decide

/-- Port A's transfer on slot 0, of the open number given. -/
def transferring (im : ImageSlot) (number : BitVec 16) (kind : TransferKind) : State :=
  machine (baseOf im) { floor0 with portA := { floor0.portA with
    transfer := some { slot := 0, openNumber := number, offset := 0, kind := kind } } }

/-- Port A's write transfer of two bytes. -/
def writing (im : ImageSlot) (number : BitVec 16) : State := transferring im number (.write [1, 2] 0)

/-- Slot 0 in CLEARING, so many bytes of its region already clear. -/
def clearing (bytes : Nat) : State :=
  let b := baseOf (image .clearing [.skip])
  machine { b with store := { b.store with clearing := [{ port := .a, slot := 0, bytes := bytes }] } } floor0

theorem witness_AGrantStartsABurst :
    (burstEnd 0).floor.burst.isSome = true ∧ State.reset.floor.burst = none ∧
      decideGrant State.reset.base floor0 = none ∧
      decideGrant (grantBase 2 .portA 1 true false) floor0 = some .refresh ∧
      decideGrant (grantBase 2 .portA 1 false false) (grantFloor (some 0) none false) = some (.channel 2) ∧
      ((grantFloor (some 0) none false).chan 2).fetch = [{ slot := 0, offset := 0, remaining := 512 }] ∧
      ((grantFloor (some 0) none false).chan 2).disk = some disk := by decide

/-- The background clients: a write, a read, clearing work and the Image Check Unit. -/
theorem witness_AGrantStartsABackgroundBurst :
    let w := writing (image .loading [.skip]) 1
    let r := transferring (image .ready [.skip]) 1 (.read 1 [])
    let c := clearing 0
    let k := grantBase 5 .portA 2 false true
    decideGrant w.base w.floor = some (.background .portA) ∧
      w.base.admits .a { slot := 0, openNumber := 1, offset := 0, kind := .write [1, 2] 0 } = true ∧
      decideGrant r.base r.floor = some (.background .portA) ∧
      r.base.admits .a { slot := 0, openNumber := 1, offset := 0, kind := .read 1 [] } = true ∧
      decideGrant c.base c.floor = some (.background .portA) ∧ c.floor.portA.transfer = none ∧
      c.base.store.clearing = [] ++ ⟨.a, 0, 0⟩ :: [] ∧
      decideGrant k floor0 = some (.background .checkUnit) ∧ k.check.map (·.spans) = some [(0, 32)] ∧
      (baseReady.image 0).opening = some ⟨.a, 0, 360, 1, 1⟩ := by decide

theorem witness_TheFenceStopsATransfer :
    let s := writing (image .loading [.skip]) 2
    let ready := writing (image .ready [.skip]) 1
    let other := writing { image .loading [.skip] with opening := some ⟨.b, 0, 360, 1, 1⟩ } 1
    let read := transferring (image .clearing [.skip]) 1 (.read 1 [])
    s.base.resetActive = false ∧ s.floor.burst = none ∧ s.floor.portA.hold = [] ∧
      decideGrant s.base s.floor = some (.background .portA) ∧ (s.base.image 0).openNumber ≠ 2 ∧
      decideGrant ready.base ready.floor = some (.background .portA) ∧ (ready.base.image 0).state ≠ .loading ∧
      decideGrant other.base other.floor = some (.background .portA) ∧
      (other.base.image 0).opening.map (·.loader) ≠ some .a ∧
      decideGrant read.base read.floor = some (.background .portA) ∧ (read.base.image 0).state = .clearing := by decide

/-- A burst in progress at the store's first byte. -/
def inBurst (s : State) (work : BurstWork) (len : Nat) : State :=
  { s with floor := { s.floor with burst := some { work := work, addr := 0, len := len, live := true } } }

theorem witness_BurstsWriteTheirBytes :
    let s := inBurst (writing (image .loading [.skip]) 1) (.write .a [1]) 1
    s.base.resetActive = false ∧ Memory.wf s.mem = true ∧
      s.floor.burst = some { work := .write .a [1], addr := 0, len := [(1 : Byte)].length, live := true } ∧
      0 + [(1 : Byte)].length ≤ s.base.store.blocks * 4096 ∧
      (s.floor.port .a).transfer =
        some { slot := 0, openNumber := 1, offset := 0, kind := .write [1, 2] 0 } ∧
      [(1 : Byte)].length < [(1 : Byte), 2].length := by decide

theorem witness_BurstsWriteTheirBytes_clearing :
    let s := inBurst (clearing 0) (.clear 0) 32
    s.base.resetActive = false ∧ Memory.wf s.mem = true ∧ 0 + 32 ≤ s.base.store.blocks * 4096 ∧
      s.base.store.clearing = [{ port := .a, slot := 0, bytes := 0 }] ∧ 0 + 32 < s.base.regionBytes 0 ∧
      (clearing 1474528).base.regionBytes 0 = 1474528 + 32 := by decide

/-- A region under clearing with another before and another behind it, at the burst before its last and at its last. -/
theorem witness_BurstsWriteTheirBytes_list :
    let at0 (bytes : Nat) : State :=
      let s := inBurst (clearing bytes) (.clear 0) 32
      { s with base := { s.base with store := { s.base.store with
        clearing := [⟨.b, 1, 64⟩, ⟨.a, 0, bytes⟩, ⟨.b, 2, 0⟩] } } }
    (at0 1474528).base.store.clearing = [⟨.b, 1, 64⟩] ++ ⟨.a, 0, 1474528⟩ :: [⟨.b, 2, 0⟩] ∧
      (∀ v ∈ [(⟨.b, 1, 64⟩ : Clearing)] ++ [⟨.b, 2, 0⟩], v.slot ≠ 0) ∧
      (at0 1474528).base.regionBytes 0 ≤ 1474528 + 32 ∧ 1474496 + 32 < (at0 1474496).base.regionBytes 0 := by decide

theorem witness_BurstsServeTheirClients :
    let f := inBurst (withChan (fetching 0)) (.fetch 0 0) 32
    let r := inBurst (transferring (image .ready [.skip]) 1 (.read 32 [])) (.read .a) 32
    let w := inBurst (writing (image .loading [.skip]) 1) (.write .a [1, 2]) 2
    f.base.resetActive = false ∧ f.floor.burst = some { work := .fetch 0 0, addr := 0, len := 32, live := true } ∧
      0 + 32 ≤ f.base.store.blocks * 4096 ∧ (f.floor.chan 0).fetch.map (·.remaining) = [512] ∧
      (r.floor.port .a).transfer.map (·.kind) = some (.read 32 []) ∧
      (w.floor.port .a).transfer.map (·.kind) = some (.write [1, 2] 0) ∧
      { floor0.portA with hold := [.error .shortFrame] }.transfer = none ∧
      [HeldFrame.error .shortFrame].length ≤ 4 := by decide

/-! Formats. -/

theorem witness_ready : State.reset.ready .a ∧ State.reset.ready .b ∧ loading.ready .a :=
  ⟨⟨rfl, rfl⟩, ⟨rfl, rfl⟩, ⟨rfl, rfl⟩⟩

/-- A serial specification of 20 payload bytes, and one whose digit count is one too many. -/
theorem witness_DefinitionsAreReadAndChecked :
    let payload (digits : Byte) : List Byte :=
      [7, 0, 0, 4, 7, 0, 0, 2, 0, 0, 0, 0, 16, 0, digits, 0, 0, 0x03, 0xE8, 1]
    readSerialSpec (payload 6) = some serial7.spec ∧ readSerialSpec (payload 10) = none ∧
      (readJobDefinition .b (payload 6)).map (·.serial) = some (some { serial7 with next := 1000 }) := by decide

set_option maxRecDepth 20000 in
theorem witness_DefineFormatStoresOrRefuses :
    Request.defineFormat.admits format3Payload.length = true ∧
      readDescriptor (List.replicate 27 0) = none ∧ readDescriptor format3Payload = some (3, format3) ∧
      baseReady.formatInUse 3 = true ∧ State.reset.base.formatInUse 3 = false ∧
      format3.settleGap = some format3Stored ∧ { format3 with sectors := 21 }.settleGap = none ∧
      format3Stored.used + format3Stored.closingMin ≤ format3Stored.capacity format3Stored.pmin ∧
      format3.gapComputed = true ∧ (format3.sectors : Int) ≤ format3.gapNumerator ∧
      ({ format3 with sectors := 21 } : Descriptor).gapNumerator < (21 : Int) ∧
      ({ format3 with gapComputed := false } : Descriptor).gapComputed = false ∧
      TrackEntry.data 3 0 9216 ∈ (baseReady.image 0).trackMap := by decide

theorem witness_SectorsTakeTheFirstFreeSlot :
    1 ≤ format3.sectors ∧ 16 + 1 < format3.sectors ∧ (format3.placement 0 0)[16]? = some 16 := by decide

theorem witness_TrackBytesStandInTheirPlaces :
    0 < format3Stored.sectors ∧ 17 < format3Stored.sectors ∧ format3Stored.used ≤ 12170 ∧
      format3Stored.indexField = true ∧ 0 < format3Stored.leadGap ∧ 0 < format3Stored.openingGap ∧
      93 < format3Stored.sectorGap := by decide

theorem witness_FormatRequestsAnswer :
    15 < (16 : Byte).toNat ∧ 83 < (84 : Byte).toNat ∧ 1 < (2 : Byte).toNat ∧
      State.reset.base.format 15 = none ∧ baseF.format 3 = some format3Stored ∧ baseReady.formatInUse 3 = true ∧
      baseF.formatInUse 3 = false ∧ format3Stored.inWindow format3Stored.nominal = true ∧
      format3Stored.pmin ≤ 195000 ∧ 205000 ≤ format3Stored.pmax ∧ 194999 < format3Stored.pmin ∧
      format3Stored.pmax < 205001 ∧
      { format3Stored with exceptions := [⟨4, some 9, true⟩] }.exceptions[0]? = some ⟨4, some 9, true⟩ ∧
      plan3.slots[0]?.map (·.index) = some 0 := by decide

/-! Images. -/

theorem witness_OpenImageReservesARegion :
    (State.reset.base.image 7).state = .free ∧
      allocate 1024 7 State.reset.base.store.regions =
        some (0, [{ base := 0, length := 1024, owner := some 7 }]) ∧
      (baseReady.image 7).state = .free ∧ allocate 665 7 baseReady.store.regions = none ∧
      (baseReady.image 0).state ≠ .free ∧ ¬(1024 + 1 ≤ baseReady.store.blocks) ∧ 1024 ≤ baseReady.store.blocks := by
  decide

/-- A slot in each state the requests refuse, and a request of the other port. -/
theorem witness_OpenImageReservesARegion_refusals :
    (7 : Nat) < (8 : Byte).toNat ∧ ¬((84 : Byte).toNat ≤ 83) ∧ (83 : Byte).toNat ≤ 83 ∧ (1 : Byte).toNat ≤ 1 ∧
      ¬((2 : Byte).toNat ≤ 1) ∧ ((1 : Byte) = 1 ∧ (15 : Byte).toNat ≤ 15) ∧ ¬((16 : Byte).toNat ≤ 15) ∧
      ((7 : SlotId).val = (7 : Byte).toNat) ∧ (baseReady.image 7).state = .free ∧
      ((clearing 0).base.image 0).state = .clearing ∧ (baseReady.image 0).state ≠ .free ∧
      (baseReady.image 0).state ≠ .loading ∧ (loading.base.image 0).state = .loading ∧
      (loading.base.image 0).opening.map (·.loader) = some .a ∧ PortId.a ≠ .b ∧
      (baseReady.image 0).opening.map (·.cylinders) = some 1 ∧ 1 ≤ (1 : Byte).toNat := by decide

/-- First fit passes over a FREE region that is too short. -/
theorem test_first_fit :
    allocate 60 3 [⟨0, 40, none⟩, ⟨40, 360, some 1⟩, ⟨400, 60, none⟩] =
      some (400, [⟨0, 40, none⟩, ⟨40, 360, some 1⟩, ⟨400, 60, some 3⟩]) ∧
      allocate 61 3 [⟨0, 40, none⟩, ⟨40, 360, some 1⟩, ⟨400, 60, none⟩] = none := by decide

theorem witness_DefineTrackAllocatesASpan :
    (loading.base.image 0).state = .loading ∧
      (loading.base.image 0).opening = some ⟨.a, 0, 360, 1, 1⟩ ∧ (loading.base.image 0).entry 0 0 = some .skip ∧
      loading.base.format 3 = some format3Stored ∧
      (loading.base.image 0).fillMark + format3Stored.spanLen ≤ 360 * 4096 ∧
      360 * 4096 < 1465345 + format3Stored.spanLen ∧ 1 ≤ (1 : Nat) ∧ loading.base.format 15 = none ∧
      ((baseOf (image .loading [.erase])).image 0).entry 0 0 = some .erase ∧ TrackEntry.erase ≠ .skip := by decide

/-- Slot 0 with a DATA track, and Port A's cursor in it. -/
def cursorIn (im : ImageSlot) (offset : Nat) : State :=
  machine (baseOf im) { floor0 with portA := { floor0.portA with
    cursor := some { slot := 0, openNumber := 1, cylinder := 0, head := 0, offset := offset } } }

/-- Slot 0 LOADING, and Port A's cursor at an offset. -/
def atOffset (offset : Nat) : State := cursorIn (image .loading [.data 3 0 9216]) offset

theorem witness_DataRequestsWorkAtTheCursor :
    let s := atOffset 9215
    let past := atOffset 9216
    (s.floor.port .a).cursor =
        some { slot := 0, openNumber := 1, cylinder := 0, head := 0, offset := 9215 } ∧
      (s.base.image 0).state = .loading ∧ (s.base.image 0).openNumber = 1 ∧
      (s.base.image 0).opening.map (·.loader) = some .a ∧ (s.base.image 0).entry 0 0 = some (.data 3 0 9216) ∧
      min 248 (9216 - 9215) ≠ 0 ∧ min 248 (9216 - 9216) = 0 ∧
      (past.floor.port .a).cursor.map (·.offset) = some 9216 ∧
      (loading.base.image 0).entry 0 0 = some .skip ∧ (baseReady.image 0).state = .ready := by decide

/-- The refusals: no cursor, a slot opened again, a track that is SKIP, another loader, an image that is READY. -/
theorem witness_DataRequestsWorkAtTheCursor_refusals :
    let again := cursorIn { image .loading [.data 3 0 9216] with openNumber := 2 } 0
    let skip := cursorIn (image .loading [.skip]) 0
    let other := cursorIn { image .loading [.data 3 0 9216] with opening := some ⟨.b, 0, 360, 1, 1⟩ } 0
    let ready := cursorIn (image .ready [.data 3 0 9216]) 0
    (floor0.port .a).cursor = none ∧ (again.base.image 0).openNumber ≠ 1 ∧
      (skip.base.image 0).entry 0 0 = some .skip ∧ (skip.base.image 0).state ≠ .free ∧
      (other.base.image 0).opening.map (·.loader) ≠ some .a ∧ (ready.base.image 0).state ≠ .loading ∧
      (ready.base.image 0).opening.map (·.loader) = some .a ∧ 248 < (249 : Byte).toNat ∧ (0 : Byte).toNat < 1 := by
  decide

/-- R50: with no cursor READ DATA refuses for the image before it tests its count. -/
theorem test_read_data_no_cursor :
    statusA (exec (.readData .a [0]) State.reset) = some .noImage ∧
      statusA (exec (.readData .a [0]) (atOffset 0)) = some .badValue := by decide

theorem witness_ImagesAreCheckedToReadyOrBad :
    let b := baseOf (image .loading [.data 3 0 9216])
    (b.image 0).state = .loading ∧ (b.image 0).opening = some ⟨.a, 0, 360, 1, 1⟩ ∧ b.check = none ∧
      b.checkList = [] ∧ (b.image 0).spans ≠ [] ∧ (grantBase 5 .portA 2 false true).check.isSome = true ∧
      ((baseOf (image .loading [.skip, .erase])).image 0).spans = [] := by decide

set_option maxRecDepth 20000 in
/-- The last burst of a check, of an image whose expected check is or is not that of the 32 bytes read. -/
theorem witness_ImagesAreCheckedToReadyOrBad_last :
    let check : ImageCheck := { slot := 0, crc := crc32Preset, spans := [(0, 32)], bytesRead := 0 }
    let b (expected : Word32) : Base :=
      { baseOf { image .checking [.data 3 0 32] with expected := some expected } with check := some check }
    let s := inBurst (machine (b 0) floor0) .check 32
    s.base.resetActive = false ∧ 0 + 32 ≤ s.base.store.blocks * 4096 ∧ s.base.check = some check ∧
      check.spans = [(0, 32)] ∧ s.base.checkList = [] ∧
      (let value := crc32Result ((Memory.readBytes s.mem 0 32).foldl crc32Byte check.crc)
       (s.base.image 0).expected ≠ some value ∧ ((b value).image 0).expected = some value) := by decide

/-- A burst that is not the last of its span or of the check, and a last one with two slots waiting, the first of
them without a span. -/
theorem witness_ImagesAreCheckedToReadyOrBad_onward :
    let check (left : Nat) (rest : List (Nat × Nat)) : ImageCheck :=
      { slot := 0, crc := crc32Preset, spans := (0, left) :: rest, bytesRead := 0 }
    let b := (baseOf (image .checking [.data 3 0 32])).setImage 1 (image .checking [.skip])
    let two := { b.setImage 2 (image .checking [.data 3 0 64]) with check := some (check 32 []), checkList := [1, 2] }
    (check 64 []).spans = (0, 64) :: [] ∧ 32 < 64 ∧ (check 32 [(32, 32)]).spans = (0, 32) :: [(32, 32)] ∧
      two.check = some (check 32 []) ∧ two.checkList = [1] ++ [2] ∧ [(1 : SlotId)].Nodup ∧
      (0 : SlotId) ∉ [(1 : SlotId)] ∧ (∀ l ∈ [(1 : SlotId)], (two.image l).spans = []) ∧
      ∀ l ∈ [(2 : SlotId)].head?, (two.image l).spans ≠ [] ∧ l ≠ 0 ∧ l ∉ [(1 : SlotId)] := by decide

/-- The event set of Port B after a command. -/
def eventsB (r : Result) : List EventKind :=
  match r with
  | .next t => t.floor.portB.events
  | _ => []

/-- An image without DATA tracks has the check 0: FINISH IMAGE with 0 brings it to READY, with 1 to BAD (R54, R56). -/
theorem test_empty_image_is_checked_at_once :
    let s := machine (baseOf (image .loading [.skip])) floor0
    eventsB (exec (.finishImage .a [0, 0, 0, 0, 0]) s) = [.imageReady] ∧
      eventsB (exec (.finishImage .a [0, 0, 0, 0, 1]) s) = [.imageBad] := by decide

theorem witness_DeleteImageFreesTheSlot :
    let other : ImageCheck := { slot := 1, crc := crc32Preset, spans := [(0, 32)], bytesRead := 0 }
    (baseReady.image 0).state ≠ .free ∧ (baseReady.image 0).refCount = 0 ∧ baseReady.check = none ∧
      (baseReady.checkList.filter fun l => decide (l ≠ 0)) = [] ++ [] ∧ other.slot ≠ 0 ∧
      0 < ((baseOf { image .ready [] with refCount := 1 }).image 0).refCount := by decide

/-- A check of the slot under way, with a slot of no bytes and one of some waiting behind it. -/
theorem witness_DeleteImageFreesTheSlot_checking :
    let check : ImageCheck := { slot := 0, crc := crc32Preset, spans := [(0, 32)], bytesRead := 0 }
    let b := { baseOf (image .checking [.data 3 0 32]) with check := some check }
    let one := b.setImage 1 (image .checking [.skip])
    let two := { one.setImage 2 (image .checking [.data 3 0 32]) with checkList := [1, 2] }
    (two.image 0).refCount = 0 ∧ two.check = some check ∧ (two.image 0).state ≠ .free ∧
      (two.checkList.filter fun l => decide (l ≠ 0)) = [1] ++ [2] ∧ (two.image 1).spans = [] ∧
      (two.image 2).spans ≠ [] := by decide

/-- A region between two FREE ones, and one alone. -/
theorem witness_DeleteImageFreesTheSlot_region :
    apart ([⟨0, 4, some 1⟩] ++ [⟨4, 2, none⟩] ++ ⟨6, 3, some 0⟩ :: ([⟨9, 1, none⟩] ++ [⟨10, 5, some 2⟩])) = true ∧
      apart ([] ++ [] ++ ⟨0, 9, some 0⟩ :: ([] ++ [])) = true ∧
      (∀ q ∈ ([⟨0, 4, some 1⟩] : List Region).getLast?, q.owner ≠ none) ∧
      freeRegion 0 [⟨0, 4, some 1⟩, ⟨4, 2, none⟩, ⟨6, 3, some 0⟩, ⟨9, 1, none⟩, ⟨10, 5, some 2⟩] =
        [⟨0, 4, some 1⟩, ⟨4, 6, none⟩, ⟨10, 5, some 2⟩] := by decide

theorem witness_ReadsOnlyReply :
    (baseReady.image 0).state = .ready ∧ (baseReady.image 0).opening = some ⟨.a, 0, 360, 1, 1⟩ ∧
      (baseReady.image 0).entry 0 0 = some (.data 3 0 9216) ∧
      (floorJ (job .queued)).job 7 = some (job .queued) ∧ (∀ j ∈ (floorJ (job .queued)).jobs, j.id ≠ 255) ∧
      (∀ q ∈ [{ job .done with id := 255 }], q.id ≠ (job .queued).id) := by decide

/-- A slot being checked, the second of a check list, a region under clearing, a job with reclaimed numbers, a
channel with a serialised disk and one in the waiting list and the waiter list. -/
theorem witness_ReportsHoldTheirLayouts :
    let waiting := { spentFloor with waiting := [5, 3], ring := { spentFloor.ring with waiters := [6, 1] } }
    ({ baseReady with check := some ⟨0, crc32Preset, [], 32⟩ } : Base).check.map (·.slot) = some 0 ∧
      ({ baseReady with checkList := [1, 0] } : Base).checkList = [1] ++ 0 :: [] ∧ (0 : SlotId) ∉ [(1 : SlotId)] ∧
      (clearing 8192).base.store.clearing = [] ++ ⟨.a, 0, 8192⟩ :: [] ∧
      spentFloor.jobs.map (fun j => j.serial.map (·.reclaim)) = [some [9998]] ∧
      (spentFloor.chan 0).intervals.length = 4 ∧ (spentFloor.chan 1).intervals.length = 0 ∧
      (spentFloor.chan 0).disk.map (·.serial) = some (some (9999, spentSerial.spec)) ∧
      (spentFloor.chan 1).disk = none ∧ waiting.waiting = [5] ++ 3 :: [] ∧ waiting.waiting[1]? = some 3 ∧
      waiting.ring.waiters[0]? = some 6 := by decide

/-! Jobs and serials. -/

set_option maxRecDepth 20000 in
theorem witness_DefineJobJoinsTheQueue :
    let payload : List Byte := [7, 0, 0, 4, 7, 0, 0, 2]
    Request.defineJob.admits payload.length = true ∧ readJobDefinition .b payload = some (job .queued) ∧
      8 ≤ ({ floor0 with jobs := List.replicate 8 (job .done) } : Floor).jobs.length ∧
      ((floorJ (job .done)).job 7).isSome = true ∧ floor0.job 7 = none ∧
      (State.reset.base.image 0).state = .free ∧ (baseReady.image 0).state ≠ .free ∧
      baseReady.serialCheck (baseReady.image 0) { serial7.spec with offset := 506 } = none ∧
      baseReady.serialCheck (baseReady.image 0) { serial7.spec with offset := 507 } = some .serialPlace := by decide

theorem witness_JobRequestsMoveTheJob :
    (floorJ (job .queued)).job 7 = some (job .queued) ∧ (baseReady.image 0).state = .ready ∧
      (loading.base.image 0).state ≠ .ready ∧ (floorJ (job .running)).job 7 = some (job .running) ∧
      (job .running).inFlight = 0 ∧ 0 < { job .running with inFlight := 1 }.inFlight ∧
      (job .done).state = .done ∧ 0 < { job .cancelled with inFlight := 1 }.inFlight ∧
      (∀ c, ((floorJ (job .running)).chan c).holdsFor 7 = false) ∧
      (busyFloor.chan 0).holdsFor 7 = true ∧
      (busyFloor.chan 0).state ∈ [ChannelState.spinup, .recal, .producing, .paused] ∧
      (255 : Byte) ≠ 0 ∧ (∀ j ∈ (floorJ (job .running)).jobs, j.id ≠ (255 : Byte).toNat) := by decide

theorem witness_JobCountsAddUp :
    (job .running).countLaw ∧ (job .running).targetLaw ∧ (job .running).issuable = true ∧
      { job .running with issued := 1, inFlight := 1 }.countLaw ∧
      1 ≤ { job .running with issued := 1, inFlight := 1 }.inFlight :=
  ⟨rfl, fun _ => by decide, by decide, rfl, by decide⟩

theorem witness_JobCountsAddUp_end :
    0 < { job .draining with inFlight := 1 }.inFlight ∧ (job .running).inFlight = 0 ∧
      { job .running with passed := 4 }.passed = (job .running).target ∧
      (job .draining).passed ≠ (job .draining).target ∧ (job .draining).serial = none ∧
      ({ serial7 with next := 1000000 } : SerialState).spec.encoding.maximum < 1000000 ∧
      serial7.next ≤ serial7.spec.encoding.maximum := by decide

theorem witness_SerialsAreIssuedAndReturned :
    { serial7 with reclaim := [1001] }.reclaim = [1001] ∧ serial7.reclaim = [] ∧
      { job .running with serial := some serial7 }.issuable = true ∧
      [1000, 1002].Pairwise (· < ·) ∧ 1001 ∉ [1000, 1002] := by decide

theorem witness_SerialsAreWrittenInFull : 9999 < 10 ^ 4 ∧ 0 < 10 ^ 9 ∧ 4294967295 < 4294967296 := by decide

theorem witness_quiet : State.reset.quiet := by unfold State.quiet; decide

/-- Channel 0 waiting with a disk seated, and a running job. -/
def waitingFloor (x : Channel) : Floor :=
  { (floorJ (job .running)).setChan 0 { x with state := .loaded } with waiting := [0] }

theorem witness_AnEvaluationIssuesDisks :
    ((waitingFloor Channel.reset).jobs.map (·.id)).Nodup ∧ ((waitingFloor Channel.reset).chan 0).frozen = false ∧
      (waitingFloor Channel.reset).lineHeld = false ∧ (waitingFloor Channel.reset).jobs = [] ++ job .running :: [] ∧
      Job.takes baseReady ((waitingFloor Channel.reset).chan 0).settings 0 (job .running) = true ∧
      baseReady.wprot.getLsbD 0 = false ∧ { baseReady with wprot := 1 }.wprot.getLsbD 0 = true ∧
      ((waitingFloor { Channel.reset with frozen := true }).chan 0).frozen = true := by decide

/-- R77: a drive of the image's heads and of the cylinders it needs is enough, one of fewer is not. -/
theorem test_takes :
    let needs (cylinders heads : Nat) : Base :=
      baseOf { image .ready [.data 3 0 9216] with opening := some ⟨.a, 0, 360, cylinders, heads⟩ }
    let drive (heads limit : Nat) : Settings := { Settings.reset with heads := heads, cylinderLimit := limit }
    Job.takes (needs 80 2) (drive 2 80) 0 (job .running) = true ∧
      Job.takes (needs 80 2) (drive 1 80) 0 (job .running) = false ∧
      Job.takes (needs 80 2) (drive 2 79) 0 (job .running) = false := by decide

theorem witness_SettlingTakesWhatIsDue :
    floor0.offers = [] ∧ floor0.updateLine.evalDue = false ∧
      ({ floor0 with evalDue := true }.updateLine.evaluate baseReady).offers = [] ∧
      { fullRing.floor with offers := [6] }.updateLine.evalDue = false ∧
      busy.JobLaw ∧ busy.floor.offers.length ≤ 8 :=
  ⟨rfl, by decide, by decide, by decide, witness_TheJobQueueKeepsItsBooks, by decide⟩

theorem witness_FreeingServesTheWaiters :
    fullRing.floor.cursorLaw = true ∧ fullRing.floor.portB.follow = true ∧
      fullRing.floor.ring.records.length ≤ 64 ∧ fullRing.floor.ring.dropped ≤ 65535 ∧
      fullRing.floor.ring.waiters = [6, 1] ∧ [(6 : Chan), 1].Nodup ∧
      (∀ c ∈ [(6 : Chan), 1], (fullRing.floor.chan c).record = some (record 0).body) ∧
      { fullRing.floor.portB with follow := false }.follow = false ∧ floor0.portA.follow = false := by decide

/-! Drives. -/

theorem witness_DriveSettingsAreClamped :
    (State.reset.floor.chan 7).state = .disabled ∧ (63 : Byte).toNat ≤ 63 ∧
      ((waitingFloor Channel.reset).chan 0).state = .loaded ∧
      ((withChan (producing .plan)).floor.chan 0).state ∈
        [ChannelState.spinup, .recal, .producing, .paused, .posting, .unloading] ∧
      7 < (8 : Byte).toNat ∧ 63 < (64 : Byte).toNat ∧ [(3 : Byte), 15, 2, 80, 100, 4].length = 6 := by decide

/-- The least channel, format, cylinder, head and flag value that is refused, and the most that is not. -/
theorem test_values_out_of_range :
    let status (i : Instr) : Option Status := statusA (exec i State.reset)
    status (.readDrive .a [8]) = some .badValue ∧ status (.readDrive .a [7]) = some .ok ∧
      status (.freezeDrive .a [8]) = some .badValue ∧ status (.setDrive .a [0, 64, 0, 0, 0, 0, 0, 0]) = some .badValue ∧
      status (.readFormat .a [16]) = some .badValue ∧ status (.readFormat .a [15]) = some .noFormat ∧
      status (.planQuery .a [15, 84, 0]) = some .badValue ∧ status (.planQuery .a [15, 83, 2]) = some .badValue ∧
      status (.planQuery .a [15, 83, 1]) = some .noFormat ∧ status (.setLineHold .a [2]) = some .badValue ∧
      status (.setResultFollow .a [2]) = some .badValue := by decide

/-- Channel 0 in a state. -/
def inState (state : ChannelState) : State := withChan { Channel.reset with state := state }

theorem witness_DriveRequestsMoveTheChannel :
    (inState .disabled).ready .a ∧ ((inState .paused).floor.chan 0).state = .paused ∧
      ((inState .loaded).floor.chan 0).state = .loaded ∧ ((inState .fault).floor.chan 0).state = .fault ∧
      ((inState .unloading).floor.chan 0).state ∈ [ChannelState.empty, .loaded, .posting, .unloading] ∧
      ((inState .disabled).floor.drive 0).seated = false ∧
      ((floor0.modDrive 0 fun d => { d with seated := true }).drive 0).seated = true ∧
      (busyFloor.chan 0).state ∈ [ChannelState.spinup, .recal, .producing, .paused] :=
  ⟨⟨rfl, rfl⟩, by decide⟩

theorem witness_AnAbortPostsTheDisk :
    ((withChan (producing .plan)).floor.chan 0).disk = some disk ∧
      ((withChan (producing .plan)).floor.chan 0).state ∈ [ChannelState.spinup, .recal, .producing, .paused] ∧
      ((withChan { producing .plan with state := .posting }).floor.chan 0).state ∉
        [ChannelState.spinup, .recal, .producing, .paused] := by decide

theorem witness_IndexEdgesAreCaptured :
    let x := (withChan (producing .write)).floor.chan 0
    (withChan (producing .write)).base.resetActive = false ∧ x.intervals.length ≤ 4 ∧ x.motor = true ∧
      x.state = .producing ∧ x.phase = some .write ∧ x.disk = some disk ∧ x.attempt.stream = none ∧
      ((withChan (producing .seek)).floor.chan 0).phase = some .seek ∧ (floor0.chan 0).motor = false ∧
      ∀ c, ((withChan (producing .write)).floor.chan c).intervals.length ≤ 4 := by decide

/-- Channel 0 in SPINUP, its fourth interval due with an edge at 200,000 µs. -/
def spinning (resuming : Bool) : Channel :=
  { producing .plan with
    state := .spinup, phase := none, resuming := resuming, intervals := [200000, 200000, 200000]
    spinupTimer := some 9 }

theorem witness_IndexEdgesAreCaptured_spinup :
    ((spinning false).captureEdge 200000).atSpeed baseReady = true ∧
      ((spinning false).captureEdge 300000).atSpeed baseReady = false ∧ (spinning true).disk = some disk ∧
      (spinning true).motor = true ∧ (spinning true).state = .spinup ∧ baseReady.trk0.getLsbD 0 = false ∧
      { baseReady with trk0 := 1 }.trk0.getLsbD 0 = true := by decide

/-- Channel 0 seeking, its step timer expired. -/
def seeking (target : Nat) : Channel := { producing .seek with stepTimer := some 0, seekTarget := some target }

/-- Channel 0 recalibrating after so many steps, its step timer expired. -/
def recalibrating (steps : Nat) : Channel :=
  { Channel.reset with state := .recal, motor := true, stepTimer := some 0, recalSteps := steps, disk := some disk }

theorem witness_TimersExpireOnceDue :
    let b := { baseReady with store := { baseReady.store with refreshPhase := 156 } }
    156 ≤ b.store.refreshPhase ∧ baseReady.store.refreshPhase < 156 ∧
      ((withChan { producing .seek with pulseTimer := some 0 }).floor.chan 0).pulseTimer = some 0 ∧
      ((withChan { producing .settle with settleTimer := some 0 }).floor.chan 0).settleTimer = some 0 ∧
      ((withChan { producing .settle with settleTimer := some 0 }).floor.chan 0).phase = some .settle ∧
      ((withChan { producing .settle with settleTimer := some 1 }).floor.chan 0).settleTimer ≠ some 0 := by decide

theorem witness_TimersExpireOnceDue_steps :
    (seeking 0).stepTimer = some 0 ∧ (seeking 0).state = .producing ∧ (seeking 0).seekTarget = some 0 ∧
      (seeking 0).cylinder = some 0 ∧ (seeking 0).settings.settleTime ≠ 0 ∧ (seeking 83).seekTarget = some 83 ∧
      (recalibrating 89).recalSteps < 90 ∧ 90 ≤ (recalibrating 90).recalSteps ∧
      baseReady.trk0.getLsbD 0 = false ∧ { baseReady with trk0 := 1 }.trk0.getLsbD 0 = true ∧
      (recalibrating 0).disk = some disk ∧ { producing .plan with watchdog := some 0 }.watchdog = some 0 ∧
      { producing .plan with spinupTimer := some 0 }.spinupTimer = some 0 := by decide

/-! Tracks. -/

/-- The Layout Engine building for channel 0, on a retry or not. -/
def building (retries : Nat) (discarded : Bool) : State :=
  let x := { producing .plan with disk := some { disk with retries := retries } }
  machine baseReady { floor0.setChan 0 x with
    engine := { queue := [], building := some { layout := format3Stored, discarded := discarded, request :=
      { channel := 0, format := 3, cylinder := 0, head := 0, data := some (0, 0), period := 200000,
        serial := none } } } }

theorem witness_TheEngineHandsItsPlanOver :
    State.reset.floor.engine.building = none ∧ (building 0 true).floor.engine.building.map (·.discarded) = some true ∧
      (building 1 false).floor.engine.building.map (·.discarded) = some false ∧
      ((building 1 false).floor.chan 0).state = .producing ∧ ((building 1 false).floor.chan 0).phase = some .plan ∧
      ((building 1 false).floor.chan 0).disk = some { disk with retries := 1 } ∧
      ((building 0 false).floor.chan 0).disk = some { disk with retries := 0 } ∧
      plan3.slots.map (·.source) = [.image 0] ∧ (producing .plan).cylinder = some 0 ∧
      (producing .plan).settings.settleTime ≠ 0 ∧
      (baseReady.image 0).entry 0 0 = some (.data 3 0 9216) ∧ baseReady.format 3 = some format3Stored ∧
      ((baseOf (image .ready [.erase])).image 0).entry 0 0 = some .erase := by decide

/-- The oldest of two requests is taken, with its descriptor as it stands. -/
theorem witness_TheEngineHandsItsPlanOver_next :
    let r (c : Chan) : PlanRequest :=
      { channel := c, format := 3, cylinder := 0, head := 0, data := none, period := 200000, serial := none }
    baseReady.format (r 1).format = some format3Stored ∧
      LayoutEngine.kick baseReady { queue := [r 1, r 2], building := none } =
        { queue := [r 2], building := some ⟨r 1, format3Stored, false⟩ } := by decide

/-- A seek from cylinder 10 to 14 makes its first step inward; at its target it settles at once. -/
theorem test_seek_starts :
    let x := { producing .plan with cylinder := some 10 }
    (x.startSeek 14 1).cylinder = some 11 ∧ (x.startSeek 14 1).dir = true ∧ (x.startSeek 14 1).side = true ∧
      (x.startSeek 14 1).stepTimer = some 3000 ∧ (x.startSeek 10 0).phase = some .settle ∧
      (x.startSeek 10 0).settleTimer = some 15000 := by decide

/-- Channel 0 in its write pass at a byte position, with image bytes buffered for slot 0. -/
def inWrite (position : Nat) (buffer : List (Nat × Byte)) : Channel :=
  { producing .write with
    buffer := buffer
    attempt := { Attempt.none with
      plan := some plan3, stream := some { position := position, crc := 0xFFFF, lastBit := false } } }

/-- The first data byte of `plan3` stands at 146 + 60. -/
theorem witness_AWritePassSendsItsBytes :
    let x := inWrite 206 [(0, 0x55)]
    x.state = .producing ∧ x.phase = some .write ∧ x.attempt.plan = some plan3 ∧
      plan3.layout.itemAt 0 = .gap ∧ 0 * 8000 ≤ sinceEdge baseReady x * plan3.layout.rate ∧
      ¬(206 * 8000 ≤ sinceEdge baseReady x * plan3.layout.rate) ∧ plan3.layout.itemAt 206 = .dataByte 0 0 ∧
      206 * 8000 ≤ sinceEdge { baseReady with timebase := 3296 } x * plan3.layout.rate ∧
      (plan3.slots[0]?.map SlotPlan.source) = some (.image 0) ∧ x.buffer = (0, 0x55) :: [] ∧
      { x with attempt := { x.attempt with plan := none } }.attempt.stream = x.attempt.stream ∧
      x.lastStamp = some 0 := by decide

/-- The last data byte of `plan3`, on a verified disk and on one that is not. -/
theorem witness_AWritePassSendsItsBytes_fetch :
    let x := inWrite 333 []
    let verified := { x with disk := some { disk with verified := true } }
    x.attempt.plan = some plan3 ∧ x.disk = some disk ∧ plan3.slots ≠ [] ∧
      128 * 2 ^ plan3.layout.sizeCode = 128 ∧ plan3.slots[0]?.map SlotPlan.source = some (.image 0) ∧
      verified.fetchAfter (.dataByte 0 127) = [{ slot := 0, offset := 0, remaining := 128 }] ∧
      verified.fetchAfter (.dataByte 0 126) = [] ∧ x.fetchAfter (.dataByte 0 127) = [] := by decide

/-- The items of `plan3` from its index field to its data CRC (R9). -/
theorem test_items :
    let item := plan3.layout.itemAt
    item 80 = .sync ∧ item 92 = .markPrefix ∧ item 95 = .indexMark ∧ item 96 = .gap ∧ item 146 = .sync ∧
      item 161 = .headerMark 0 ∧ item 165 = .headerByte 0 3 ∧ item 166 = .headerCrc 0 0 ∧ item 168 = .gap ∧
      item 205 = .dataMark 0 ∧ item 333 = .dataByte 0 127 ∧ item 335 = .dataCrc 0 1 ∧ item 336 = .gap := by decide

/-- The stream of `plan3` ends its last data CRC with byte 335. -/
theorem witness_PassesEndAtTheIndexEdge :
    plan3.layout.used - plan3.layout.sectorGap = 336 ∧ plan3.layout.fixedPart = 146 ∧ plan3.layout.sectors = 1 ∧
      plan3.layout.fixedPart + 0 * plan3.layout.sectorLen ≤ 335 ∧
      335 < plan3.layout.fixedPart + (0 + 1) * plan3.layout.sectorLen ∧
      (inWrite 335 []).motor = true ∧ (inWrite 335 []).attempt.plan = some plan3 ∧ disk.verified = false ∧
      { disk with verified := true }.verified = true := by decide

/-- Channel 0 in verify at a phase of slot 0. -/
def inVerify (phase : ReadPhase) (buffer : List (Nat × Byte)) : Channel :=
  { producing .verify with
    buffer := buffer
    attempt := { Attempt.none with
      plan := some plan3, results := [none], pass := 1,
      read := some { slots := [0], phase := phase, searchFrom := 0, prefixes := 0, spill := false } } }

/-- A first pass whose slot was not found, at a narrower window and at the full one. -/
theorem witness_PassesEndAtTheIndexEdge_verify :
    let x := inVerify .seekHeader []
    x.phase = some .verify ∧ x.attempt.plan = some plan3 ∧ x.attempt.closeResults = [some .missing] ∧
      failedSlots x.attempt.closeResults = [0] ∧ { disk with window := .w75 }.window ≠ .full ∧
      disk.window = .full ∧ 0 < x.attempt.results.length ∧
      (inVerify (.ended .ok) []).attempt.closeResults = [some .ok] := by decide

theorem witness_GoodTracksLeadToTheNext :
    disk.retries = 0 ∧ 0 < { disk with retries := 1 }.retries ∧ disk.retryLimit ≤ disk.retries ∧
      { disk with retryLimit := 1 }.retries < { disk with retryLimit := 1 }.retryLimit ∧
      (baseReady.image 0).opening = some ⟨.a, 0, 360, 1, 1⟩ ∧ (∀ e ∈ (baseReady.image 0).trackMap.drop 1, e = .skip) ∧
      (baseReady.image 0).trackMap[0]? = some (.data 3 0 9216) ∧ (producing .write).meanPeriod = some 200000 ∧
      format3Stored.pmin ≤ 200000 ∧ 200000 ≤ format3Stored.pmax ∧
      ((baseOf (image .ready [.erase])).image 0).entry 0 0 = some .erase ∧
      ((baseOf (image .ready [.formatOnly 3])).image 0).entry 0 0 = some (.formatOnly 3) ∧
      Channel.reset.meanPeriod = none := by decide

/-- R123, R143: the boundary after the last track returns retries used to 0 as the disk posts. -/
theorem test_last_boundary :
    let f := floor0.setChan 0 { producing .write with disk := some { disk with retries := 2 } }
    ((f.boundary baseReady 0 1).chan 0).disk.map (·.retries) = some 0 ∧
      ((f.boundary baseReady 0 1).chan 0).state = .posting := by decide

theorem witness_UnderrunsEndTheAttempt :
    (inWrite 206 []).buffer = [] ∧ (inWrite 206 []).state = .producing ∧
      206 * 8000 ≤ sinceEdge { baseReady with timebase := 3296 } (inWrite 206 []) * plan3.layout.rate ∧
      (inVerify (.data 0 0xFFFF false) []).buffer = [] ∧ (inVerify (.data 0 0xFFFF false) []).phase = some .verify ∧
      disk.retryLimit ≤ disk.retries ∧ { disk with retryLimit := 1 }.retries < 1 ∧
      (baseReady.image 0).entry 0 0 = some (.data 3 0 9216) ∧ (producing .write).meanPeriod = some 200000 ∧
      baseReady.format 3 = some format3Stored ∧ format3Stored.pmin ≤ 200000 ∧ 200000 ≤ format3Stored.pmax := by
  decide

/-- The limits of `plan3`'s slot 0: 146 + 16 + 22 for the header mark and 146 + 60 + 22 for the data mark. -/
theorem witness_HeadersAndMarksAreSought :
    let x := inVerify .seekHeader []
    let now (t : Word32) : Nat := sinceEdge { baseReady with timebase := t } x * plan3.layout.rate
    x.state = .producing ∧ x.disk = some disk ∧ (plan3.slots[0]?).isSome = true ∧
      now 2944 ≤ (146 + 16 + 22) * 8000 ∧ (146 + 16 + 22) * 8000 < now 2945 ∧
      now 3648 ≤ (146 + 60 + 22) * 8000 ∧ (146 + 60 + 22) * 8000 < now 3649 ∧
      (inVerify .seekData []).attempt.read.map ReadSide.phase = some .seekData ∧
      (inVerify (.header [0, 0, 1, 0, 0xFF]) []).attempt.read.map ReadSide.phase =
        some (.header [0, 0, 1, 0, 0xFF]) := by decide

/-- R134: a transition in the half-cell after the byte that is early in it sets the byte's last half-cell at 75%,
and belongs to the next byte at 100%. -/
theorem test_early_transition :
    decodeFlux .w75 false [257] = (0, 1, false) ∧ decodeFlux .full false [257] = (0, 0, false) := by decide

theorem witness_ReadBackIsTestedSlotBySlot :
    (inVerify (.data 127 0xFFFF false) [(0, 1)]).state = .producing ∧
      (inVerify (.data 127 0xFFFF false) [(0, 1)]).phase = some .verify ∧
      (inVerify (.data 127 0xFFFF false) [(0, 1)]).disk = some disk ∧
      (inVerify (.data 127 0xFFFF false) [(0, 1)]).buffer = (0, 1) :: [] ∧
      (inVerify (.dataCheck 0xFFFF false [0xFF]) []).attempt.plan = some plan3 ∧
      (inVerify (.dataCheck 0xFFFF false []) []).attempt.read.map ReadSide.phase = some (.dataCheck 0xFFFF false []) ∧
      (inVerify (.data 0 0xFFFF false) [(1, 7)]).buffer.head?.map Prod.fst = some 1 ∧
      (inVerify (.ended .ok) []).attempt.read.map ReadSide.phase = some (.ended .ok) ∧
      { inVerify (.ended .ok) [] with fetch := [⟨0, 0, 32⟩, ⟨1, 128, 128⟩] }.fetch.filter
        (fun (i : FetchItem) => decide (i.slot ≠ 0)) = [⟨1, 128, 128⟩] := by decide

/-- A FORMAT-ONLY track's expected bytes are the data fill (R136). -/
theorem witness_ReadBackIsTestedSlotBySlot_fill :
    let request : PlanRequest :=
      { channel := 0, format := 3, cylinder := 0, head := 0, data := none, period := 200000, serial := none }
    (buildPlan plan3.layout request).slots.head?.map (·.source) = some (.fill plan3.layout.dataFill) := by decide

/-! Results, the handler and the ports. -/

theorem witness_TheCaptureKeepsTheFirstHardEvent : disk.softCount = 0 := rfl

set_option maxRecDepth 20000 in
theorem witness_TheRingTakesOrHoldsARecord :
    let unfollowed : Floor := { fullRing.floor with portB := { fullRing.floor.portB with follow := false } }
    (fullRing.floor.chan 6).record = some (record 0).body ∧ 64 ≤ fullRing.floor.ring.records.length ∧
      (ringFloor 100 162 151 101 false [6]).ring.records.length < 64 ∧ fullRing.floor.portB.follow = true ∧
      unfollowed.ring.records.length = 64 ∧ unfollowed.portA.follow = false ∧ unfollowed.portB.follow = false ∧
      unfollowed.cursorLaw = true ∧ unfollowed.ring.records.head? = some (record 100) ∧
      (busyFloor.jobs.map (·.id)).Nodup := by decide

/-- The handler lines of drive 0, its debounce expired, and channel 0 in a state. -/
def debounced (raw : Bool) (state : ChannelState) : Floor :=
  (floor0.setChan 0 { Channel.reset with state := state }).modDrive 0 fun d =>
    { d with rawSeated := raw, seated := !raw, debounce := some 0 }

theorem witness_TheHandlersLinesAreTaken :
    (floor0.drive 0).rawSeated = false ∧ (floor0.drive 0).rawSeated ≠ true ∧ (floor0.drive 0).debounce ≠ some 0 ∧
      ((debounced true .empty).drive 0).debounce = some 0 ∧ ((debounced true .empty).drive 0).rawSeated = true ∧
      ((debounced true .empty).drive 0).seated = false ∧ ((debounced true .empty).chan 0).state = .empty ∧
      ((debounced false .unloading).drive 0).seated = true ∧
      ((debounced false .unloading).chan 0).state = .unloading ∧
      ((debounced false .unloading).chan 0).fault = none ∧ State.reset.floor.lineHeld = false ∧
      ((debounced false .posting).chan 0).state = .posting ∧ ((debounced false .loaded).chan 0).state = .loaded ∧
      (debounced false .disabled).partPulls = false := by decide

/-- The handler alone holds the line, and its release leaves no offer to make. -/
theorem witness_line_held :
    let s := machine baseReady { floor0 with line := { internal := false, recorded := true, handler := true } }
    s.ready .a ∧ s.quiet ∧ s.floor.lineHeld = true ∧ s.floor.partPulls = false ∧
      (floor0.evaluate s.base).offers = [] :=
  ⟨⟨rfl, rfl⟩, by unfold State.quiet; decide, rfl, rfl, rfl⟩

/-- Port A transferring with so many frames held. -/
def holding (n : Nat) : PortContext :=
  { (writing (image .loading [.skip]) 1).floor.portA with hold := List.replicate n (.error .shortFrame) }

theorem witness_WindowsFetchAndFramesAreHeld :
    floor0.portA.transfer = none ∧ floor0.portA.pending = none ∧
      { floor0.portA with pending := some noReply }.pending = some noReply ∧ (holding 3).transfer.isSome = true ∧
      (holding 3).hold.length < 4 ∧ 4 ≤ (holding 4).hold.length ∧
      judge (windowBytes (List.replicate 8 true)) = .error .shortFrame ∧
      (Instr.readRing .a []).frame? = some (.readRing, .a, []) ∧ Request.readRing ≠ .portReset ∧
      (Instr.readRing .a []).wellFormed = true ∧
      floor0.portA.startFetch.window = some { reply := noReply, pending := false } := by decide

/-- R174: SDO carries FF hex outside a fetch window. -/
theorem test_sdo_idle : floor0.portA.sdo 1 = 0xFF ∧ floor0.portA.startFetch.sdo 1 = Status.code .noReply := by decide

theorem witness_PortRequestsActOnTheirPort :
    readEventSet [7, 1, 2, 3, 4, 5, 6, 7] =
        some [.imageReady, .imageBad, .jobEnded, .resultsWaiting, .driveFault, .lineChanged, .resultsDropped] ∧
      (2 : Byte) ≠ 0 ∧ (2 : Byte) ≠ 1 ∧ readEventSet [1, 8, 0, 0, 0, 0, 0, 0] = none ∧ readEventSet [8, 1, 2, 3, 4, 5, 6, 7] = none ∧
      readEventSet [1, 0, 7, 0, 0, 0, 0, 0] = none ∧ readEventSet [3, 7, 1, 7, 0, 9, 9, 9] =
        some [.imageReady, .resultsDropped] ∧
      (∀ r ∈ floor0.ring.records, r.sequence ≠ floor0.portA.resultCursor) ∧
      (ringFloor 5 5 5 5 false []).ring.records = [] ++ record 5 :: [] ∧
      (ringFloor 5 5 5 5 false []).portA.resultCursor = (record 5).sequence ∧
      (ringFloor 5 5 5 5 false []).portA.follow = false ∧ (ringFloor 5 5 5 5 false []).portB.follow = true ∧
      { floor0.portA with events := [.jobEnded], mask := [.jobEnded] }.attn = true := by decide

end Sys2Proof.Tests
end

