-- ==== Sys2Proof/Proofs/Scope.lean ====
section
/-! SUPPORT. The RESET pin and the timebase: what RESET_PIN_ASSERT, RESET_PIN_RELEASE and TIMEBASE_TICK answer, how
the state they leave reads place by place, and the statements settled from that. -/

namespace Sys2Proof.Machine

/-! The commands. -/

theorem exec_resetPinAssert (s : State) : exec .resetPinAssert s = .next s.assertReset := rfl

/-- R185, entry 1: a release ends a reset only where one stands. -/
theorem exec_resetPinRelease (size1 size0 : Bool) (s : State) (h : s.base.resetActive = true) :
    exec (.resetPinRelease size1 size0) s = .next (s.releaseReset size1 size0) := by
  simp [exec, execResetPinRelease, h]

/-- Out of reset a tick senses the inputs and then lets the microsecond pass. -/
theorem exec_timebaseTick (trk0 wprot : BitVec 8) (s : State) (h : s.base.resetActive = false) :
    exec (.timebaseTick trk0 wprot) s = .next { s with base := s.base.sense trk0 wprot }.tick := by
  have active : (s.base.sense trk0 wprot).resetActive = false := h
  simp [exec, execTimebaseTick, State.taken, active]

/-! RESET active: the vectors of the reset state, place by place. -/

@[simp] theorem State.assertReset_format (s : State) (f : FormatId) : s.assertReset.base.format f = none := by
  simp [State.assertReset, Base.format, Base.reset]

@[simp] theorem State.assertReset_image (s : State) (k : SlotId) :
    s.assertReset.base.image k = ImageSlot.reset := by
  simp [State.assertReset, Base.image, Base.reset]

@[simp] theorem State.assertReset_chan (s : State) (c : Chan) : s.assertReset.floor.chan c = Channel.reset := by
  simp [State.assertReset, Floor.chan, Floor.reset]

@[simp] theorem State.assertReset_port (s : State) (p : PortId) :
    s.assertReset.floor.port p = PortContext.reset := by
  cases p <;> rfl

@[simp] theorem State.assertReset_drive (s : State) (c : Chan) :
    s.assertReset.floor.drive c = DriveLines.reset (s.floor.drive c).rawSeated := by
  simp [State.assertReset, Floor.drive]

/-! RESET released. -/

/-- R165: each raw SEATED level is examined in its place. -/
@[simp] theorem Floor.endReset_drive (f : Floor) (c : Chan) : f.endReset.drive c = (f.drive c).examine := by
  simp [Floor.endReset, Floor.drive]

/-- Settles O16: the reset state read place by place, and the release from `Floor.endReset_drive`. -/
theorem resetPinResetsThePart : Obligations.ResetPinResetsThePart := by
  unfold Obligations.ResetPinResetsThePart
  constructor
  · intro s
    exact ⟨s.assertReset, exec_resetPinAssert s,
      rfl, rfl, rfl, rfl, rfl, rfl, rfl, rfl, s.assertReset_format, s.assertReset_image,
      rfl, rfl, rfl, rfl, rfl, rfl, rfl, rfl, rfl, rfl, rfl, rfl, rfl, rfl, rfl, rfl, rfl, rfl,
      s.assertReset_chan, rfl, s.assertReset_port, s.assertReset_drive⟩
  · intro size1 size0 s active
    exact ⟨s.releaseReset size1 size0, exec_resetPinRelease size1 size0 s active, rfl, rfl, rfl, rfl, rfl,
      s.floor.endReset_drive⟩

/-! One microsecond (R1, R101, R149, R165). -/

@[simp] theorem State.tick_chan (s : State) (c : Chan) : s.tick.floor.chan c = (s.floor.chan c).tick := by
  simp [State.tick, Floor.chan]

@[simp] theorem State.tick_drive (s : State) (c : Chan) : s.tick.floor.drive c = (s.floor.drive c).tick := by
  simp [State.tick, Floor.drive]

/-- Below the ten thousandth microsecond only the rest of the elapsed count moves (R149). -/
theorem Disk.tick_of_lt (k : Disk) (h : k.elapsedRest + 1 < 10000) :
    k.tick = { k with elapsedRest := k.elapsedRest + 1 } := by
  simp [Disk.tick, h]

/-- The ten thousandth microsecond counts one elapsed unit, up to 65,535 (R149). -/
theorem Disk.tick_of_full (k : Disk) (h : k.elapsedRest = 9999) :
    k.tick = { k with elapsedRest := 0, elapsed := min 65535 (k.elapsed + 1) } := by
  simp [Disk.tick, h, satAdd]

theorem Disk.tick_iterate_of_lt (n : Nat) (k : Disk) (h : k.elapsedRest + n < 10000) :
    Disk.tick^[n] k = { k with elapsedRest := k.elapsedRest + n } := by
  induction n with
  | zero => rfl
  | succ n ih =>
    rw [Function.iterate_succ_apply', ih (by omega), Disk.tick_of_lt _ h]
    rfl

/-- Ten thousand ticks from any rest: up to 9,999, once round, and up to the rest again. -/
theorem Disk.tick_iterate_tenThousand (k : Disk) (h : k.elapsedRest < 10000) :
    Disk.tick^[10000] k = { k with elapsed := min 65535 (k.elapsed + 1) } := by
  have round : 10000 = k.elapsedRest + (1 + (9999 - k.elapsedRest)) := by omega
  have full : k.elapsedRest + (9999 - k.elapsedRest) = 9999 := by omega
  calc Disk.tick^[10000] k
      = Disk.tick^[k.elapsedRest] (Disk.tick (Disk.tick^[9999 - k.elapsedRest] k)) := by
        rw [congrArg (Disk.tick^[·] k) round]
        simp only [Function.iterate_add_apply, Function.iterate_one]
    _ = Disk.tick^[k.elapsedRest] { k with elapsedRest := 0, elapsed := min 65535 (k.elapsed + 1) } := by
        rw [Disk.tick_iterate_of_lt _ k (by omega), Disk.tick_of_full _ full]
    _ = { k with elapsed := min 65535 (k.elapsed + 1) } := by
        rw [Disk.tick_iterate_of_lt _ _ (by simpa using h)]
        simp

/-- Settles O18: a tick is taken at each of its places, and ten thousand of them go once round the rest. -/
theorem aMicrosecondPasses : Obligations.AMicrosecondPasses := by
  unfold Obligations.AMicrosecondPasses
  exact ⟨Disk.tick_iterate_tenThousand, fun trk0 wprot s running =>
    ⟨_, exec_timebaseTick trk0 wprot s running, rfl, State.tick_chan _, State.tick_drive _, rfl, rfl, rfl⟩⟩

end Sys2Proof.Machine
end

/-! SUPPORT. Where the bytes of a track stand (R9) and where its sectors go (R15): the layout arithmetic of a
descriptor read field by field, and the placement of sectors as an invariant of the slots filled so far. -/

namespace Sys2Proof.Machine

/-! The order of a track's bytes (R9): a run of fields, and the place of its k-th field. -/

/-- The length of a run of fields. -/
def runLength (fields : List (Nat × (Nat → StreamItem))) : Nat := (fields.map Prod.fst).sum

/-- Where the k-th field of a run begins. -/
def fieldStart (fields : List (Nat × (Nat → StreamItem))) (k : Nat) : Nat := runLength (fields.take k)

/-- Each item of a run stands in its field, after all the fields before. -/
theorem locate_field {fields : List (Nat × (Nat → StreamItem))} {k len i : Nat} {item : Nat → StreamItem}
    (field : fields[k]? = some (len, item)) (h : i < len) : locate fields (fieldStart fields k + i) = item i := by
  induction fields generalizing k with
  | nil => simp at field
  | cons first rest ih =>
    cases k with
    | zero =>
      obtain rfl : first = (len, item) := by simpa using field
      simp [fieldStart, runLength, locate, h]
    | succ k =>
      have start : fieldStart (first :: rest) (k + 1) = first.1 + fieldStart rest k := by
        simp [fieldStart, runLength]
      rw [start, Nat.add_assoc, ← ih (by simpa using field)]
      simp [locate]

theorem fieldStart_add_le {fields : List (Nat × (Nat → StreamItem))} {k len : Nat} {item : Nat → StreamItem}
    (field : fields[k]? = some (len, item)) : fieldStart fields k + len ≤ runLength fields := by
  obtain ⟨hk, value⟩ := List.getElem?_eq_some_iff.mp field
  have split : fields.take k ++ (len, item) :: fields.drop (k + 1) = fields := by
    rw [← value, List.getElem_cons_drop hk, List.take_append_drop]
  have sum := congrArg runLength split
  simp only [runLength, List.map_append, List.map_cons, List.sum_append, List.sum_cons] at sum
  simp only [fieldStart, runLength]
  omega

/-- The fixed part is the run of its fields (R12). -/
theorem Descriptor.fixedPart_eq (d : Descriptor) : d.fixedPart = runLength d.fixedFields := by
  cases he : d.encoding <;> cases hf : d.indexField <;>
    simp [fixedPart, indexLen, runLength, fixedFields, syncLen, prefixLen, he, hf] <;> omega

/-- A sector with its gap is the run of its fields (R9, R13). -/
theorem Descriptor.sectorLen_eq (d : Descriptor) (j : Nat) : d.sectorLen = runLength (d.sectorFields j) := by
  cases he : d.encoding <;>
    simp [sectorLen, sectorFixed, runLength, sectorFields, syncLen, prefixLen, headerGap, he] <;> omega

/-- A byte of the fixed part. -/
theorem Descriptor.itemAt_fixedField (d : Descriptor) {k len i x : Nat} {item : Nat → StreamItem}
    (field : d.fixedFields[k]? = some (len, item)) (h : i < len) (place : x = fieldStart d.fixedFields k + i) :
    d.itemAt x = item i := by
  have inside : fieldStart d.fixedFields k + i < d.fixedPart := by
    have := fieldStart_add_le field
    rw [d.fixedPart_eq]; omega
  rw [place, itemAt, if_pos inside, locate_field field h]

/-- A byte of a sector. -/
theorem Descriptor.itemAt_sectorField (d : Descriptor) {j k len i x : Nat} {item : Nat → StreamItem}
    (hj : j < d.sectors) (field : (d.sectorFields j)[k]? = some (len, item)) (h : i < len)
    (place : x = d.fixedPart + j * d.sectorLen + (fieldStart (d.sectorFields j) k + i)) : d.itemAt x = item i := by
  have inside : fieldStart (d.sectorFields j) k + i < d.sectorLen := by
    have := fieldStart_add_le field
    rw [d.sectorLen_eq j]; omega
  have past : ¬x < d.fixedPart := by omega
  have offset : x - d.fixedPart = fieldStart (d.sectorFields j) k + i + j * d.sectorLen := by omega
  have slot : (x - d.fixedPart) / d.sectorLen = j := by
    rw [offset, Nat.add_mul_div_right _ _ (by omega), Nat.div_eq_of_lt inside, Nat.zero_add]
  have rest : (x - d.fixedPart) % d.sectorLen = fieldStart (d.sectorFields j) k + i := by
    rw [offset, Nat.add_mul_mod_self_right, Nat.mod_eq_of_lt inside]
  simp only [itemAt, if_neg past, slot, rest, if_pos hj, locate_field field h]

/-- After the last sector's gap only gap fill follows (R9). -/
theorem Descriptor.itemAt_beyond (d : Descriptor) {x : Nat} (h : d.fixedPart + d.sectors * d.sectorLen ≤ x) :
    d.itemAt x = .gap := by
  have past : ¬x < d.fixedPart := by omega
  have length : 0 < d.sectorLen := by
    cases he : d.encoding <;> simp [sectorLen, sectorFixed, he]
  have beyond : ¬(x - d.fixedPart) / d.sectorLen < d.sectors := by
    rw [Nat.div_lt_iff_lt_mul length]; omega
  simp only [itemAt, if_neg past, if_neg beyond]

/-- A marked field opens at a position with sync and, in MFM, mark prefixes (R9). -/
def Descriptor.leadsAt (d : Descriptor) (at0 : Nat) : Prop :=
  (∀ i < d.syncLen, d.itemAt (at0 + i) = .sync) ∧ ∀ i < d.prefixLen, d.itemAt (at0 + d.syncLen + i) = .markPrefix

/-- The lead gap, the index field and the opening gap stand in this order (R9). -/
theorem Descriptor.fixed_layout (d : Descriptor) :
    (∀ i < d.leadGap, d.itemAt i = .gap) ∧
    (d.indexField = true →
      d.leadsAt d.leadGap ∧ d.itemAt (d.leadGap + d.syncLen + d.prefixLen) = .indexMark) ∧
    ∀ i < d.openingGap, d.itemAt (d.leadGap + d.indexLen + i) = .gap := by
  refine ⟨fun i hi => ?_, fun given => ?_, fun i hi => ?_⟩
  · exact d.itemAt_fixedField (k := 0) rfl hi (by simp [fieldStart, runLength])
  · have fields : d.fixedFields = [(d.leadGap, fun _ => .gap), (d.syncLen, fun _ => .sync),
        (d.prefixLen, fun _ => .markPrefix), (1, fun _ => .indexMark), (d.openingGap, fun _ => .gap)] := by
      simp [fixedFields, given]
    have field (k : Nat) {len i x : Nat} {item : Nat → StreamItem} (h : d.fixedFields[k]? = some (len, item))
        (hi : i < len) (place : x = fieldStart d.fixedFields k + i) := d.itemAt_fixedField h hi place
    rw [fields] at field
    refine ⟨⟨fun i hi => field 1 rfl hi ?_, fun i hi => field 2 rfl hi ?_⟩, field 3 rfl Nat.one_pos ?_⟩
    all_goals simp [fieldStart, runLength, Nat.add_assoc]
  · have last : d.fixedFields[d.fixedFields.length - 1]? = some (d.openingGap, fun _ => .gap) := by
      cases given : d.indexField <;> simp [fixedFields, given]
    refine d.itemAt_fixedField last hi ?_
    cases he : d.encoding <;> cases given : d.indexField <;>
      simp [fieldStart, runLength, fixedFields, indexLen, syncLen, prefixLen, he, given]

/-- In every sector the header field, the header gap, the data field and the sector gap stand in this order (R9). -/
theorem Descriptor.sector_layout (d : Descriptor) {j : Nat} (hj : j < d.sectors) :
    let start := d.fixedPart + j * d.sectorLen
    let header := start + d.syncLen + d.prefixLen
    let data := header + 7 + d.headerGap + d.syncLen + d.prefixLen
    d.leadsAt start ∧ d.itemAt header = .headerMark j ∧
      (∀ i < 4, d.itemAt (header + 1 + i) = .headerByte j i) ∧
      (∀ i < 2, d.itemAt (header + 5 + i) = .headerCrc j i) ∧
      (∀ i < d.headerGap, d.itemAt (header + 7 + i) = .gap) ∧
      d.leadsAt (header + 7 + d.headerGap) ∧ d.itemAt data = .dataMark j ∧
      (∀ i < d.sectorSize, d.itemAt (data + 1 + i) = .dataByte j i) ∧
      (∀ i < 2, d.itemAt (data + 1 + d.sectorSize + i) = .dataCrc j i) ∧
      (∀ i < d.sectorGap, d.itemAt (data + 3 + d.sectorSize + i) = .gap) := by
  have field (k : Nat) {len i x : Nat} {item : Nat → StreamItem}
      (h : (d.sectorFields j)[k]? = some (len, item)) (hi : i < len)
      (place : x = d.fixedPart + j * d.sectorLen + (fieldStart (d.sectorFields j) k + i)) :=
    d.itemAt_sectorField hj h hi place
  have mark (k : Nat) {x : Nat} {item : StreamItem} (h : (d.sectorFields j)[k]? = some (1, fun _ => item))
      (place : x = d.fixedPart + j * d.sectorLen + (fieldStart (d.sectorFields j) k + 0)) : d.itemAt x = item :=
    d.itemAt_sectorField hj h Nat.one_pos place
  refine ⟨⟨fun i hi => field 0 rfl hi ?_, fun i hi => field 1 rfl hi ?_⟩, mark 2 rfl ?_,
    fun i hi => field 3 rfl hi ?_, fun i hi => field 4 rfl hi ?_, fun i hi => field 5 rfl hi ?_,
    ⟨fun i hi => field 6 rfl hi ?_, fun i hi => field 7 rfl hi ?_⟩, mark 8 rfl ?_,
    fun i hi => field 9 rfl hi ?_, fun i hi => field 10 rfl hi ?_, fun i hi => field 11 rfl hi ?_⟩ <;>
    simp [fieldStart, runLength, sectorFields] <;> omega

/-- The index field is sync, prefixes and one mark (R9, R12). -/
theorem Descriptor.indexLen_eq (d : Descriptor) :
    d.indexLen = if d.indexField then d.syncLen + d.prefixLen + 1 else 0 := by
  cases he : d.encoding <;> simp [indexLen, syncLen, prefixLen, he]

/-- The per-sector fixed part is two marked fields, four header bytes and the header gap (R9). -/
theorem Descriptor.sectorFixed_eq (d : Descriptor) :
    d.sectorFixed = 2 * (d.syncLen + d.prefixLen + 1 + 2) + 4 + d.headerGap := by
  cases he : d.encoding <;> simp [sectorFixed, syncLen, prefixLen, headerGap, he]

/-- Settles O27: the fixed part and the sectors by their runs of fields, with the lengths of R12 and R13 written
out. -/
theorem trackBytesStandInTheirPlaces : Obligations.TrackBytesStandInTheirPlaces := by
  unfold Obligations.TrackBytesStandInTheirPlaces
  intro d
  have first : d.fixedPart =
      d.leadGap + (if d.indexField then d.syncLen + d.prefixLen + 1 else 0) + d.openingGap :=
    congrArg (d.leadGap + · + d.openingGap) d.indexLen_eq
  have sector : d.sectorLen =
      2 * (d.syncLen + d.prefixLen + 1 + 2) + 4 + d.headerGap + d.sectorSize + d.sectorGap :=
    congrArg (· + d.sectorSize + d.sectorGap) d.sectorFixed_eq
  have used : d.used = d.fixedPart + d.sectors * d.sectorLen := rfl
  obtain ⟨lead, index, opening⟩ := d.fixed_layout
  have sectors := fun j (hj : j < d.sectors) => d.sector_layout hj
  have beyond := fun x (h : d.fixedPart + d.sectors * d.sectorLen ≤ x) => d.itemAt_beyond h
  simp only [d.indexLen_eq] at opening
  simp only [first, sector] at sectors beyond used
  exact ⟨lead, index, opening, sectors, beyond, first, sector, used, rfl⟩

/-! Placement (R15). -/

/-- The search stops at the first free slot, each step advancing by one mod n (R15). -/
theorem freeSlot_spec (placed : List (Option Nat)) (n fuel cand : Nat) (hc : cand < n)
    (free : ∃ t < fuel, placed.getD ((cand + t) % n) none = none) :
    ∃ steps < fuel, freeSlot placed n fuel cand = (cand + steps) % n ∧
      placed.getD ((cand + steps) % n) none = none ∧
      ∀ i < steps, (placed.getD ((cand + i) % n) none).isSome := by
  induction fuel generalizing cand with
  | zero => simp at free
  | succ fuel ih =>
    have here : (cand + 0) % n = cand := Nat.mod_eq_of_lt hc
    have later (t : Nat) : ((cand + 1) % n + t) % n = (cand + (t + 1)) % n := by
      rw [Nat.mod_add_mod]; congr 1; omega
    cases taken : placed.getD cand none with
    | none => exact ⟨0, by omega, by rw [freeSlot, taken, here]; rfl, by rw [here, taken], by simp⟩
    | some k =>
      have next : freeSlot placed n (fuel + 1) cand = freeSlot placed n fuel ((cand + 1) % n) := by
        rw [freeSlot, taken]; rfl
      obtain ⟨t, ht, hfree⟩ := free
      cases t with
      | zero => rw [here, taken] at hfree; cases hfree
      | succ t =>
        obtain ⟨steps, hsteps, value, stop, before⟩ :=
          ih ((cand + 1) % n) (Nat.mod_lt _ (by omega)) ⟨t, by omega, by rwa [later]⟩
        refine ⟨steps + 1, by omega, by rw [next, value, later], by rwa [← later], fun i hi => ?_⟩
        cases i with
        | zero => rw [here, taken]; rfl
        | succ i => rw [← later]; exact before i (by omega)

/-- The slots of a track with the sectors below `k` placed: each of them in one slot, every other slot free. -/
structure Placed (n k : Nat) (placed : List (Option Nat)) : Prop where
  length : placed.length = n
  sectors : placed.reduceOption.Perm (List.range k)

theorem Placed.start (n : Nat) : Placed n 0 (List.replicate n none) where
  length := List.length_replicate
  sectors := by rw [List.reduceOption_replicate_none]; rfl

/-- A placed sector is one of those below `k`. -/
theorem Placed.lt {n k : Nat} {placed : List (Option Nat)} (h : Placed n k placed) {slot v : Nat}
    (hv : placed[slot]? = some (some v)) : v < k :=
  List.mem_range.mp (h.sectors.mem_iff.mp (List.reduceOption_mem_iff.mpr (List.mem_of_getElem? hv)))

/-- With sectors left to place a slot is free. -/
theorem Placed.exists_free {n k : Nat} {placed : List (Option Nat)} (h : Placed n k placed) (hk : k < n) :
    ∃ slot < n, placed[slot]? = some none := by
  have fewer : placed.reduceOption.length < placed.length := by
    rw [h.sectors.length_eq, List.length_range, h.length]; exact hk
  obtain ⟨slot, hslot, value⟩ := List.getElem_of_mem (List.reduceOption_length_lt_iff.mp fewer)
  exact ⟨slot, h.length ▸ hslot, List.getElem?_eq_some_iff.mpr ⟨hslot, value⟩⟩

/-- With every sector placed each slot holds one: what the slots hold, in physical order, is the slots' list. -/
theorem Placed.map_some {n : Nat} {placed : List (Option Nat)} (h : Placed n n placed) :
    (placed.map fun k => k.getD 0).map some = placed := by
  have full : ∀ v ∈ placed, v.isSome := by
    rw [← List.reduceOption_length_eq_iff, h.sectors.length_eq, List.length_range, h.length]
  rw [List.map_map]
  refine List.map_congr_left (g := id) (fun v hv => ?_) |>.trans (List.map_id placed)
  obtain ⟨k, rfl⟩ := Option.isSome_iff_exists.mp (full v hv)
  rfl

/-- Placing the next sector in a free slot. -/
theorem Placed.set {n k slot : Nat} {placed : List (Option Nat)} (h : Placed n k placed)
    (free : placed[slot]? = some none) : Placed n (k + 1) (placed.set slot (some k)) where
  length := by rw [List.length_set, h.length]
  sectors := by
    obtain ⟨hslot, value⟩ := List.getElem?_eq_some_iff.mp free
    have split : placed.take slot ++ none :: placed.drop (slot + 1) = placed := by
      rw [← value, List.getElem_cons_drop hslot, List.take_append_drop]
    have after : (placed.set slot (some k)).reduceOption =
        (placed.take slot).reduceOption ++ k :: (placed.drop (slot + 1)).reduceOption := by
      rw [List.set_eq_take_append_cons_drop, if_pos hslot, List.reduceOption_append, List.reduceOption_cons_of_some]
    have before : (placed.take slot).reduceOption ++ (placed.drop (slot + 1)).reduceOption = placed.reduceOption := by
      rw [← List.reduceOption_cons_of_none (placed.drop (slot + 1)), ← List.reduceOption_append, split]
    rw [after, List.range_succ]
    refine List.perm_middle.trans (.trans ?_ (List.perm_append_singleton k _).symm)
    rw [before]
    exact h.sectors.cons k

/-- In a finished track, sector `k` stands in the first slot from `cand`, advancing by one mod n, that holds no
earlier sector (R15). -/
def FirstFrom (n cand k : Nat) (track : List (Option Nat)) : Prop :=
  ∃ steps < n, track[(cand + steps) % n]? = some (some k) ∧
    ∀ i < steps, ∃ j < k, track[(cand + i) % n]? = some (some j)

/-- One sector is placed: in a free slot, the first from the candidate. -/
theorem Placed.freeSlot_firstFrom {n k cand : Nat} {placed : List (Option Nat)} (h : Placed n k placed) (hk : k < n)
    (hc : cand < n) :
    placed[freeSlot placed n n cand]? = some none ∧
      FirstFrom n cand k (placed.set (freeSlot placed n n cand) (some k)) := by
  have present (slot : Nat) (hs : slot < n) (v : Option Nat) (hv : placed.getD slot none = v) :
      placed[slot]? = some v := by
    rw [← hv, List.getD_eq_getElem _ _ (h.length.symm ▸ hs)]
    exact List.getElem?_eq_getElem _
  obtain ⟨slot, hslot, hfree⟩ := h.exists_free hk
  have reach : ∃ t < n, placed.getD ((cand + t) % n) none = none := by
    refine ⟨(slot + (n - cand)) % n, Nat.mod_lt _ (by omega), ?_⟩
    have arrive : (cand + (slot + (n - cand)) % n) % n = slot := by
      rw [Nat.add_mod_mod, show cand + (slot + (n - cand)) = slot + n by omega, Nat.add_mod_right,
        Nat.mod_eq_of_lt hslot]
    rw [arrive, List.getD_eq_getElem?_getD, hfree]; rfl
  obtain ⟨steps, hsteps, value, stop, before⟩ := freeSlot_spec placed n n cand hc reach
  have range (t : Nat) : (cand + t) % n < n := Nat.mod_lt _ (by omega)
  have free := present _ (range steps) _ stop
  rw [value]
  refine ⟨free, steps, hsteps, ?_, fun i hi => ?_⟩
  · rw [List.getElem?_set_self (h.length.symm ▸ range steps)]
  · obtain ⟨j, hj⟩ := Option.isSome_iff_exists.mp (before i hi)
    have held := present _ (range i) _ hj
    refine ⟨j, h.lt held, ?_⟩
    rw [List.getElem?_set_ne, held]
    intro same
    rw [← same, free] at held
    cases held

theorem FirstFrom.mono {n cand k : Nat} {placed track : List (Option Nat)} (h : FirstFrom n cand k placed)
    (keeps : ∀ slot v : Nat, placed[slot]? = some (some v) → track[slot]? = some (some v)) :
    FirstFrom n cand k track := by
  obtain ⟨steps, hsteps, stop, before⟩ := h
  exact ⟨steps, hsteps, keeps _ _ stop, fun i hi =>
    let ⟨j, hj, held⟩ := before i hi
    ⟨j, hj, keeps _ _ held⟩⟩

/-- Placing the sectors from `k` on fills the track, keeps what is placed, puts sector `k` at the first free slot
from the candidate and each later one at the first free slot from its predecessor's plus the interleave (R15). -/
theorem placeFrom_spec {n interleave : Nat} (left k cand : Nat) (placed : List (Option Nat))
    (h : Placed n k placed) (hleft : k + left = n) (hc : left = 0 ∨ cand < n) :
    let track := placeFrom n interleave left k cand placed
    Placed n n track ∧ (∀ slot v : Nat, placed[slot]? = some (some v) → track[slot]? = some (some v)) ∧
      (k < n → FirstFrom n cand k track) ∧
      ∀ j, k ≤ j → j + 1 < n → ∃ slot, track[slot]? = some (some j) ∧
        FirstFrom n ((slot + interleave) % n) (j + 1) track := by
  induction left generalizing k cand placed with
  | zero =>
    obtain rfl : k = n := hleft
    exact ⟨h, fun _ _ => id, fun hk => absurd hk (lt_irrefl k), fun j hj hlt => by omega⟩
  | succ left ih =>
    have hk : k < n := by omega
    have hc : cand < n := by omega
    obtain ⟨free, first⟩ := h.freeSlot_firstFrom hk hc
    obtain ⟨full, keeps, next, later⟩ := ih (k + 1) ((freeSlot placed n n cand + interleave) % n) _ (h.set free)
      (by omega) (Or.inr (Nat.mod_lt _ (by omega)))
    have slotLt := (List.getElem?_eq_some_iff.mp free).1
    refine ⟨full, fun slot v hv => keeps slot v ?_, fun _ => first.mono keeps, fun j hj hlt => ?_⟩
    · rw [List.getElem?_set_ne, hv]
      rintro rfl
      rw [free] at hv
      cases hv
    · obtain rfl | hj := Nat.eq_or_lt_of_le hj
      · exact ⟨_, keeps _ _ (List.getElem?_set_self slotLt), next hlt⟩
      · exact later j hj hlt

/-- Settles O26: the order is read off the filled track of `placeFrom_spec`, where each sector has one slot. -/
theorem sectorsTakeTheFirstFreeSlot : Obligations.SectorsTakeTheFirstFreeSlot := by
  unfold Obligations.SectorsTakeTheFirstFreeSlot
  intro d c h hn order
  set n := d.sectors with hsectors
  set cand := (c * d.cylSkew + h * d.headSkew) % n
  have hc : cand < n := Nat.mod_lt _ (by omega)
  obtain ⟨full, -, first, later⟩ :=
    placeFrom_spec (interleave := d.interleave) n 0 cand _ (Placed.start n) (Nat.zero_add n) (Or.inr hc)
  set track := placeFrom n d.interleave n 0 cand (List.replicate n none)
  have shown : order.map some = track := full.map_some
  have read (slot k : Nat) : track[slot]? = some (some k) ↔ order[slot]? = some k := by
    rw [← shown, List.getElem?_map]; cases order[slot]? <;> simp
  have perm : order.Perm (List.range n) := by
    have := full.sectors
    rw [← shown] at this
    simpa [List.reduceOption] using this
  have nodup : order.Nodup := perm.nodup_iff.mpr List.nodup_range
  refine ⟨perm, ?_, fun k slot hk hslot => ?_⟩
  · obtain ⟨steps, -, stop, before⟩ := first hn
    cases steps with
    | zero => rw [← read]; rwa [Nat.add_zero, Nat.mod_eq_of_lt hc] at stop
    | succ steps => obtain ⟨j, hj, -⟩ := before 0 (by omega); omega
  · obtain ⟨slot', hslot', steps, hsteps, stop, before⟩ := later k (Nat.zero_le k) hk
    rw [read] at hslot'
    have slotLt := (List.getElem?_eq_some_iff.mp hslot').1
    obtain rfl : slot' = slot := (List.getElem?_inj slotLt nodup).mp (hslot'.trans hslot.symm)
    simp only [Nat.mod_add_mod] at stop before
    exact ⟨steps, hsteps, (read _ _).mp stop, fun i hi =>
      let ⟨j, hj, held⟩ := before i hi
      ⟨j, Nat.le_of_lt_succ hj, (read _ _).mp held⟩⟩

end Sys2Proof.Machine

/-! SUPPORT. The requests of the Format Table: what each answers at a ready port, and the format settled by a
DEFINE FORMAT. -/

namespace Sys2Proof.Machine

/-! A station request at a ready port is carried out by its block (R176). -/

theorem next_station_ready (r : Request) {p : PortId} {payload : List Byte} {s : State} (ready : s.ready p)
    (admits : r.admits payload.length = true) :
    (.next (s.station r p payload) : Result) = .next (perform r p payload s) :=
  congrArg _ (s.station_ready r p payload ready admits (Request.admits_le r _ admits))

theorem exec_defineFormat {p : PortId} {payload : List Byte} {s : State} (ready : s.ready p)
    (admits : Request.defineFormat.admits payload.length = true) :
    exec (.defineFormat p payload) s = .next (doDefineFormat p payload s) :=
  next_station_ready .defineFormat ready admits

theorem exec_readFormat {p : PortId} {v : Byte} {s : State} (ready : s.ready p) :
    exec (.readFormat p [v]) s = .next (doReadFormat p [v] s) := next_station_ready .readFormat ready rfl

theorem exec_removeFormat {p : PortId} {v : Byte} {s : State} (ready : s.ready p) :
    exec (.removeFormat p [v]) s = .next (doRemoveFormat p [v] s) := next_station_ready .removeFormat ready rfl

theorem exec_planQuery {p : PortId} {payload : List Byte} {s : State} (ready : s.ready p)
    (admits : Request.planQuery.admits payload.length = true) :
    exec (.planQuery p payload) s = .next (doPlanQuery p payload s) := next_station_ready .planQuery ready admits

/-! DEFINE FORMAT (R18). -/

theorem doDefineFormat_unread {p : PortId} {payload : List Byte} {s : State} (h : readDescriptor payload = none) :
    doDefineFormat p payload s = s.refuse p .badValue := by
  rw [doDefineFormat, h]

theorem doDefineFormat_error {p : PortId} {payload : List Byte} {s : State} {f : FormatId} {d : Descriptor}
    {e : Status} (h : readDescriptor payload = some (f, d)) (ha : s.base.acceptFormat f d = .error e) :
    doDefineFormat p payload s = s.refuse p e := by
  simp only [doDefineFormat, h, ha]

theorem doDefineFormat_ok {p : PortId} {payload : List Byte} {s : State} {f : FormatId} {d stored : Descriptor}
    (h : readDescriptor payload = some (f, d)) (ha : s.base.acceptFormat f d = .ok stored) :
    doDefineFormat p payload s =
      { s with base := s.base.setFormat f (some stored) }.reply p stored.defineReply := by
  simp only [doDefineFormat, h, ha]

/-- The checks of R18 in their order, from the second on. -/
theorem Base.acceptFormat_inUse {b : Base} {f : FormatId} (d : Descriptor) (h : b.formatInUse f = true) :
    b.acceptFormat f d = .error .formatInUse := if_pos h

theorem Base.acceptFormat_noGap {b : Base} {f : FormatId} {d : Descriptor} (h : b.formatInUse f = false)
    (hd : d.settleGap = none) : b.acceptFormat f d = .error .trackOverfull := by
  simp [acceptFormat, h, hd]

theorem Base.acceptFormat_settled {b : Base} {f : FormatId} {d e : Descriptor} (h : b.formatInUse f = false)
    (hd : d.settleGap = some e) :
    b.acceptFormat f d = if e.fits then .ok e else .error .trackOverfull := by
  simp [acceptFormat, h, hd]

theorem Descriptor.fits_iff (d : Descriptor) : d.fits = true ↔ d.used + d.closingMin ≤ d.capacity d.pmin :=
  decide_eq_true_iff

theorem Descriptor.inWindow_iff (d : Descriptor) (period : Nat) :
    d.inWindow period = true ↔ d.pmin ≤ period ∧ period ≤ d.pmax := by
  simp [inWindow]

/-! The sector gap (R12, R13). -/

theorem Descriptor.settleGap_explicit {d : Descriptor} (h : d.gapComputed = false) : d.settleGap = some d := by
  simp [settleGap, h]

theorem Descriptor.settleGap_overfull {d : Descriptor} (h : d.gapComputed = true) (hn : d.gapNumerator < d.sectors) :
    d.settleGap = none := by
  simp [settleGap, autoGap, h, hn]

theorem Descriptor.settleGap_automatic {d : Descriptor} (h : d.gapComputed = true)
    (hn : (d.sectors : Int) ≤ d.gapNumerator) :
    d.settleGap = some { d with sectorGap := min 255 (d.gapNumerator.toNat / d.sectors) } := by
  simp [settleGap, autoGap, h, not_lt.mpr hn]

/-- The used length is the part without sector gaps and n sector gaps (R13). -/
theorem Descriptor.used_eq (d : Descriptor) :
    d.used = d.fixedPart + d.sectors * (d.sectorFixed + d.sectorSize) + d.sectors * d.sectorGap := by
  simp only [used, sectorLen]
  ring

/-- n gaps of the floor of the numerator by n take no more than the numerator, so the automatic gap fits (R12). -/
theorem Descriptor.automatic_fits {d : Descriptor} (hn : (d.sectors : Int) ≤ d.gapNumerator) :
    { d with sectorGap := min 255 (d.gapNumerator.toNat / d.sectors) : Descriptor }.fits = true := by
  have gaps : d.sectors * min 255 (d.gapNumerator.toNat / d.sectors) ≤ d.gapNumerator.toNat :=
    (Nat.mul_le_mul_left _ (min_le_right _ _)).trans (Nat.mul_div_le _ _)
  have numerator : d.gapNumerator = (d.capacity d.pmin : Int) - d.fixedPart
      - (d.sectors * (d.sectorFixed + d.sectorSize) : Nat) - d.closingMin := by
    simp [gapNumerator]
  rw [fits_iff, used_eq]
  show d.fixedPart + d.sectors * (d.sectorFixed + d.sectorSize)
    + d.sectors * min 255 (d.gapNumerator.toNat / d.sectors) + d.closingMin ≤ d.capacity d.pmin
  omega

/-! Formats in use (R19). -/

theorem TrackEntry.format?_eq_some {e : TrackEntry} {f : FormatId} :
    e.format? = some f ↔ e = .formatOnly f ∨ ∃ offset len, e = .data f offset len := by
  cases e <;> simp [format?]

theorem Base.formatInUse_iff (b : Base) (f : FormatId) : b.formatInUse f = true ↔
    ∃ slot : SlotId, (b.image slot).state ≠ .free ∧
      (TrackEntry.formatOnly f ∈ (b.image slot).trackMap ∨
        ∃ offset len, TrackEntry.data f offset len ∈ (b.image slot).trackMap) := by
  have names (im : ImageSlot) : (im.trackMap.any fun e => decide (e.format? = some f)) = true ↔
      TrackEntry.formatOnly f ∈ im.trackMap ∨ ∃ offset len, TrackEntry.data f offset len ∈ im.trackMap := by
    simp only [List.any_eq_true, decide_eq_true_eq, TrackEntry.format?_eq_some]
    constructor
    · rintro ⟨e, he, rfl | ⟨offset, len, rfl⟩⟩
      exacts [.inl he, .inr ⟨offset, len, he⟩]
    · rintro (he | ⟨offset, len, he⟩)
      exacts [⟨_, he, .inl rfl⟩, ⟨_, he, .inr ⟨offset, len, rfl⟩⟩]
  simp only [formatInUse, List.any_eq_true, Bool.and_eq_true, decide_eq_true_eq, names, Vector.mem_toList_iff,
    Vector.mem_iff_getElem]
  constructor
  · rintro ⟨im, ⟨i, hi, rfl⟩, used⟩
    exact ⟨⟨i, hi⟩, used⟩
  · rintro ⟨slot, used⟩
    exact ⟨_, ⟨slot.val, slot.isLt, rfl⟩, used⟩

/-- Settles O25: the checks of R18 in their order, and the gap of R12 by its numerator. -/
theorem defineFormatStoresOrRefuses : Obligations.DefineFormatStoresOrRefuses := by
  unfold Obligations.DefineFormatStoresOrRefuses
  refine ⟨fun p payload s ready admits => ?_, fun d computed => ?_, fun d => Descriptor.settleGap_explicit,
    Base.formatInUse_iff, fun d => ?_⟩
  · rw [exec_defineFormat ready admits]
    refine ⟨fun unread => congrArg _ (doDefineFormat_unread unread), fun f d read => ⟨fun used => ?_,
      fun unused noGap => ?_, fun e unused gap => ⟨fun fit => ?_, fun overfull => ?_⟩⟩⟩
    · rw [doDefineFormat_error read (Base.acceptFormat_inUse d used)]
    · rw [doDefineFormat_error read (Base.acceptFormat_noGap unused noGap)]
    · have accepted : s.base.acceptFormat f d = .ok e := by
        rw [Base.acceptFormat_settled unused gap, if_pos ((Descriptor.fits_iff e).mpr fit)]
      rw [doDefineFormat_ok read accepted]
    · have refused : s.base.acceptFormat f d = .error .trackOverfull := by
        rw [Base.acceptFormat_settled unused gap, if_neg (by rw [Descriptor.fits_iff]; omega)]
      rw [doDefineFormat_error read refused]
  · exact ⟨Descriptor.settleGap_overfull computed,
      fun hn => ⟨_, Descriptor.settleGap_automatic computed hn, rfl, Descriptor.automatic_fits hn⟩⟩
  · refine ⟨rfl, rfl, fun _ => rfl, d.inWindow_iff, rfl, ?_, ?_, d.fits_iff⟩
    · rfl
    · cases he : d.encoding <;>
        simp [Descriptor.gapNumerator, Descriptor.fixedPart, Descriptor.indexLen, Descriptor.sectorFixed,
          Descriptor.sectorSize, he]

end Sys2Proof.Machine

/-! SUPPORT. Aborts (R25, R115) and the requests that move a job (R68 to R73): one abort as one update of the floor,
and the notices of a cancelled job as aborts of different channels. -/

namespace Sys2Proof.Machine

/-! Channels and bursts. -/

@[simp] theorem Floor.setChan_setChan (f : Floor) (c : Chan) (x y : Channel) :
    (f.setChan c x).setChan c y = f.setChan c y := by
  simp [setChan, Vector.set_set]

/-- A burst that loses its client goes on, no longer live. -/
theorem Floor.orphanBurst_eq (f : Floor) (isMine : BurstWork → Bool) :
    f.orphanBurst isMine =
      { f with burst := f.burst.map fun b => if isMine b.work then { b with live := false } else b } := by
  obtain ⟨jobs, waiting, engine, channels, ring, drives, line, portA, portB, burst, evalDue, offers, draws⟩ := f
  cases burst with
  | none => rfl
  | some b => cases hm : isMine b.work <;> simp [orphanBurst, hm]

theorem Channel.abortable_iff (x : Channel) :
    x.abortable = true ↔ x.state ∈ [.spinup, .recal, .producing, .paused] := by
  unfold abortable
  cases x.state <;> simp

/-! One abort (R115). -/

/-- The whole effect of an abort on the floor. -/
theorem Floor.abortDisk_eq {f : Floor} {c : Chan} (cause : Cause) (h : (f.chan c).abortable = true) :
    f.abortDisk c cause =
      { f.setChan c (((f.chan c).markAbort cause).toPosting c .aborted) with
        engine := f.engine.withdraw c, offers := f.offers ++ [c]
        burst := f.burst.map fun b => if BurstWork.isFetchOf c b.work then { b with live := false } else b } := by
  have posted : ({ f.modChan c (fun x => x.markAbort cause) with engine := f.engine.withdraw c }.modChan c
        fun x => x.toPosting c .aborted) =
      { f.setChan c (((f.chan c).markAbort cause).toPosting c .aborted) with engine := f.engine.withdraw c } := by
    have same : ({ f.modChan c (fun x => x.markAbort cause) with engine := f.engine.withdraw c } : Floor).chan c =
        (f.chan c).markAbort cause := f.chan_modChan_same c (fun x => x.markAbort cause)
    rw [modChan, same]
    exact congrArg (fun g : Floor => { g with engine := f.engine.withdraw c }) (f.setChan_setChan c _ _)
  rw [abortDisk, if_pos h, enterPosting, posted, orphanBurst_eq]
  rfl

/-- A channel with no disk to abort is left alone. -/
theorem Floor.abortDisk_of_not {f : Floor} {c : Chan} (cause : Cause) (h : ¬(f.chan c).abortable = true) :
    f.abortDisk c cause = f := if_neg h

theorem Floor.abortDisk_chan_same {f : Floor} {c : Chan} (cause : Cause) (h : (f.chan c).abortable = true) :
    (f.abortDisk c cause).chan c = ((f.chan c).markAbort cause).toPosting c .aborted := by
  rw [abortDisk_eq cause h]
  exact f.chan_setChan_same c _

theorem Floor.abortDisk_chan_other (f : Floor) {c d : Chan} (cause : Cause) (hd : d ≠ c) :
    (f.abortDisk c cause).chan d = f.chan d := by
  by_cases h : (f.chan c).abortable = true
  · rw [abortDisk_eq cause h]
    exact f.chan_setChan_other c d _ hd
  · rw [abortDisk_of_not cause h]

/-- An abort changes nothing but channels, the Layout Engine, the offers and the burst. -/
theorem Floor.abortDisk_frame (f : Floor) (c : Chan) (cause : Cause) : f.abortDisk c cause =
    { f with
      channels := (f.abortDisk c cause).channels, engine := (f.abortDisk c cause).engine
      offers := (f.abortDisk c cause).offers, burst := (f.abortDisk c cause).burst } := by
  by_cases h : (f.chan c).abortable = true
  · rw [abortDisk_eq cause h]; rfl
  · rw [abortDisk_of_not cause h]

/-- A drive fault is left pending by the three causes of the drive alone (R115). -/
theorem Cause.fault?_getD (cause : Cause) (old : Option DriveFault) :
    (match cause.fault? with | some v => some v | none => old) =
      if cause = .speed then some .speed else if cause = .noIndex then some .noIndex
        else if cause = .noTrack0 then some .noTrack0 else old := by
  cases cause <;> rfl

/-- Settles O46: `Floor.abortDisk_eq`, with the channel's fields written out. -/
theorem anAbortPostsTheDisk : Obligations.AnAbortPostsTheDisk := by
  unfold Obligations.AnAbortPostsTheDisk
  refine ⟨fun f c cause k hk => ⟨fun h => ?_, fun h => ?_⟩, fun e c => rfl⟩
  · have abortable := (f.chan c).abortable_iff.mpr h
    refine ⟨?_, ?_⟩
    · rw [Floor.abortDisk_chan_same cause abortable, ← Cause.fault?_getD]
      simp only [Channel.toPosting, Channel.stopTimers, Channel.markAbort, hk]
      rfl
    · have others (d : Chan) (hd : d ≠ c) := f.abortDisk_chan_other cause hd
      rw [Floor.abortDisk_eq cause abortable] at others ⊢
      exact ⟨rfl, rfl, others, rfl, rfl, rfl, rfl, rfl, rfl, rfl⟩
  · exact Floor.abortDisk_of_not cause (mt (f.chan c).abortable_iff.mp h)

/-! Aborts of different channels, one after another. -/

/-- The aborts of a list of channels, in its order. -/
def Floor.abortAll (f : Floor) (l : List Chan) (cause : Cause) : Floor := l.foldl (fun g c => g.abortDisk c cause) f

theorem Floor.abortAll_cons (f : Floor) (c : Chan) (l : List Chan) (cause : Cause) :
    f.abortAll (c :: l) cause = (f.abortDisk c cause).abortAll l cause := rfl

theorem Floor.abortAll_frame (f : Floor) (l : List Chan) (cause : Cause) : f.abortAll l cause =
    { f with
      channels := (f.abortAll l cause).channels, engine := (f.abortAll l cause).engine
      offers := (f.abortAll l cause).offers, burst := (f.abortAll l cause).burst } := by
  induction l generalizing f with
  | nil => rfl
  | cons c l ih => rw [abortAll_cons, ih, f.abortDisk_frame c cause]

theorem Floor.abortAll_chan_of_not_mem (f : Floor) {c : Chan} {l : List Chan} (cause : Cause) (h : c ∉ l) :
    (f.abortAll l cause).chan c = f.chan c := by
  induction l generalizing f with
  | nil => rfl
  | cons d l ih =>
    obtain ⟨hd, hl⟩ := List.ne_and_not_mem_of_not_mem_cons h
    rw [abortAll_cons, ih _ hl, f.abortDisk_chan_other cause hd]

/-- Each channel is aborted from the state it has at the start. -/
theorem Floor.abortAll_chan_of_mem (f : Floor) {c : Chan} {l : List Chan} (cause : Cause) (nodup : l.Nodup)
    (h : c ∈ l) : (f.abortAll l cause).chan c = (f.abortDisk c cause).chan c := by
  induction l generalizing f with
  | nil => cases h
  | cons d l ih =>
    obtain ⟨hd, nodup⟩ := List.nodup_cons.mp nodup
    rw [abortAll_cons]
    by_cases same : c = d
    · subst same
      rw [abortAll_chan_of_not_mem _ cause hd]
    · have before : (f.abortDisk d cause).chan c = f.chan c := f.abortDisk_chan_other cause same
      rw [ih _ nodup ((List.mem_cons.mp h).resolve_left same)]
      by_cases can : (f.chan c).abortable = true
      · rw [abortDisk_chan_same cause can, abortDisk_chan_same cause (by rwa [before]), before]
      · rw [abortDisk_of_not cause can, abortDisk_of_not cause (by rwa [before]), before]

/-- The channels whose disks are aborted offer their records in the list's order. -/
theorem Floor.abortAll_offers (f : Floor) {l : List Chan} (cause : Cause) (nodup : l.Nodup) :
    (f.abortAll l cause).offers = f.offers ++ l.filter fun c => (f.chan c).abortable := by
  induction l generalizing f with
  | nil => simp [abortAll]
  | cons d l ih =>
    obtain ⟨hd, nodup⟩ := List.nodup_cons.mp nodup
    have rest : (l.filter fun c => ((f.abortDisk d cause).chan c).abortable) =
        l.filter fun c => (f.chan c).abortable :=
      List.filter_congr fun c hc => by rw [f.abortDisk_chan_other cause (ne_of_mem_of_not_mem hc hd)]
    rw [abortAll_cons, ih _ nodup, rest]
    by_cases can : (f.chan d).abortable = true
    · rw [abortDisk_eq cause can]
      simp [can]
    · rw [abortDisk_of_not cause can]
      simp [can]

/-- The Layout Engine without the work of the channels of a test: their requests withdrawn, the plan in building to
be discarded when it is for one of them (R25). -/
def LayoutEngine.withdrawAll (e : LayoutEngine) (mine : Chan → Bool) : LayoutEngine :=
  { queue := e.queue.filter fun r => !mine r.channel
    building := e.building.map fun w => if mine w.request.channel then { w with discarded := true } else w }

theorem LayoutEngine.withdrawAll_none (e : LayoutEngine) : e.withdrawAll (fun _ => false) = e := by
  simp [withdrawAll]

theorem LayoutEngine.withdrawAll_withdraw (e : LayoutEngine) (c : Chan) (mine : Chan → Bool) :
    (e.withdraw c).withdrawAll mine = e.withdrawAll fun d => decide (d = c) || mine d := by
  unfold withdraw withdrawAll
  congr 1
  · simp [List.filter_filter, Bool.and_comm]
  · cases e.building with
    | none => rfl
    | some w => by_cases same : w.request.channel = c <;> cases hm : mine w.request.channel <;> simp [same, hm]

theorem Floor.abortAll_engine (f : Floor) {l : List Chan} (cause : Cause) (nodup : l.Nodup) :
    (f.abortAll l cause).engine =
      f.engine.withdrawAll fun c => decide (c ∈ l) && (f.chan c).abortable := by
  induction l generalizing f with
  | nil => simp [abortAll, LayoutEngine.withdrawAll_none]
  | cons d l ih =>
    obtain ⟨hd, nodup⟩ := List.nodup_cons.mp nodup
    have rest (c : Chan) : (decide (c ∈ l) && ((f.abortDisk d cause).chan c).abortable) =
        (decide (c ∈ l) && (f.chan c).abortable) := by
      by_cases hc : c ∈ l
      · rw [f.abortDisk_chan_other cause (ne_of_mem_of_not_mem hc hd)]
      · simp [hc]
    rw [abortAll_cons, ih _ nodup]
    simp only [rest]
    by_cases can : (f.chan d).abortable = true
    · rw [abortDisk_eq cause can, LayoutEngine.withdrawAll_withdraw]
      congr 1
      funext c
      by_cases same : c = d <;> simp [same, can]
    · rw [abortDisk_of_not cause can]
      congr 1
      funext c
      by_cases same : c = d <;> simp [same, can]

/-! The notices of a cancelled job (R72, entry 14). -/

theorem insertByRank_perm (rank : Chan → Nat) (c : Chan) (l : List Chan) :
    (insertByRank rank c l).Perm (c :: l) := by
  induction l with
  | nil => exact .refl _
  | cons d l ih =>
    rw [insertByRank]
    split
    · exact .refl _
    · exact (ih.cons d).trans (.swap c d l)

/-- Whatever the order, the notices go once to each channel that holds a disk of the job. -/
theorem Floor.noticeOrder_perm (f : Floor) (id : Nat) :
    (f.noticeOrder id).Perm (allChannels.filter fun c => (f.chan c).holdsFor id) := by
  unfold noticeOrder
  induction allChannels.filter fun c => (f.chan c).holdsFor id with
  | nil => exact .refl _
  | cons c l ih => exact (insertByRank_perm _ c _).trans (ih.cons c)

theorem mem_allChannels : ∀ c : Chan, c ∈ allChannels := by decide

theorem Floor.noticeOrder_nodup (f : Floor) (id : Nat) : (f.noticeOrder id).Nodup :=
  (f.noticeOrder_perm id).nodup_iff.mpr (List.Nodup.filter _ (by decide))

theorem Floor.mem_noticeOrder (f : Floor) (id : Nat) (c : Chan) :
    c ∈ f.noticeOrder id ↔ (f.chan c).holdsFor id = true := by
  simp [(f.noticeOrder_perm id).mem_iff, mem_allChannels]

theorem Floor.cancelNotices_eq (f : Floor) (id : Nat) : f.cancelNotices id =
    { f.abortAll (f.noticeOrder id) .cancelled with freeDraws := f.freeDraws + 1 } := rfl

/-- Notices touch neither the jobs nor the ring, the lines or the ports. -/
theorem Floor.cancelNotices_frame (f : Floor) (id : Nat) :
    let t := f.cancelNotices id
    t.jobs = f.jobs ∧ t.ring = f.ring ∧ t.waiting = f.waiting ∧ t.drives = f.drives ∧ t.line = f.line ∧
      t.portA = f.portA ∧ t.portB = f.portB ∧ t.freeDraws = f.freeDraws + 1 := by
  rw [cancelNotices_eq, abortAll_frame]
  exact ⟨rfl, rfl, rfl, rfl, rfl, rfl, rfl, rfl⟩

theorem Floor.cancelNotices_none {f : Floor} {id : Nat} (h : ∀ c, (f.chan c).holdsFor id = false) :
    f.cancelNotices id = { f with freeDraws := f.freeDraws + 1 } := by
  have empty : f.noticeOrder id = [] :=
    List.eq_nil_iff_forall_not_mem.mpr fun c hc => by simp [f.mem_noticeOrder id c, h c] at hc
  rw [cancelNotices_eq, empty]
  rfl

/-- Whether a cancel notice aborts a channel's disk: it holds one of the job, and not in POSTING (R72). -/
theorem Floor.noticed_iff (f : Floor) (id : Nat) (c : Chan) :
    ((f.chan c).holdsFor id && decide ((f.chan c).state ∈ [.spinup, .recal, .producing, .paused])) =
      (decide (c ∈ f.noticeOrder id) && (f.chan c).abortable) := by
  rw [Bool.eq_iff_iff]
  simp [mem_noticeOrder, Channel.abortable_iff]

theorem Channel.holdsFor_iff (x : Channel) (id : Nat) : x.holdsFor id = true ↔
    x.state ∈ [.spinup, .recal, .producing, .paused, .posting] ∧ ∃ k, x.disk = some k ∧ k.jobId = id := by
  have holds : x.holdsDisk = true ↔ x.state ∈ [.spinup, .recal, .producing, .paused, .posting] := by
    unfold holdsDisk
    cases x.state <;> simp
  simp [holdsFor, holds]

theorem Floor.cancelNotices_spec (f : Floor) (id : Nat) :
    let t := f.cancelNotices id
    let mine (c : Chan) : Bool := (f.chan c).holdsFor id &&
      decide ((f.chan c).state ∈ [.spinup, .recal, .producing, .paused])
    (∀ c, mine c = true → t.chan c = (f.abortDisk c .cancelled).chan c) ∧
      (∀ c, mine c = false → t.chan c = f.chan c) ∧
      (∃ order : List Chan, order.Perm (allChannels.filter mine) ∧ t.offers = f.offers ++ order) ∧
      t.engine = f.engine.withdrawAll mine := by
  intro t mine
  have noticed : mine = fun c => decide (c ∈ f.noticeOrder id) && (f.chan c).abortable :=
    funext (f.noticed_iff id)
  have chan (c : Chan) : t.chan c = (f.abortAll (f.noticeOrder id) .cancelled).chan c := rfl
  have nodup := f.noticeOrder_nodup id
  refine ⟨fun c hc => ?_, fun c hc => ?_, ⟨_, ?_, f.abortAll_offers .cancelled nodup⟩, ?_⟩
  · simp only [noticed, Bool.and_eq_true, decide_eq_true_eq] at hc
    rw [chan, f.abortAll_chan_of_mem .cancelled nodup hc.1]
  · simp only [noticed, Bool.and_eq_false_iff, decide_eq_false_iff_not] at hc
    by_cases mem : c ∈ f.noticeOrder id
    · rw [chan, f.abortAll_chan_of_mem .cancelled nodup mem,
        f.abortDisk_of_not .cancelled (by simpa using hc.resolve_left (not_not.mpr mem))]
    · rw [chan, f.abortAll_chan_of_not_mem .cancelled mem]
  · refine ((f.noticeOrder_perm id).filter _).trans (.of_eq ?_)
    rw [List.filter_filter]
    refine List.filter_congr fun c _ => ?_
    rw [noticed]
    simp [mem_noticeOrder, Bool.and_comm]
  · rw [noticed]
    exact f.abortAll_engine .cancelled nodup

/-! The job a request names (R68). -/

theorem Floor.job_eq_none_iff (f : Floor) (id : Nat) : f.job id = none ↔ ∀ q ∈ f.jobs, q.id ≠ id := by
  simp [job]

theorem Floor.job_eq_some {f : Floor} {id : Nat} {j : Job} (h : f.job id = some j) : j ∈ f.jobs ∧ j.id = id :=
  ⟨List.mem_of_find?_eq_some h, by simpa using List.find?_some h⟩

theorem State.namedJob_ok {s : State} {j : Job} (h : s.floor.job j.id = some j) (low : 1 ≤ j.id)
    (high : j.id ≤ 255) : s.namedJob [byte j.id] = .ok j := by
  have id : num [byte j.id] 0 1 = j.id := by simp [num, byte]; omega
  simp only [namedJob, id, if_neg (by omega : ¬j.id = 0), h]

theorem State.namedJob_zero (s : State) : s.namedJob [0] = .error .badValue := rfl

theorem State.namedJob_missing {s : State} {id : Byte} (h : id ≠ 0)
    (missing : ∀ j ∈ s.floor.jobs, j.id ≠ id.toNat) :
    s.namedJob [id] = .error .noJob := by
  have value : num [id] 0 1 = id.toNat := by simp [num]
  have nonzero : ¬id.toNat = 0 := fun zero => h (BitVec.eq_of_toNat_eq zero)
  simp only [namedJob, value, if_neg nonzero, (s.floor.job_eq_none_iff _).mpr missing]

/-! The job requests at a ready port. -/

theorem exec_startJob {p : PortId} {v : Byte} {s : State} (ready : s.ready p) :
    exec (.startJob p [v]) s = .next (doStartJob p [v] s) := next_station_ready .startJob ready rfl

theorem exec_stopJob {p : PortId} {v : Byte} {s : State} (ready : s.ready p) :
    exec (.stopJob p [v]) s = .next (doStopJob p [v] s) := next_station_ready .stopJob ready rfl

theorem exec_cancelJob {p : PortId} {v : Byte} {s : State} (ready : s.ready p) :
    exec (.cancelJob p [v]) s = .next (doCancelJob p [v] s) := next_station_ready .cancelJob ready rfl

theorem exec_removeJob {p : PortId} {v : Byte} {s : State} (ready : s.ready p) :
    exec (.removeJob p [v]) s = .next (doRemoveJob p [v] s) := next_station_ready .removeJob ready rfl

/-- A request that names no job is refused the same way by all four. -/
theorem jobRequests_refused {p : PortId} {id : Byte} {s : State} (ready : s.ready p) {e : Status}
    (h : s.namedJob [id] = .error e) :
    ∀ r ∈ [exec (.startJob p [id]) s, exec (.stopJob p [id]) s, exec (.cancelJob p [id]) s,
      exec (.removeJob p [id]) s], r = .next (s.refuse p e) := by
  simp [exec_startJob ready, exec_stopJob ready, exec_cancelJob ready, exec_removeJob ready, doStartJob, doStopJob,
    doCancelJob, doRemoveJob, h]

/-- Settles O37: each request by the state of the job it names, and the notices by `Floor.cancelNotices_spec`. -/
theorem jobRequestsMoveTheJob : Obligations.JobRequestsMoveTheJob := by
  unfold Obligations.JobRequestsMoveTheJob
  refine ⟨fun p j s ready named low high => ?_, fun f id => ?_, fun p s ready => ?_, fun f id => ?_⟩
  · have job := State.namedJob_ok named low high
    have start := exec_startJob (v := byte j.id) ready
    have stop := exec_stopJob (v := byte j.id) ready
    have cancel := exec_cancelJob (v := byte j.id) ready
    have remove := exec_removeJob (v := byte j.id) ready
    simp only [doStartJob, doStopJob, doCancelJob, doRemoveJob, job] at start stop cancel remove
    have cancelled (under : j.state = .running ∨ j.state = .draining) :
        exec (.cancelJob p [byte j.id]) s = .next ({ s with floor :=
          (s.floor.endJob j .cancelled .cancelled).cancelNotices j.id }.reply p [byte j.inFlight]).settle := by
      rw [cancel, if_neg (by tauto)]
    refine ⟨fun queued image => ?_, fun queued image => ?_, fun moved => ?_, fun running empty => ?_,
      fun running busy => ?_, fun other => ?_, fun ended empty => ?_, fun ended busy => ?_, fun under => ?_,
      fun under free => ?_, fun ended => ?_, cancelled⟩
    · rw [start, if_neg (not_not.mpr queued), if_neg (not_not.mpr image)]
    · rw [start, if_neg (not_not.mpr queued), if_pos image]
    · rw [start, if_pos moved]
    · rw [stop, if_neg (not_not.mpr running), if_pos empty]
      rfl
    · rw [stop, if_neg (not_not.mpr running), if_neg (by omega)]
      rfl
    · rw [stop, if_pos other]
    · have idle : ¬(j.state = .running ∨ j.state = .draining) := by
        rcases ended with h | h | h <;> simp [h]
      rw [remove, if_neg idle, if_neg (by omega)]
      rfl
    · rw [remove, if_neg (by simp [ended]), if_pos busy]
    · rw [remove, if_pos under]
    · have unheld (c : Chan) : ((s.floor.endJob j .cancelled .cancelled).chan c).holdsFor j.id = false := free c
      rw [cancelled under, Floor.cancelNotices_none unheld]
      rfl
    · have idle : j.state ≠ .running ∧ j.state ≠ .draining := by
        rcases ended with h | h | h <;> simp [h]
      rw [cancel, if_pos idle]
  · obtain ⟨aborted, kept, offers, engine⟩ := f.cancelNotices_spec id
    exact ⟨aborted, kept, offers, congrArg LayoutEngine.queue engine, congrArg LayoutEngine.building engine,
      f.cancelNotices_frame id⟩
  · exact ⟨jobRequests_refused ready s.namedJob_zero,
      fun id nonzero missing => jobRequests_refused ready (State.namedJob_missing nonzero missing)⟩
  · refine ⟨f.job_eq_none_iff id, fun j => Floor.job_eq_some, fun j => ?_, fun c => (f.chan c).holdsFor_iff id⟩
    simp [Floor.putJob]

end Sys2Proof.Machine

/-! SUPPORT. The Layout Engine (R22, R23) and what a channel does with its plan (R125): the plan handed over, its
slots (R15, R16, R24), the seek (R102, R103, R126) and the physical cylinder (R112). -/

namespace Sys2Proof.Machine

/-! The end of a plan build (R23, R25, R125). -/

theorem exec_planBuildComplete {s : State} (running : s.base.resetActive = false) :
    exec .planBuildComplete s = .next { s with floor := s.floor.finishPlan s.base } := by
  simp [exec, execPlanBuildComplete, State.taken, running]

/-- An idle engine completes nothing (entry 1). -/
theorem Floor.finishPlan_idle {f : Floor} (b : Base) (h : f.engine.building = none) : f.finishPlan b = f := by
  simp only [finishPlan, h]

theorem Floor.finishPlan_discarded {f : Floor} (b : Base) {w : PlanBuild} (h : f.engine.building = some w)
    (hw : w.discarded = true) :
    f.finishPlan b = { f with engine := LayoutEngine.kick b { f.engine with building := none } } := by
  simp only [finishPlan, h, hw, if_true]

theorem Floor.finishPlan_kept {f : Floor} (b : Base) {w : PlanBuild} (h : f.engine.building = some w)
    (hw : w.discarded = false) :
    f.finishPlan b = { f with engine := LayoutEngine.kick b { f.engine with building := none } }.handPlan b
      w.request.channel (buildPlan w.layout w.request) := by
  simp only [finishPlan, h, hw, Bool.false_eq_true, if_false]

/-- The channel with its plan, about to fetch the bytes of all slots (R125, R127). -/
def Channel.withPlan (x : Channel) (p : TrackPlan) : Channel :=
  { x with attempt := { x.attempt with plan := some p }, fetch := p.fetchList p.allSlots }

theorem Floor.handPlan_eq {f : Floor} {c : Chan} (b : Base) (p : TrackPlan) {k : Disk}
    (state : (f.chan c).state = .producing) (phase : (f.chan c).phase = some .plan)
    (disk : (f.chan c).disk = some k) :
    f.handPlan b c p = f.setChan c
      (if k.retries = 0 then ((f.chan c).withPlan p).startSeek (physicalCylinder b k) k.head
      else { (f.chan c).withPlan p with phase := some .write }) := by
  have held : ((f.setChan c ((f.chan c).withPlan p)).chan c).disk = some k := by
    rw [chan_setChan_same]; exact disk
  have handed : f.handPlan b c p =
      if k.retries = 0 then (f.setChan c ((f.chan c).withPlan p)).seekTrack b c
      else (f.setChan c ((f.chan c).withPlan p)).modChan c fun y => { y with phase := some .write } := by
    simp only [handPlan, Channel.withPlan, state, phase, disk]
  rw [handed]
  split
  · simp only [seekTrack, modChan, held, setChan_setChan]
    rw [chan_setChan_same]
  · simp only [modChan, chan_setChan_same, setChan_setChan]

/-! The engine's next request (R22, R23). -/

theorem LayoutEngine.kick_idle {b : Base} {r : PlanRequest} {d : Descriptor} (queue : List PlanRequest)
    (h : b.format r.format = some d) : LayoutEngine.kick b { queue := r :: queue, building := none } =
      { queue := queue, building := some { request := r, layout := d, discarded := false } } := by
  simp [kick, h]

/-! The slots of a plan (R15, R16, R24). -/

theorem Descriptor.recorded_plain {d : Descriptor} {k : Nat} (h : ∀ x ∈ d.exceptions, x.index ≠ k) :
    d.recordedSector k = byte (d.firstSector + k) ∧ d.recordedDeleted k = false := by
  have none : d.exceptionFor k = none := by simpa [exceptionFor] using h
  simp [recordedSector, recordedDeleted, none]

/-- The first exception entry that names a sector counts (R7, R16). -/
theorem Descriptor.recorded_exception {d : Descriptor} {k : Nat} {front back : List SectorException}
    {x : SectorException} (split : d.exceptions = front ++ x :: back) (hx : x.index = k)
    (earlier : ∀ y ∈ front, y.index ≠ k) :
    d.recordedSector k = x.sector.getD (byte (d.firstSector + k)) ∧ d.recordedDeleted k = x.deleted := by
  have found : d.exceptionFor k = some x := by
    rw [exceptionFor, List.find?_eq_some_iff_append]
    exact ⟨by simpa using hx, front, back, split, by simpa using earlier⟩
  simp [recordedSector, recordedDeleted, found]

theorem patchFor_some (r : PlanRequest) (k : Nat) {span : SlotId × Nat} {number : Nat} {spec : SerialSpec}
    (data : r.data = some span) (serial : r.serial = some (number, spec)) : patchFor r k =
      if spec.cylinder = r.cylinder ∧ spec.head = r.head ∧ spec.index = k then
        some { offset := spec.offset, bytes := spec.encoding.bytes number } else none := by
  simp only [patchFor, data, serial]

theorem patchFor_fill (r : PlanRequest) (k : Nat) (data : r.data = none) : patchFor r k = none := by
  simp only [patchFor, data]

theorem patchFor_unserialised (r : PlanRequest) (k : Nat) (serial : r.serial = none) : patchFor r k = none := by
  unfold patchFor
  rw [serial]
  split <;> simp_all

/-! Seeks (R102, R103, R126). -/

/-- SIDE for the head and DIR toward the target, as a seek from a known cylinder starts. -/
def Channel.turned (x : Channel) (target head at0 : Nat) : Channel :=
  { x with side := decide (head = 1), dir := if at0 = target then x.dir else decide (at0 < target) }

theorem Channel.startSeek_away {x : Channel} {target at0 : Nat} (head : Nat) (known : x.cylinder = some at0)
    (away : at0 ≠ target) : x.startSeek target head = { x.turned target head at0 with
      phase := some .seek, seekTarget := some target
      cylinder := some (if at0 < target then at0 + 1 else at0 - 1), stepOut := true, pulseTimer := some 4
      stepTimer := some (x.settings.stepPeriod * 1000) } := by
  simp [startSeek, continueSeek, known, away, issueStep, turned, stepPulse]

theorem Channel.startSeek_there {x : Channel} {target : Nat} (head : Nat) (known : x.cylinder = some target) :
    x.startSeek target head =
      if x.settings.settleTime = 0 then
        { x.turned target head target with phase := some .write, seekTarget := none }
      else { x.turned target head target with
        phase := some .settle, seekTarget := none, settleTimer := some (x.settings.settleTime * 1000) } := by
  simp [startSeek, continueSeek, known, startSettle, turned]

/-! The physical cylinder (R112, R126). -/

/-- The step multiplier of an entry that names a defined format. -/
theorem Base.multiplier_of_format {b : Base} {e : TrackEntry} {f : FormatId} {d : Descriptor}
    (he : e.format? = some f) (hd : b.format f = some d) : b.multiplier e = d.stepMultiplier := by
  simp [multiplier, he, hd]

theorem Base.multiplier_cases (b : Base) (e : TrackEntry) : b.multiplier e = 1 ∨
    ∃ f d, e.format? = some f ∧ b.format f = some d ∧ b.multiplier e = d.stepMultiplier := by
  unfold multiplier
  cases he : e.format? with
  | none => exact .inl rfl
  | some f =>
    cases hd : b.format f with
    | none => exact .inl (by simp [hd])
    | some d => exact .inr ⟨f, d, rfl, hd, by simp [hd]⟩

/-- The largest of a list's values and a start: above them all, and one of them. -/
theorem foldl_max_spec {α : Type} (g : α → Nat) (l : List α) (start : Nat) :
    let top := l.foldl (fun m e => max m (g e)) start
    start ≤ top ∧ (∀ e ∈ l, g e ≤ top) ∧ (top = start ∨ ∃ e ∈ l, g e = top) := by
  induction l generalizing start with
  | nil => simp
  | cons e l ih =>
    obtain ⟨low, above, attained⟩ := ih (max start (g e))
    refine ⟨(le_max_left _ _).trans low, ?_, ?_⟩
    · rintro x (_ | ⟨_, hx⟩)
      exacts [(le_max_right _ _).trans low, above x hx]
    · obtain same | ⟨x, hx, same⟩ := attained
      · obtain left | right := max_choice start (g e)
        · exact .inl (same.trans left)
        · exact .inr ⟨e, List.mem_cons_self, (same.trans right).symm⟩
      · exact .inr ⟨x, List.mem_cons_of_mem e hx, same⟩

theorem physicalCylinder_named {b : Base} {k : Disk} {e : TrackEntry} {f : FormatId} {d : Descriptor}
    (entry : (b.image k.slot).entry k.cylinder k.head = some e) (he : e.format? = some f)
    (hd : b.format f = some d) : physicalCylinder b k = k.cylinder * d.stepMultiplier := by
  cases e with
  | skip => cases he
  | erase => cases he
  | data | formatOnly => simp only [physicalCylinder, currentEntry, entry, Base.multiplier_of_format he hd]

theorem physicalCylinder_erase {b : Base} {k : Disk}
    (entry : (b.image k.slot).entry k.cylinder k.head = some .erase) :
    physicalCylinder b k = k.cylinder * b.maxMultiplier (b.image k.slot) := by
  simp only [physicalCylinder, currentEntry, entry]

/-- What a slot of a plan takes from its request: the data source and the serial patch (R24). -/
theorem Descriptor.slotPlan_data (d : Descriptor) (r : PlanRequest) (k : Nat) :
    (r.data = none → (d.slotPlan r k).source = .fill d.dataFill ∧ (d.slotPlan r k).patch = none) ∧
    ∀ slot span, r.data = some (slot, span) →
      (d.slotPlan r k).source = .image (span + k * d.sectorSize) ∧
      (r.serial = none → (d.slotPlan r k).patch = none) ∧
      ∀ number spec, r.serial = some (number, spec) → (d.slotPlan r k).patch =
        if spec.cylinder = r.cylinder ∧ spec.head = r.head ∧ spec.index = k then
          some { offset := spec.offset, bytes := spec.encoding.bytes number } else none := by
  refine ⟨fun data => ⟨?_, patchFor_fill r k data⟩, fun slot span data => ⟨?_, patchFor_unserialised r k,
    fun number spec serial => patchFor_some r k data serial⟩⟩
  all_goals simp only [slotPlan, data]

/-- The entry names a defined format exactly where its format is in the table. -/
theorem TrackEntry.names_iff (b : Base) (e : TrackEntry) (d : Descriptor) :
    (∃ f, b.format f = some d ∧ (e = .formatOnly f ∨ ∃ offset len, e = .data f offset len)) ↔
      ∃ f, e.format? = some f ∧ b.format f = some d := by
  simp only [TrackEntry.format?_eq_some, and_comm]

/-- M is at least 1 and every named format's step multiplier, and is one of them (R77). -/
theorem Base.maxMultiplier_spec (b : Base) (im : ImageSlot) :
    1 ≤ b.maxMultiplier im ∧
    (∀ e ∈ im.trackMap, ∀ f d, e.format? = some f → b.format f = some d →
      d.stepMultiplier ≤ b.maxMultiplier im) ∧
    (b.maxMultiplier im = 1 ∨
      ∃ e ∈ im.trackMap, ∃ f d, e.format? = some f ∧ b.format f = some d ∧
        d.stepMultiplier = b.maxMultiplier im) := by
  obtain ⟨low, above, attained⟩ := foldl_max_spec b.multiplier im.trackMap 1
  refine ⟨low, fun e he f d hf hd => ?_, ?_⟩
  · rw [← multiplier_of_format hf hd]
    exact above e he
  · obtain one | ⟨e, he, top⟩ := attained
    · exact .inl one
    · obtain one | ⟨f, d, hf, hd, value⟩ := b.multiplier_cases e
      · exact .inl (top.symm.trans one)
      · exact .inr ⟨e, he, f, d, hf, hd, value.symm.trans top⟩

/-- Settles O49: the hand-over by `Floor.handPlan_eq`, the slots, the seek and the cylinder by their lemmas. -/
theorem theEngineHandsItsPlanOver : Obligations.TheEngineHandsItsPlanOver := by
  unfold Obligations.TheEngineHandsItsPlanOver
  refine ⟨fun s running => ⟨fun idle => ?_, fun w building => ?_⟩, fun d r => ⟨?_, fun sl hsl => ?_⟩,
    fun x target head at0 known => ⟨fun away => ?_, fun there settles => ?_, fun there settled => ?_⟩, fun b k => ?_,
    fun b r queue w => ⟨fun d hd => LayoutEngine.kick_idle queue hd, rfl, rfl⟩⟩
  · rw [exec_planBuildComplete running, Floor.finishPlan_idle _ idle]
  · rw [exec_planBuildComplete running]
    refine ⟨fun discarded => ?_, fun k kept state phase disk => ?_⟩
    · rw [Floor.finishPlan_discarded _ building discarded]
    · have handed := Floor.handPlan_eq
        (f := { s.floor with engine := LayoutEngine.kick s.base { s.floor.engine with building := none } }) s.base
        (buildPlan w.layout w.request) state phase disk
      rw [Floor.finishPlan_kept _ building kept, handed]
      refine ⟨fun retry => ?_, fun first => ?_⟩
      · rw [if_neg (by omega)]
        rfl
      · rw [if_pos first]
        rfl
  · exact ⟨rfl, rfl, rfl, rfl, rfl, rfl, rfl, rfl, rfl, List.map_map.trans (List.map_id _)⟩
  · obtain ⟨j, -, rfl⟩ := List.mem_map.mp hsl
    exact ⟨rfl, rfl, rfl, Descriptor.recorded_plain,
      fun front x back split hx => Descriptor.recorded_exception split hx,
      d.slotPlan_data r j⟩
  · exact x.startSeek_away head known away
  · subst there
    rw [x.startSeek_there head known, if_neg settles]
    rfl
  · subst there
    rw [x.startSeek_there head known, if_pos settled]
    rfl
  · obtain ⟨low, above, attained⟩ := b.maxMultiplier_spec (b.image k.slot)
    simp only [TrackEntry.names_iff]
    refine ⟨fun e d entry ⟨f, hf, hd⟩ => physicalCylinder_named entry hf hd, physicalCylinder_erase, low,
      fun e he d ⟨f, hf, hd⟩ => above e he f d hf hd, attained.imp_right ?_⟩
    rintro ⟨e, he, f, d, hf, hd, value⟩
    exact ⟨e, he, d, ⟨f, hf, hd⟩, value⟩

end Sys2Proof.Machine

/-! SUPPORT. The write pass byte by byte (R8, R10, R17, R127, R129): the CRC-16 bit by bit, the clock halves, the
bytes of a pass and the bytes it fetches. -/

namespace Sys2Proof.Machine

/-! The CRC-16 and the clock halves (R8, R17). -/

/-- The register after one more data bit, the bit compared with the register's top bit (R17). -/
def crc16Step (q : Word16) (bit : Bool) : Word16 :=
  if q.getLsbD 15 != bit then (q <<< 1) ^^^ 0x1021 else q <<< 1

/-- A register with the data still to come brought against its top goes on by the data's top bit. -/
theorem crc16Bit_xor (q data : Word16) :
    crc16Bit (q ^^^ data) = crc16Step q (data.getLsbD 15) ^^^ (data <<< 1) := by
  have shift : (q ^^^ data) <<< 1 = (q <<< 1) ^^^ (data <<< 1) := BitVec.shiftLeft_xor_distrib ..
  have top : (q ^^^ data).msb = (q.getLsbD 15 != data.getLsbD 15) := by
    simp [BitVec.msb_eq_getLsbD_last]
  simp only [crc16Bit, crc16Step, top, shift]
  split
  · rw [BitVec.xor_assoc, BitVec.xor_assoc, BitVec.xor_comm (data <<< 1)]
  · rfl

/-- After `i` bits the register holds the step of each, and the rest of the byte is still to come. -/
theorem crc16Bit_iterate (r : Word16) (v : Byte) (i : Nat) (hi : i ≤ 8) :
    crc16Bit^[i] (r ^^^ (v.setWidth 16 <<< 8)) =
      (List.range i).foldl (fun q i => crc16Step q (v.getLsbD (7 - i))) r ^^^ (v.setWidth 16 <<< (8 + i)) := by
  induction i with
  | zero => rfl
  | succ i ih =>
    have bit : (v.setWidth 16 <<< (8 + i)).getLsbD 15 = v.getLsbD (7 - i) := by
      simp [show ¬15 < 8 + i by omega, show 15 - (8 + i) = 7 - i by omega]
    rw [Function.iterate_succ_apply', ih (by omega), crc16Bit_xor, bit, List.range_succ, List.foldl_append,
      ← BitVec.shiftLeft_add]
    rfl

theorem crc16Byte_eq (r : Word16) (v : Byte) :
    crc16Byte r v = (List.range 8).foldl (fun q i => crc16Step q (v.getLsbD (7 - i))) r := by
  have rest : v.setWidth 16 <<< (8 + 8) = 0#16 := BitVec.shiftLeft_eq_zero (le_refl 16)
  rw [crc16Byte, crc16Bit_iterate r v 8 (le_refl 8), rest, BitVec.xor_zero]

set_option maxRecDepth 20000 in
/-- The check value of this CRC-16, over the digits 1 to 9. -/
theorem crc16_digits : crc16 ((List.range' 0x31 9).map byte) = 0x29B1 := by decide

theorem mfmClock_getLsbD (last : Bool) (v : Byte) (i : Nat) (hi : i < 8) : (mfmClock last v).getLsbD i =
    (!v.getLsbD i && !(if i = 7 then last else v.getLsbD (i + 1))) := by
  have top : (0x80#8)[i] = decide (i = 7) := by
    revert i
    decide
  by_cases last7 : i = 7
  · subst last7
    cases last <;> simp [mfmClock]
  · cases last <;> simp [mfmClock, last7, top, hi, Nat.add_comm 1 i]

/-! WRITE_STREAM_BYTE (R129). -/

theorem Channel.writing_eq {x : Channel} {st : WriteStream} (state : x.state = .producing)
    (phase : x.phase = some .write) (stream : x.attempt.stream = some st) : x.writing = some st := by
  simp [writing, state, phase, stream]

/-- Nothing is sent before the byte is due (entry 1). -/
theorem exec_writeStreamByte_early {c : Chan} {s : State} {st : WriteStream} (running : s.base.resetActive = false)
    (writing : (s.floor.chan c).writing = some st)
    (early : ¬st.position * 8000 ≤
      sinceEdge s.base (s.floor.chan c) * ((s.floor.chan c).writeLayout s.base).2.1) :
    exec (.writeStreamByte c) s = .next s := by
  simp [exec, execWriteStreamByte, State.channelEvent, State.taken, running, Channel.byteDue, writing, reached, early]

theorem exec_writeStreamByte_due {c : Chan} {s : State} {st : WriteStream} (running : s.base.resetActive = false)
    (writing : (s.floor.chan c).writing = some st)
    (due : st.position * 8000 ≤
      sinceEdge s.base (s.floor.chan c) * ((s.floor.chan c).writeLayout s.base).2.1) :
    exec (.writeStreamByte c) s = .next { s with floor := s.floor.writeByte s.base c st }.settle := by
  simp [exec, execWriteStreamByte, State.channelEvent, State.taken, running, Channel.byteDue, writing, reached, due]

/-- The channel once a byte of its stream has been sent. -/
def Channel.sent (x : Channel) (st : WriteStream) (out : StreamOut) (fetch : List FetchItem) : Channel :=
  { x with
    wdata := some (out.clock, out.value), buffer := out.buffer, fetch := fetch
    attempt := { x.attempt with
      stream := some { position := st.position + 1, crc := out.crc, lastBit := out.value.getLsbD 0 } } }

theorem Floor.writeByte_eq {b : Base} {f : Floor} {c : Chan} {st : WriteStream} {e : Encoding} {rate : Nat}
    {fill : Byte} {out : StreamOut} (layout : (f.chan c).writeLayout b = (e, rate, fill))
    (h : streamOut e fill (((f.chan c).attempt.plan.map (·.slots)).getD []) st (f.chan c).buffer
      ((f.chan c).writeItem st) = some out) :
    f.writeByte b c st =
      f.setChan c ((f.chan c).sent st out ((f.chan c).fetchAfter ((f.chan c).writeItem st))) := by
  simp only [writeByte, layout, h]
  rfl

theorem Channel.writeLayout_planned {x : Channel} {p : TrackPlan} (b : Base) (plan : x.attempt.plan = some p) :
    x.writeLayout b = (p.layout.encoding, p.layout.rate, p.layout.gapFill) := by
  simp only [writeLayout, plan]

/-- R129: an ERASE track is written in the encoding of the image's first format in track order. -/
theorem Channel.writeLayout_erase {x : Channel} {k : Disk} (b : Base) (plan : x.attempt.plan = none)
    (disk : x.disk = some k) : x.writeLayout b =
      (((b.image k.slot).trackMap.filterMap TrackEntry.format?).head?.bind b.format).elim (.fm, 250, 0xFF)
        fun d => (d.encoding, d.rate, d.gapFill) := by
  simp only [writeLayout, plan, disk, eraseLayout, List.head?_filterMap]
  cases ((b.image k.slot).trackMap.findSome? TrackEntry.format?).bind b.format <;> rfl

/-- A byte of a planned track: what `streamOut` gives for the item in its place is sent. -/
theorem exec_writeStreamByte_planned {c : Chan} {s : State} {st : WriteStream} {p : TrackPlan} {out : StreamOut}
    (item : StreamItem) (running : s.base.resetActive = false) (writing : (s.floor.chan c).writing = some st)
    (plan : (s.floor.chan c).attempt.plan = some p)
    (due : st.position * 8000 ≤ sinceEdge s.base (s.floor.chan c) * p.layout.rate)
    (place : p.layout.itemAt st.position = item)
    (h : streamOut p.layout.encoding p.layout.gapFill p.slots st (s.floor.chan c).buffer item = some out) :
    exec (.writeStreamByte c) s = .next { s with
      floor := s.floor.setChan c ((s.floor.chan c).sent st out ((s.floor.chan c).fetchAfter item)) }.settle := by
  have layout := Channel.writeLayout_planned s.base plan
  have stands : (s.floor.chan c).writeItem st = item := by
    simp only [Channel.writeItem, plan, place]
  rw [exec_writeStreamByte_due running writing (by rw [layout]; exact due),
    Floor.writeByte_eq layout (by rw [stands, plan]; exact h), stands]

theorem SlotPlan.nextData_fill {sl : SlotPlan} {v : Byte} (slot i : Nat) (buffer : List (Nat × Byte))
    (source : sl.source = .fill v) : sl.nextData slot i buffer = some (v, buffer) := by
  simp only [nextData, source]

theorem SlotPlan.nextData_image {sl : SlotPlan} {slot offset : Nat} {raw : Byte} {buffer rest : List (Nat × Byte)}
    (i : Nat) (source : sl.source = .image offset) (front : buffer = (slot, raw) :: rest) :
    sl.nextData slot i buffer = some (sl.patched i raw, rest) := by
  simp [nextData, source, front, nextBuffered]

theorem streamOut_dataByte (e : Encoding) (fill : Byte) {slots : List SlotPlan} (st : WriteStream)
    {buffer rest : List (Nat × Byte)} {j i : Nat} {sl : SlotPlan} {v : Byte} (slot : slots[j]? = some sl)
    (data : sl.nextData j i buffer = some (v, rest)) : streamOut e fill slots st buffer (.dataByte j i) =
      some { value := v, clock := ordinaryClock e st.lastBit v, crc := crc16Byte st.crc v, buffer := rest } := by
  simp [streamOut, slot, data]

/-- What the CRC of a marked field starts with (R17). -/
theorem markCover_eq (e : Encoding) :
    markCover e = match e with | .fm => [] | .mfm => [0xA1, 0xA1, 0xA1] := by
  cases e <;> rfl

/-! The bytes a pass fetches (R127). -/

theorem Descriptor.sectorSize_pos (d : Descriptor) : 1 ≤ d.sectorSize := by
  have := Nat.one_le_two_pow (n := d.sizeCode)
  unfold sectorSize
  omega

theorem Channel.fetchAfter_dataByte {x : Channel} {p : TrackPlan} {k : Disk} (slot i : Nat)
    (plan : x.attempt.plan = some p) (disk : x.disk = some k) : x.fetchAfter (.dataByte slot i) =
      if k.verified = true ∧ slot + 1 = p.slots.length ∧ i + 1 = p.layout.sectorSize then p.fetchList p.allSlots
      else x.fetch := by
  simp [fetchAfter, plan, disk, and_assoc]

/-- Only a data byte of a planned track with a disk can change what is to be fetched. -/
theorem Channel.fetchAfter_other {x : Channel} {item : StreamItem}
    (h : (∀ slot i, item ≠ .dataByte slot i) ∨ x.attempt.plan = none ∨ x.disk = none) :
    x.fetchAfter item = x.fetch := by
  unfold fetchAfter
  split
  · next plan disk => simp_all
  · rfl

theorem TrackPlan.fetchList_image {p : TrackPlan} {j : Nat} {sl : SlotPlan} {offset : Nat} (slots : List Nat)
    (slot : p.slots[j]? = some sl) (source : sl.source = .image offset) : p.fetchList (j :: slots) =
      { slot := j, offset := offset, remaining := p.layout.sectorSize } :: p.fetchList slots := by
  simp [fetchList, slot, source]

theorem TrackPlan.fetchList_fill {p : TrackPlan} {j : Nat} {sl : SlotPlan} {v : Byte} (slots : List Nat)
    (slot : p.slots[j]? = some sl) (source : sl.source = .fill v) :
    p.fetchList (j :: slots) = p.fetchList slots := by
  simp [fetchList, slot, source]

/-! The serial patch (R24, R96). -/

theorem SlotPlan.patched_inside {sl : SlotPlan} {q : Patch} {i : Nat} {v : Byte} (raw : Byte)
    (patch : sl.patch = some q) (low : q.offset ≤ i) (hv : q.bytes[i - q.offset]? = some v) :
    sl.patched i raw = v := by
  have inside : i - q.offset < q.bytes.length := (List.getElem?_eq_some_iff.mp hv).1
  have reach : q.offset ≤ i ∧ i < q.offset + q.bytes.length := by omega
  simp only [patched, patch, if_pos reach, List.getD_eq_getElem?_getD, hv, Option.getD_some]

theorem SlotPlan.patched_outside {sl : SlotPlan} {q : Patch} {i : Nat} (raw : Byte) (patch : sl.patch = some q)
    (h : i < q.offset ∨ q.offset + q.bytes.length ≤ i) : sl.patched i raw = raw := by
  have beyond : ¬(q.offset ≤ i ∧ i < q.offset + q.bytes.length) := by omega
  simp only [patched, patch, if_neg beyond]

/-- Settles O50: each item by what `streamOut` gives for it, the fetch and the codes by their lemmas. -/
theorem aWritePassSendsItsBytes : Obligations.AWritePassSendsItsBytes := by
  unfold Obligations.AWritePassSendsItsBytes
  refine ⟨?_, fun sl i raw => ⟨?_, fun q patch => ⟨?_, ?_⟩⟩, ?_, ?_, ?_, ?_, fun _ => rfl, ?_, ?_⟩
  · intro c st p s running x e due ordinary mark cover sends plain send state phase stream plan
    have writing := x.writing_eq state phase stream
    have early (h : ¬due) : send = .next s :=
      exec_writeStreamByte_early running writing (by rw [Channel.writeLayout_planned s.base plan]; exact h)
    refine ⟨early, fun isDue => ?_⟩
    have sent {out : StreamOut} (item : StreamItem) (place : p.layout.itemAt st.position = item)
        (h : streamOut e p.layout.gapFill p.slots st x.buffer item = some out) :
        send = sends out.clock out.value out.crc out.buffer (x.fetchAfter item) :=
      exec_writeStreamByte_planned item running writing plan isDue place h
    have fixed {out : StreamOut} (item : StreamItem) (place : p.layout.itemAt st.position = item)
        (data : ∀ slot i, item ≠ .dataByte slot i)
        (h : streamOut e p.layout.gapFill p.slots st x.buffer item = some out) :
        send = sends out.clock out.value out.crc out.buffer x.fetch := by
      rw [sent item place h, Channel.fetchAfter_other (.inl data)]
    have covered : markCover e = cover := markCover_eq e
    clear_value sends send cover
    subst covered
    refine ⟨fun place => fixed _ place nofun rfl, fun place => fixed _ place nofun rfl,
      fun place => fixed _ place nofun rfl, fun place => fixed _ place nofun rfl,
      fun j place => fixed _ place nofun rfl, fun j sl slot => ⟨fun i v place value => ?_, fun place => ?_,
        fun i v place source => ?_, fun i offset raw rest place source buffer => ?_⟩, fun j place => ?_,
      fun j place => ?_⟩
    · have out : sl.header.getD i 0 = v := by
        rw [List.getD_eq_getElem?_getD, SlotPlan.header, value, Option.getD_some]
      refine fixed _ place nofun (out := plainOut e st x.buffer v (crc16Byte st.crc v)) ?_
      simp only [streamOut, slot, Option.map_some, out]
    · exact fixed _ place nofun (by simp only [streamOut, slot, Option.map_some]; rfl)
    · exact sent _ place (streamOut_dataByte e p.layout.gapFill st slot (SlotPlan.nextData_fill j i x.buffer source))
    · exact sent _ place (streamOut_dataByte e p.layout.gapFill st slot (SlotPlan.nextData_image i source buffer))
    · rcases place with place | place <;> exact fixed _ place nofun rfl
    · rcases place with place | place <;> exact fixed _ place nofun rfl
  · intro patch
    simp only [SlotPlan.patched, patch]
  · exact fun v low value => SlotPlan.patched_inside raw patch low value
  · exact SlotPlan.patched_outside raw patch
  · intro c st k e rate fill s running x state phase stream plan disk first due
    have writing := x.writing_eq state phase stream
    have layout : x.writeLayout s.base = (e, rate, fill) := by
      rw [Channel.writeLayout_erase s.base plan disk]
      cases format : ((s.base.image k.slot).trackMap.filterMap TrackEntry.format?).head?.bind s.base.format <;>
      · rw [format] at first
        obtain ⟨rfl, rfl, rfl⟩ := first
        rfl
    have stands : x.writeItem st = .gap := by simp only [Channel.writeItem, plan]
    have out : streamOut e fill ((x.attempt.plan.map (·.slots)).getD []) st x.buffer (x.writeItem st) =
        some (plainOut e st x.buffer fill st.crc) := by rw [stands]; rfl
    rw [exec_writeStreamByte_due running writing (by rw [layout]; exact due), Floor.writeByte_eq layout out,
      Channel.fetchAfter_other (.inr (.inl plan))]
    rfl
  · intro x p k size begins
    refine ⟨fun item plan disk last => ?_, fun item plan disk other => ?_,
      fun item missing => Channel.fetchAfter_other (.inr missing), rfl, rfl, fun j slots sl slot =>
      ⟨fun offset => TrackPlan.fetchList_image slots slot, fun v => TrackPlan.fetchList_fill slots slot⟩⟩
    · obtain ⟨verified, rfl, present⟩ := last
      have some := List.length_pos_of_ne_nil present
      rw [Channel.fetchAfter_dataByte _ _ plan disk,
        if_pos ⟨verified, by omega, Nat.sub_add_cancel p.layout.sectorSize_pos⟩]
      rfl
    · by_cases data : ∃ slot i, item = .dataByte slot i
      · obtain ⟨slot, i, rfl⟩ := data
        refine (Channel.fetchAfter_dataByte slot i plan disk).trans (if_neg ?_)
        rintro ⟨verified, lastSlot, lastByte⟩
        refine other ⟨verified, ?_, ?_⟩
        · rw [← lastSlot, Nat.add_sub_cancel, show size = i + 1 from lastByte.symm, Nat.add_sub_cancel]
        · rintro empty
          simp [empty] at lastSlot
      · exact Channel.fetchAfter_other (.inl fun slot i same => data ⟨slot, i, same⟩)
  · intro b x stamp known
    simp only [sinceEdge, known, Option.getD_some]
  · exact crc16Byte_eq
  · exact crc16_digits
  · exact mfmClock_getLsbD

end Sys2Proof.Machine

/-! SUPPORT. Replies byte for byte (sections 11.1 and 11.3): numbers one after another in their bytes, the fields
they show, and the answers of READ FORMAT, REMOVE FORMAT and PLAN QUERY (R20, R21, R26). -/

namespace Sys2Proof.Machine

/-! Numbers in bytes (R187). -/

/-- Numbers one after another, each with the count of its bytes. -/
def packed (segments : List (Nat × Nat)) : List Byte := segments.flatMap fun x => be x.1 x.2

/-- Where the numbers of `packed` stand, the first at `at0`: place, count of bytes and value. -/
def fieldsFrom : Nat → List (Nat × Nat) → List (Nat × Nat × Nat)
  | _, [] => []
  | at0, (n, v) :: rest => (at0, n, v) :: fieldsFrom (at0 + n) rest

/-- Every field of the list is read in the bytes, modulo what its bytes hold. -/
def Shows (bytes : List Byte) (fields : List (Nat × Nat × Nat)) : Prop :=
  ∀ x ∈ fields, num bytes x.1 x.2.1 = x.2.2 % 256 ^ x.2.1

theorem Shows.append {bytes : List Byte} {xs ys : List (Nat × Nat × Nat)} (hx : Shows bytes xs)
    (hy : Shows bytes ys) : Shows bytes (xs ++ ys) := fun x h =>
  (List.mem_append.mp h).elim (hx x) (hy x)

/-- Packed numbers are read back in their places, whatever stands before and after them. -/
theorem shows_packed (front back : List Byte) (segments : List (Nat × Nat)) :
    Shows (front ++ packed segments ++ back) (fieldsFrom front.length segments) := by
  induction segments generalizing front with
  | nil => exact nofun
  | cons segment rest ih =>
    obtain ⟨n, v⟩ := segment
    have bytes : front ++ packed ((n, v) :: rest) ++ back = front ++ be n v ++ (packed rest ++ back) := by
      simp [packed]
    intro x hx
    obtain rfl | later := List.mem_cons.mp hx
    · rw [bytes]
      exact num_be front _ n v
    · have tail := ih (front ++ be n v) x (by simpa using later)
      rw [bytes, ← List.append_assoc]
      exact tail

@[simp] theorem be_one (v : Nat) : be 1 v = [byte v] := by
  simp [be, byte]

@[simp] theorem byte_toNat (v : Byte) : byte v.toNat = v := by
  simp [byte]

theorem byte_flag (v : Bool) : flagByte v = byte (if v then 1 else 0) := by
  cases v <;> rfl

/-! Entries of three bytes each. -/

/-- Three numbers of a byte each. -/
def triple (a b c : Nat) : List Byte := packed [(1, a), (1, b), (1, c)]

theorem length_flatMap_triple {α : Type} (a b c : α → Nat) (l : List α) :
    (l.flatMap fun x => triple (a x) (b x) (c x)).length = 3 * l.length := by
  simp [List.length_flatMap, triple, packed, Nat.mul_comm]

/-- An entry stands after what comes first and three bytes for each entry before it. -/
theorem shows_triple {α : Type} (a b c : α → Nat) {front : List Byte} (back : List Byte) {at0 : Nat}
    (hfront : front.length = at0) {l : List α} {i : Nat} {x : α} (hx : l[i]? = some x) :
    Shows (front ++ l.flatMap (fun x => triple (a x) (b x) (c x)) ++ back)
      [(at0 + 3 * i, 1, a x), (at0 + 1 + 3 * i, 1, b x), (at0 + 2 + 3 * i, 1, c x)] := by
  obtain ⟨hi, rfl⟩ := List.getElem?_eq_some_iff.mp hx
  have split : l.take i ++ l[i] :: l.drop (i + 1) = l := by
    rw [List.getElem_cons_drop hi, List.take_append_drop]
  set g := fun x => triple (a x) (b x) (c x)
  have bytes : front ++ l.flatMap g ++ back =
      (front ++ (l.take i).flatMap g) ++ packed [(1, a l[i]), (1, b l[i]), (1, c l[i])] ++
        ((l.drop (i + 1)).flatMap g ++ back) := by
    calc front ++ l.flatMap g ++ back = front ++ (l.take i ++ l[i] :: l.drop (i + 1)).flatMap g ++ back := by
          rw [split]
      _ = _ := by
        rw [List.flatMap_append, List.flatMap_cons]
        simp only [List.append_assoc]
        rfl
  have start : (front ++ (l.take i).flatMap g).length = at0 + 3 * i := by
    rw [List.length_append, length_flatMap_triple, hfront, List.length_take, Nat.min_eq_left hi.le]
  have read := shows_packed (front ++ (l.take i).flatMap g) ((l.drop (i + 1)).flatMap g ++ back)
    [(1, a l[i]), (1, b l[i]), (1, c l[i])]
  rw [← bytes, start] at read
  rwa [Nat.add_right_comm at0 1, Nat.add_right_comm at0 2]

/-! The reply of DEFINE FORMAT (R18). -/

theorem Descriptor.defineReply_eq (d : Descriptor) : d.defineReply = packed [(1, d.sectorGap), (2, d.used),
    (4, d.pmin), (4, d.pmax), (2, d.closing d.pmin), (2, d.closing d.nominal), (2, d.closing d.pmax)] := by
  simp [defineReply, packed]

/-! The reply of READ FORMAT (R20, section 11.3). -/

/-- The numbers of a descriptor before its exception entries, as READ FORMAT shows them. -/
def Descriptor.headNumbers (d : Descriptor) (f : FormatId) : List (Nat × Nat) :=
  [(1, f.val), (1, match d.encoding with | .fm => 0 | .mfm => 1), (2, d.rate), (2, d.rpm), (1, d.sectors),
    (1, d.sizeCode),
    (2, 0x1FFF + 0x2000 * (if d.cylOverride.isSome then 1 else 0) + 0x4000 * (if d.headOverride.isSome then 1 else 0) +
      0x8000 * (if d.sizeOverride.isSome then 1 else 0)),
    (1, d.tolerance), (1, d.firstSector), (1, d.interleave), (1, d.cylSkew), (1, d.headSkew), (1, d.leadGap),
    (1, if d.indexField then 1 else 0), (1, d.openingGap), (1, d.sectorGap), (1, d.closingMin),
    (1, d.gapFill.toNat), (1, d.dataFill.toNat), (1, d.stepMultiplier), (1, (d.cylOverride.getD 0).toNat),
    (1, (d.headOverride.getD 0).toNat), (1, (d.sizeOverride.getD 0).toNat), (1, d.exceptions.length)]

/-- The numbers that READ FORMAT adds after the descriptor. -/
def Descriptor.tailNumbers (d : Descriptor) : List (Nat × Nat) :=
  [(1, if d.gapComputed then 1 else 0), (4, d.pmin), (4, d.pmax), (2, d.used)]

/-- What parts an exception entry carries, as its second byte shows them. -/
def SectorException.parts (x : SectorException) : Nat :=
  (if x.sector.isSome then 1 else 0) + 2 * (if x.deleted then 1 else 0)

theorem exceptionBytes_eq (x : SectorException) :
    exceptionBytes x = triple x.index x.parts (x.sector.getD 0).toNat := by
  cases hd : x.deleted <;> simp [exceptionBytes, triple, packed, SectorException.parts, hd]

theorem Descriptor.readReply_eq (d : Descriptor) (f : FormatId) : d.readReply f =
    packed (d.headNumbers f) ++
      d.exceptions.flatMap (fun x => triple x.index x.parts (x.sector.getD 0).toNat) ++ packed d.tailNumbers := by
  have code : d.encoding.code = byte (match d.encoding with | .fm => 0 | .mfm => 1) := by
    cases d.encoding <;> rfl
  have flags : 0x1FFF + (if d.cylOverride.isSome then 0x2000 else 0) + (if d.headOverride.isSome then 0x4000 else 0)
      + (if d.sizeOverride.isSome then 0x8000 else 0) =
    0x1FFF + 0x2000 * (if d.cylOverride.isSome then 1 else 0) + 0x4000 * (if d.headOverride.isSome then 1 else 0) +
      0x8000 * (if d.sizeOverride.isSome then 1 else 0) := by
    simp
  simp only [← exceptionBytes_eq]
  simp [readReply, Descriptor.bytes, packed, headNumbers, tailNumbers, byte_flag, code, flags]

theorem Descriptor.packed_headNumbers_length (d : Descriptor) (f : FormatId) :
    (packed (d.headNumbers f)).length = 27 := by
  simp [packed, headNumbers]

/-! The reply of PLAN QUERY (R26). -/

/-- The numbers of a plan before its slots, as PLAN QUERY shows them. -/
def TrackPlan.headNumbers (t : TrackPlan) : List (Nat × Nat) :=
  [(4, t.period), (2, t.capacity), (2, t.used), (1, t.gap), (2, t.closing),
    (1, (t.layout.cylOverride.getD (byte t.cylinder)).toNat), (1, (t.layout.headOverride.getD (byte t.head)).toNat),
    (1, (t.layout.sizeOverride.getD (byte t.layout.sizeCode)).toNat)]

theorem TrackPlan.queryReply_eq (t : TrackPlan) : t.queryReply =
    packed t.headNumbers ++ t.slots.flatMap fun x => triple x.index x.sector.toNat (if x.deleted then 1 else 0) := by
  simp [queryReply, packed, triple, headNumbers, byte_flag, Descriptor.recordedCylinder, Descriptor.recordedHead,
    Descriptor.recordedSize]

theorem TrackPlan.packed_headNumbers_length (t : TrackPlan) : (packed t.headNumbers).length = 14 := by
  simp [packed, headNumbers]

/-! What the replies show. -/

theorem Descriptor.defineReply_shows (d : Descriptor) : d.defineReply.length = 17 ∧
    Shows d.defineReply [(0, 1, d.sectorGap), (1, 2, d.used), (3, 4, d.pmin), (7, 4, d.pmax),
      (11, 2, d.closing d.pmin), (13, 2, d.closing d.nominal), (15, 2, d.closing d.pmax)] := by
  rw [defineReply_eq]
  refine ⟨by simp [packed], ?_⟩
  have read := shows_packed [] [] [(1, d.sectorGap), (2, d.used), (4, d.pmin), (4, d.pmax), (2, d.closing d.pmin),
    (2, d.closing d.nominal), (2, d.closing d.pmax)]
  rwa [List.nil_append, List.append_nil] at read

theorem Descriptor.readReply_shows (d : Descriptor) (f : FormatId) :
    (d.readReply f).length = 27 + 3 * d.exceptions.length + 11 ∧
    Shows (d.readReply f) (fieldsFrom 0 (d.headNumbers f) ++
      [(27 + 3 * d.exceptions.length, 1, if d.gapComputed then 1 else 0), (28 + 3 * d.exceptions.length, 4, d.pmin),
        (32 + 3 * d.exceptions.length, 4, d.pmax), (36 + 3 * d.exceptions.length, 2, d.used)]) := by
  set entries := d.exceptions.flatMap fun x => triple x.index x.parts (x.sector.getD 0).toNat with hentries
  have reply : d.readReply f = packed (d.headNumbers f) ++ entries ++ packed d.tailNumbers := d.readReply_eq f
  have front : (packed (d.headNumbers f) ++ entries).length = 27 + 3 * d.exceptions.length := by
    rw [List.length_append, packed_headNumbers_length, hentries, length_flatMap_triple]
  have places : fieldsFrom (27 + 3 * d.exceptions.length) d.tailNumbers =
      [(27 + 3 * d.exceptions.length, 1, if d.gapComputed then 1 else 0), (28 + 3 * d.exceptions.length, 4, d.pmin),
        (32 + 3 * d.exceptions.length, 4, d.pmax), (36 + 3 * d.exceptions.length, 2, d.used)] := by
    simp [fieldsFrom, tailNumbers]
    omega
  rw [reply]
  refine ⟨by rw [List.length_append, front]; simp [packed, tailNumbers], .append ?_ ?_⟩
  · rw [List.append_assoc]
    exact shows_packed [] _ _
  · have read := shows_packed (packed (d.headNumbers f) ++ entries) [] d.tailNumbers
    rwa [List.append_nil, front, places] at read

theorem Descriptor.readReply_exception (d : Descriptor) (f : FormatId) {i : Nat} {x : SectorException}
    (hx : d.exceptions[i]? = some x) : Shows (d.readReply f)
      [(27 + 3 * i, 1, x.index), (28 + 3 * i, 1, x.parts), (29 + 3 * i, 1, (x.sector.getD 0).toNat)] := by
  rw [readReply_eq]
  exact shows_triple _ _ _ _ (d.packed_headNumbers_length f) hx

theorem TrackPlan.queryReply_shows (t : TrackPlan) :
    (t.queryReply.length = 14 + 3 * t.slots.length ∧ Shows t.queryReply (fieldsFrom 0 t.headNumbers)) ∧
    ∀ i x, t.slots[i]? = some x → Shows t.queryReply [(14 + 3 * i, 1, x.index), (15 + 3 * i, 1, x.sector.toNat),
      (16 + 3 * i, 1, if x.deleted then 1 else 0)] := by
  rw [queryReply_eq]
  refine ⟨⟨?_, shows_packed [] _ _⟩, fun i x hx => ?_⟩
  · rw [List.length_append, packed_headNumbers_length, length_flatMap_triple]
  · have read := shows_triple SlotPlan.index (fun x => x.sector.toNat) (fun x => if x.deleted then 1 else 0) []
      t.packed_headNumbers_length hx
    rwa [List.append_nil] at read

/-! The format a request names (R2). -/

@[simp] theorem num_head (v : Byte) (rest : List Byte) : num (v :: rest) 0 1 = v.toNat := by
  simp [num]

@[simp] theorem num_tail (v : Byte) (rest : List Byte) (i n : Nat) : num (v :: rest) (i + 1) n = num rest i n := rfl

theorem byte_toNat_of_lt {v : Nat} (h : v < 256) : (byte v).toNat = v := by
  simp only [byte, BitVec.toNat_ofNat]
  omega

/-- A format number in range, sent as its byte. -/
theorem finOf?_byte (f : FormatId) : finOf? 16 (byte f.val).toNat = some f := by
  rw [byte_toNat_of_lt (by omega), finOf?_val]

theorem finOf?_beyond {v : Byte} (h : 15 < v.toNat) : finOf? 16 v.toNat = none := dif_neg (by omega)

/-! READ FORMAT and REMOVE FORMAT (R20, R21). -/

theorem doReadFormat_beyond {p : PortId} {v : Byte} {s : State} (h : 15 < v.toNat) :
    doReadFormat p [v] s = s.refuse p .badValue := by
  simp only [doReadFormat, num_head, finOf?_beyond h]

theorem doReadFormat_undefined {p : PortId} {s : State} {f : FormatId} (h : s.base.format f = none) :
    doReadFormat p [byte f.val] s = s.refuse p .noFormat := by
  simp only [doReadFormat, num_head, finOf?_byte, h]

theorem doReadFormat_defined {p : PortId} {s : State} {f : FormatId} {d : Descriptor}
    (h : s.base.format f = some d) : doReadFormat p [byte f.val] s = s.reply p (d.readReply f) := by
  simp only [doReadFormat, num_head, finOf?_byte, h]

theorem doRemoveFormat_beyond {p : PortId} {v : Byte} {s : State} (h : 15 < v.toNat) :
    doRemoveFormat p [v] s = s.refuse p .badValue := by
  simp only [doRemoveFormat, num_head, finOf?_beyond h]

theorem doRemoveFormat_undefined {p : PortId} {s : State} {f : FormatId} (h : s.base.format f = none) :
    doRemoveFormat p [byte f.val] s = s.refuse p .noFormat := by
  simp only [doRemoveFormat, num_head, finOf?_byte, h]

theorem doRemoveFormat_defined {p : PortId} {s : State} {f : FormatId} {d : Descriptor}
    (h : s.base.format f = some d) : doRemoveFormat p [byte f.val] s =
      if s.base.formatInUse f then s.refuse p .formatInUse
      else { s with base := s.base.setFormat f none }.reply p [] := by
  simp only [doRemoveFormat, num_head, finOf?_byte, h]

/-! PLAN QUERY (R26). -/

/-- R26: a format number out of range and a track out of range are refused whatever the entry holds. -/
theorem doPlanQuery_beyond {p : PortId} {v c h : Byte} {tail : List Byte} {s : State}
    (out : 15 < v.toNat ∨ 83 < c.toNat ∨ 1 < h.toNat) :
    doPlanQuery p (v :: c :: h :: tail) s = s.refuse p .badValue := by
  unfold doPlanQuery
  rw [num_head]
  by_cases high : 15 < v.toNat
  · rw [finOf?_beyond high]
  · have track : 83 < num (v :: c :: h :: tail) 1 1 ∨ 1 < num (v :: c :: h :: tail) 2 1 := by
      simpa [high] using out
    cases finOf? 16 v.toNat with
    | none => rfl
    | some f => exact if_pos track

section
variable {p : PortId} {s : State} {f : FormatId} {c h : Nat} (hc : c ≤ 83) (hh : h ≤ 1)
include hc hh

theorem doPlanQuery_inRange (tail : List Byte) : doPlanQuery p (byte f.val :: byte c :: byte h :: tail) s =
    (s.base.format f).elim (s.refuse p .noFormat) fun d =>
      let payload := byte f.val :: byte c :: byte h :: tail
      if d.inWindow (queryPeriod payload d) then s.reply p (queryPlan payload f d).queryReply
      else s.refuse p .badValue := by
  have track : ¬(83 < num (byte f.val :: byte c :: byte h :: tail) 1 1 ∨
      1 < num (byte f.val :: byte c :: byte h :: tail) 2 1) := by
    simp [byte_toNat_of_lt (by omega : c < 256), byte_toNat_of_lt (by omega : h < 256), hc, hh]
  unfold doPlanQuery
  rw [num_head, finOf?_byte]
  simp only [if_neg track]
  cases s.base.format f <;> rfl

/-- The plan of a query for a period: a FORMAT-ONLY track without a serial (R26). -/
theorem queryPlan_eq (tail : List Byte) (d : Descriptor) {period : Nat}
    (hp : queryPeriod (byte f.val :: byte c :: byte h :: tail) d = period) :
    queryPlan (byte f.val :: byte c :: byte h :: tail) f d = buildPlan d
      { channel := 0, format := f, cylinder := c, head := h, data := none, period := period, serial := none } := by
  simp [queryPlan, hp, byte_toNat_of_lt (by omega : c < 256), byte_toNat_of_lt (by omega : h < 256)]

theorem doPlanQuery_undefined (undefined : s.base.format f = none) (tail : List Byte) :
    doPlanQuery p (byte f.val :: byte c :: byte h :: tail) s = s.refuse p .noFormat := by
  rw [doPlanQuery_inRange hc hh, undefined]
  rfl

theorem doPlanQuery_defined {d : Descriptor} (defined : s.base.format f = some d) (tail : List Byte) {period : Nat}
    (hp : queryPeriod (byte f.val :: byte c :: byte h :: tail) d = period) :
    doPlanQuery p (byte f.val :: byte c :: byte h :: tail) s =
      if d.inWindow period then s.reply p (buildPlan d
        { channel := 0, format := f, cylinder := c, head := h, data := none, period := period,
          serial := none }).queryReply
      else s.refuse p .badValue := by
  rw [doPlanQuery_inRange hc hh, defined, ← queryPlan_eq hc hh tail d hp, ← hp]
  rfl

end

/-- A period of four bytes after the track is the period asked for (R26). -/
theorem queryPeriod_given (v c h : Byte) {period : Nat} (hp : period < 4294967296) (d : Descriptor) :
    queryPeriod (v :: c :: h :: be 4 period) d = period := by
  have read := num_be [v, c, h] [] 4 period
  rw [List.append_nil] at read
  rw [queryPeriod, if_pos (by simp)]
  exact read.trans (Nat.mod_eq_of_lt hp)

/-- Settles O28: the answers by their lemmas, and the replies as packed numbers, each read in its place. -/
theorem formatRequestsAnswer : Obligations.FormatRequestsAnswer := by
  unfold Obligations.FormatRequestsAnswer
  refine ⟨fun p f s ready => ⟨fun undefined => ⟨?_, ?_, fun c h hc hh => ?_⟩, fun d defined => ⟨?_, fun used => ?_,
    fun unused => ?_, fun c h hc hh => ⟨fun fast => ?_, fun period hp => ⟨fun low high => ?_, fun out => ?_⟩⟩⟩⟩,
    fun d f => ?_, fun p v c h period s ready length => ?_⟩
  · rw [exec_readFormat ready, doReadFormat_undefined undefined]
  · rw [exec_removeFormat ready, doRemoveFormat_undefined undefined]
  · rw [exec_planQuery ready rfl, doPlanQuery_undefined hc hh undefined]
  · rw [exec_readFormat ready, doReadFormat_defined defined]
  · rw [exec_removeFormat ready, doRemoveFormat_defined defined, if_pos used]
  · rw [exec_removeFormat ready, doRemoveFormat_defined defined, if_neg (by simp [unused])]
  · rw [exec_planQuery ready rfl, doPlanQuery_defined hc hh defined [] rfl]
    exact congrArg _ (if_pos fast)
  · rw [exec_planQuery ready rfl, List.cons_append, List.cons_append, List.cons_append, List.nil_append,
      doPlanQuery_defined hc hh defined _ (queryPeriod_given _ _ _ hp d), if_pos ((d.inWindow_iff _).mpr ⟨low, high⟩)]
  · rw [exec_planQuery ready rfl, List.cons_append, List.cons_append, List.cons_append, List.nil_append,
      doPlanQuery_defined hc hh defined _ (queryPeriod_given _ _ _ hp d),
      if_neg (by rw [d.inWindow_iff]; omega)]
  · exact ⟨d.defineReply_shows, d.readReply_shows f, fun i x => d.readReply_exception f, TrackPlan.queryReply_shows⟩
  · have admits : Request.planQuery.admits (v :: c :: h :: period).length = true := by
      rcases length with length | length <;> simp [Request.admits, length]
    have query := exec_planQuery (payload := v :: c :: h :: period) ready admits
    refine ⟨fun high => ?_, fun track => ?_⟩
    · simp [exec_readFormat ready, exec_removeFormat ready, query, doReadFormat_beyond high,
        doRemoveFormat_beyond high, doPlanQuery_beyond (.inl high)]
    · rw [query, doPlanQuery_beyond (.inr track)]

end Sys2Proof.Machine

/-! SUPPORT. The payloads of DEFINE FORMAT and DEFINE JOB (R3 to R7, R66, R86): each reader answers a value exactly
when the checks of its rule pass. -/

namespace Sys2Proof.Machine

/-! Numbers of a payload. -/

theorem num_one (payload : List Byte) (i : Nat) : num payload i 1 = (payload.getD i 0).toNat := by
  rw [num, List.getD_eq_getElem?_getD]
  cases h : payload[i]? with
  | none => simp [List.drop_eq_nil_of_le (List.getElem?_eq_none_iff.mp h)]
  | some v =>
    obtain ⟨hi, rfl⟩ := List.getElem?_eq_some_iff.mp h
    rw [List.drop_eq_getElem_cons hi, List.take_succ_cons, List.take_zero]
    simp

theorem num_one_lt (payload : List Byte) (i : Nat) : num payload i 1 < 256 := by
  rw [num_one]
  exact (payload.getD i 0).isLt

theorem finOf?_eq_some_iff {n v : Nat} {i : Fin n} : finOf? n v = some i ↔ v = i.val := by
  unfold finOf?
  split
  · simp [Fin.ext_iff]
  · next h => exact ⟨nofun, fun same => absurd (same ▸ i.isLt) h⟩

theorem Encoding.ofCode_eq_some_iff {v : Nat} {e : Encoding} :
    Encoding.ofCode v = some e ↔ v = if decide (e = .mfm) then 1 else 0 := by
  unfold Encoding.ofCode
  split <;> cases e <;> simp_all

theorem Window.ofCode_eq_some_iff {v : Nat} {w : Window} :
    Window.ofCode v = some w ↔ v = match w with | .full => 0 | .w875 => 1 | .w75 => 2 := by
  unfold Window.ofCode
  split <;> cases w <;> simp_all

/-! Serial specifications (R86). -/

theorem readSerialEncoding_eq_some_iff {code width : Nat} {e : SerialEncoding} :
    readSerialEncoding code width = some e ↔
      (code = 0 ∧ 4 ≤ width ∧ width ≤ 9 ∧ e = .ascii width) ∨ (code = 1 ∧ width = 0 ∧ e = .binary) := by
  unfold readSerialEncoding
  split
  · simp [and_assoc, eq_comm]
  · simp [eq_comm]
  · next h0 h1 => exact ⟨nofun, fun h => h.elim (fun h => absurd h.1 h0) fun h => absurd h.1 h1⟩

theorem readSerialSpec_eq_some_iff (payload : List Byte) (sp : SerialSpec) :
    readSerialSpec payload = some sp ↔
      sp.cylinder = num payload 8 1 ∧ sp.cylinder ≤ 83 ∧ sp.head = num payload 9 1 ∧ sp.head ≤ 1 ∧
      sp.index = num payload 10 1 ∧ sp.index ≤ 39 ∧ sp.offset = num payload 11 2 ∧ sp.offset ≤ 8191 ∧
      sp.start = num payload 15 4 ∧ sp.step = num payload 19 1 ∧ 1 ≤ sp.step ∧
      readSerialEncoding (num payload 13 1) (num payload 14 1) = some sp.encoding := by
  obtain ⟨cylinder, head, index, offset, encoding, start, step⟩ := sp
  unfold readSerialSpec
  cases readSerialEncoding (num payload 13 1) (num payload 14 1) with
  | none => simp
  | some e =>
    simp only [Option.ite_none_right_eq_some, Option.some.injEq, SerialSpec.mk.injEq]
    constructor
    · rintro ⟨⟨_, _, _, _, _⟩, rfl, rfl, rfl, rfl, rfl, rfl, rfl⟩
      tauto
    · rintro ⟨rfl, _, rfl, _, rfl, _, rfl, _, rfl, rfl, _, rfl⟩
      tauto

/-! Job definitions (R65 to R67). -/

theorem readSerialPart_eq_some_iff (payload : List Byte) (serial : Option SerialSpec) :
    readSerialPart payload = some serial ↔
      (serial = none ↔ payload.length ≠ 20) ∧ ∀ sp, serial = some sp → readSerialSpec payload = some sp := by
  unfold readSerialPart
  by_cases long : payload.length = 20
  · rw [if_pos long]
    cases serial <;> simp [long]
  · rw [if_neg long]
    cases serial <;> simp [long]

/-- The serial state of a new job is its specification, at its start with nothing reclaimed (R67). -/
theorem readJobDefinition_serial {payload : List Byte} {serial : Option SerialState} :
    (∃ sp, readSerialPart payload = some sp ∧
      serial = sp.map fun sp => { spec := sp, next := sp.start, reclaim := [] }) ↔
    (serial = none ↔ payload.length ≠ 20) ∧ ∀ st, serial = some st →
      readSerialSpec payload = some st.spec ∧ st.next = st.spec.start ∧ st.reclaim = [] := by
  simp only [readSerialPart_eq_some_iff]
  constructor
  · rintro ⟨sp, ⟨absent, spec⟩, rfl⟩
    refine ⟨by simpa using absent, fun st hst => ?_⟩
    obtain ⟨sp', rfl, rfl⟩ := Option.map_eq_some_iff.mp hst
    exact ⟨spec sp' rfl, rfl, rfl⟩
  · rintro ⟨absent, state⟩
    cases serial with
    | none => exact ⟨none, ⟨by simpa using absent, nofun⟩, rfl⟩
    | some st =>
      obtain ⟨spec, next, reclaim⟩ := state st rfl
      refine ⟨some st.spec, ⟨by simpa using absent, fun sp hsp => ?_⟩, ?_⟩
      · rw [← Option.some.inj hsp]
        exact spec
      · obtain ⟨sp, _, _⟩ := st
        simp only at next reclaim
        rw [next, reclaim]
        rfl

theorem readJobDefinition_eq_some_iff (p : PortId) (payload : List Byte) (j : Job) :
    readJobDefinition p payload = some j ↔
      ∃ slot window serial, num payload 1 1 = slot.val ∧ Window.ofCode (num payload 6 1) = some window ∧
        readSerialPart payload = some serial ∧
        (1 ≤ num payload 0 1 ∧ num payload 4 1 ≠ 0 ∧ num payload 5 1 ≤ 16 ∧ num payload 7 1 ≤ 7) ∧
        j = { id := num payload 0 1, slot := slot, target := num payload 2 2, drives := payload.getD 4 0
              verifyEvery := num payload 5 1, window := window, retryLimit := num payload 7 1
              serial := serial.map fun sp => { spec := sp, next := sp.start, reclaim := [] }
              origin := p, state := .queued, endCause := none, issued := 0, passed := 0, failed := 0
              aborted := 0, inFlight := 0 } := by
  unfold readJobDefinition
  split
  · next slot window serial hslot hwindow hserial =>
    rw [finOf?_eq_some_iff] at hslot
    simp only [Option.ite_none_right_eq_some, Option.some.injEq, hwindow, hserial, hslot]
    constructor
    · rintro ⟨checks, rfl⟩
      exact ⟨slot, window, serial, rfl, rfl, rfl, checks, rfl⟩
    · rintro ⟨slot', _, _, same, rfl, rfl, checks, rfl⟩
      exact ⟨checks, by rw [Fin.ext same]⟩
  · next other =>
    refine ⟨nofun, fun ⟨slot, window, serial, hslot, hwindow, hserial, _⟩ => ?_⟩
    exact absurd hserial (other slot window serial (finOf?_eq_some_iff.mpr hslot) hwindow)

/-- The job clause of O24, field by field. -/
theorem readJobDefinition_fields (p : PortId) (payload : List Byte) (j : Job) :
    let n (i : Nat) : Nat := num payload i 1
    readJobDefinition p payload = some j ↔
      j.id = n 0 ∧ 1 ≤ j.id ∧ j.slot.val = n 1 ∧ j.target = num payload 2 2 ∧
      j.drives = payload.getD 4 0 ∧ n 4 ≠ 0 ∧ j.verifyEvery = n 5 ∧ j.verifyEvery ≤ 16 ∧
      Window.ofCode (n 6) = some j.window ∧
      j.retryLimit = n 7 ∧ j.retryLimit ≤ 7 ∧ (j.serial = none ↔ payload.length ≠ 20) ∧
      (∀ st, j.serial = some st →
        readSerialSpec payload = some st.spec ∧ st.next = st.spec.start ∧ st.reclaim = []) ∧
      j.origin = p ∧ j.state = .queued ∧ j.endCause = none ∧ j.issued = 0 ∧ j.passed = 0 ∧ j.failed = 0 ∧
      j.aborted = 0 ∧ j.inFlight = 0 := by
  intro n
  rw [readJobDefinition_eq_some_iff]
  obtain ⟨id, slot, target, drives, every, window, retry, serial, origin, state, cause, issued, passed, failed,
    aborted, flight⟩ := j
  simp only [Job.mk.injEq]
  constructor
  · rintro ⟨_, _, sp, slotIs, windowIs, serialIs, ⟨idLow, drivesOne, everyTop, retryTop⟩, rfl, rfl, rfl, rfl, rfl, rfl,
      rfl, serialEq, rfl, rfl, rfl, rfl, rfl, rfl, rfl, rfl⟩
    obtain ⟨absent, state⟩ := readJobDefinition_serial.mp ⟨sp, serialIs, serialEq⟩
    exact ⟨rfl, idLow, slotIs.symm, rfl, rfl, drivesOne, rfl, everyTop, windowIs, rfl, retryTop, absent, state,
      rfl, rfl, rfl, rfl, rfl, rfl, rfl, rfl⟩
  · rintro ⟨rfl, idLow, slotIs, rfl, rfl, drivesOne, rfl, everyTop, windowIs, rfl, retryTop, absent, state, rfl, rfl,
      rfl, rfl, rfl, rfl, rfl, rfl⟩
    obtain ⟨sp, serialIs, serialEq⟩ := readJobDefinition_serial.mpr ⟨absent, state⟩
    exact ⟨slot, window, sp, slotIs.symm, windowIs, serialIs, ⟨idLow, drivesOne, everyTop, retryTop⟩, rfl, rfl, rfl,
      rfl, rfl, rfl, rfl, serialEq, rfl, rfl, rfl, rfl, rfl, rfl, rfl, rfl⟩

/-! The exception list (R7). -/

/-- The exception entry in the three bytes at `i`, whatever its parts byte holds. -/
def exceptionAt (payload : List Byte) (i : Nat) : SectorException :=
  { index := num payload i 1
    sector := if (num payload (i + 1) 1).testBit 0 then some (payload.getD (i + 2) 0) else none
    deleted := (num payload (i + 1) 1).testBit 1 }

theorem readException_eq (payload : List Byte) (i : Nat) :
    readException payload i = if num payload (i + 1) 1 < 4 then some (exceptionAt payload i) else none := rfl

/-- The entries of an exception list from byte `i` on, in the order given. -/
def exceptionsFrom (payload : List Byte) (i e : Nat) : List SectorException :=
  (List.range e).map fun k => exceptionAt payload (i + 3 * k)

theorem exceptionsFrom_succ (payload : List Byte) (i e : Nat) :
    exceptionsFrom payload i (e + 1) = exceptionAt payload i :: exceptionsFrom payload (i + 3) e := by
  have later (k : Nat) : i + 3 * (k + 1) = i + 3 + 3 * k := by ring
  simp [exceptionsFrom, List.range_succ_eq_map, later]

theorem readExceptions_eq_some_iff (payload : List Byte) (i e : Nat) (xs : List SectorException) :
    readExceptions payload i e = some xs ↔
      (∀ k < e, num payload (i + 3 * k + 1) 1 < 4) ∧ xs = exceptionsFrom payload i e := by
  induction e generalizing i xs with
  | zero => simp [readExceptions, exceptionsFrom, eq_comm]
  | succ e ih =>
    have later (k : Nat) : i + 3 * (k + 1) + 1 = i + 3 + 3 * k + 1 := by ring
    have parts : (∀ k < e + 1, num payload (i + 3 * k + 1) 1 < 4) ↔
        num payload (i + 1) 1 < 4 ∧ ∀ k < e, num payload (i + 3 + 3 * k + 1) 1 < 4 := by
      rw [Nat.forall_lt_succ_left]
      simp only [later, Nat.mul_zero, Nat.add_zero]
    rw [parts, exceptionsFrom_succ, readExceptions, readException_eq]
    by_cases first : num payload (i + 1) 1 < 4
    · rw [if_pos first]
      cases rest : readExceptions payload (i + 3) e with
      | none =>
        have missing := mt (ih (i + 3) (exceptionsFrom payload (i + 3) e)).mpr (by simp [rest])
        simp only [and_true] at missing
        simp [first, missing]
      | some ys =>
        obtain ⟨checked, rfl⟩ := (ih (i + 3) ys).mp rest
        simpa [first, eq_comm] using fun _ => checked
    · simp [first]

/-- Exception entries in ascending order of their logical indices (R7). -/
abbrev indexLe (x y : SectorException) : Prop := x.index ≤ y.index

theorem insertException_eq (x : SectorException) (xs : List SectorException) :
    insertException x xs = xs.orderedInsert indexLe x := by
  induction xs with
  | nil => rfl
  | cons y rest ih => simp only [insertException, List.orderedInsert, ih]

/-- The Format Table keeps the entries sorted (R7). -/
theorem foldr_insertException (xs : List SectorException) :
    xs.foldr insertException [] = xs.insertionSort indexLe := by
  induction xs with
  | nil => rfl
  | cons x rest ih => rw [List.foldr_cons, ih, insertException_eq, List.insertionSort_cons]

theorem pairwise_insertionSort_indexLe (xs : List SectorException) : (xs.insertionSort indexLe).Pairwise indexLe := by
  have total : Std.Total indexLe := ⟨fun x y => le_total x.index y.index⟩
  have trans : IsTrans SectorException indexLe := ⟨fun x y z => le_trans⟩
  exact List.pairwise_insertionSort indexLe xs

/-- Where no index stands twice, the sorted entries are the only list of them in strictly rising order. -/
theorem eq_insertionSort_iff {xs ys : List SectorException} (nodup : (xs.map (·.index)).Nodup) :
    ys = xs.insertionSort indexLe ↔
      ys.Pairwise (fun x y => x.index < y.index) ∧ ∀ x, x ∈ ys ↔ x ∈ xs := by
  have perm := List.perm_insertionSort indexLe xs
  have rising : (xs.insertionSort indexLe).Pairwise fun x y => x.index < y.index := by
    have different : (xs.insertionSort indexLe).Pairwise fun x y => x.index ≠ y.index :=
      List.pairwise_map.mp ((perm.map _).nodup_iff.mpr nodup)
    exact (pairwise_insertionSort_indexLe xs).imp₂ (fun x y le ne => lt_of_le_of_ne le ne) different
  constructor
  · rintro rfl
    exact ⟨rising, fun x => perm.mem_iff⟩
  · rintro ⟨risingYs, members⟩
    have antisymm : Std.Antisymm fun x y : SectorException => x.index < y.index :=
      ⟨fun x y lt gt => absurd lt (lt_asymm gt)⟩
    have irrefl : Std.Irrefl fun x y : SectorException => x.index < y.index := ⟨fun x => lt_irrefl x.index⟩
    exact risingYs.eq_of_mem_iff rising fun x => (members x).trans perm.mem_iff.symm

theorem exceptionsAllowed_insertionSort (n : Nat) (xs : List SectorException) :
    exceptionsAllowed n (xs.insertionSort indexLe) = true ↔
      (∀ x ∈ xs, x.index < n) ∧ (xs.map (·.index)).Nodup := by
  have perm := List.perm_insertionSort indexLe xs
  simp only [exceptionsAllowed, Bool.and_eq_true, List.all_eq_true, decide_eq_true_eq, perm.mem_iff,
    (perm.map _).nodup_iff]

/-- No two of the entries name the same sector (R7). -/
theorem exceptionsFrom_nodup (payload : List Byte) (i e : Nat) :
    ((exceptionsFrom payload i e).map (·.index)).Nodup ↔
      ∀ j < e, ∀ k < j, num payload (i + 3 * k) 1 ≠ num payload (i + 3 * j) 1 := by
  rw [List.nodup_iff_pairwise_ne, List.pairwise_iff_getElem]
  simp only [exceptionsFrom, List.length_map, List.length_range, List.getElem_map, List.getElem_range, exceptionAt]
  exact ⟨fun h j hj k hk => h k j (hk.trans hj) hj hk, fun h k j _ hj hk => h j hj k hk⟩

theorem mem_exceptionsFrom (payload : List Byte) (i e : Nat) (x : SectorException) :
    x ∈ exceptionsFrom payload i e ↔ ∃ k < e, x = exceptionAt payload (i + 3 * k) := by
  simp [exceptionsFrom, eq_comm]

/-- A field that may be absent, its byte read where it is given. -/
theorem map_toNat_eq_iff {v : Option Byte} {present : Bool} {w : Byte} :
    v.map BitVec.toNat = (if present then some w.toNat else none) ↔ v = if present then some w else none := by
  cases v <;> cases present <;> simp [BitVec.toNat_inj]

theorem eq_exceptionAt_iff (payload : List Byte) (i : Nat) (x : SectorException) :
    x = exceptionAt payload i ↔ x.index = num payload i 1 ∧
      x.sector.map BitVec.toNat =
        (if (num payload (i + 1) 1).testBit 0 then some (num payload (i + 2) 1) else none) ∧
      x.deleted = (num payload (i + 1) 1).testBit 1 := by
  obtain ⟨index, sector, deleted⟩ := x
  rw [num_one payload (i + 2), map_toNat_eq_iff, exceptionAt, SectorException.mk.injEq]

/-- The exception list of a descriptor: sorted, its entries allowed by R7. -/
theorem exceptions_iff (payload : List Byte) (e n : Nat) (ys : List SectorException) :
    ((∀ k < e, num payload (27 + 3 * k + 1) 1 < 4) ∧
      ys = (exceptionsFrom payload 27 e).foldr insertException [] ∧ exceptionsAllowed n ys = true) ↔
    (∀ i < e, num payload (27 + 3 * i + 1) 1 < 4 ∧ num payload (27 + 3 * i) 1 < n ∧
      ∀ k < i, num payload (27 + 3 * k) 1 ≠ num payload (27 + 3 * i) 1) ∧
    ys.Pairwise (fun x y => x.index < y.index) ∧
    ∀ x, x ∈ ys ↔ ∃ i < e, x = exceptionAt payload (27 + 3 * i) := by
  have inRange : (∀ x ∈ exceptionsFrom payload 27 e, x.index < n) ↔ ∀ i < e, num payload (27 + 3 * i) 1 < n := by
    simp [exceptionsFrom, exceptionAt]
  have allowed := exceptionsAllowed_insertionSort n (exceptionsFrom payload 27 e)
  rw [inRange, exceptionsFrom_nodup] at allowed
  rw [foldr_insertException]
  constructor
  · rintro ⟨parts, rfl, ok⟩
    obtain ⟨range, once⟩ := allowed.mp ok
    obtain ⟨rising, members⟩ := (eq_insertionSort_iff ((exceptionsFrom_nodup payload 27 e).mpr once)).mp rfl
    exact ⟨fun i hi => ⟨parts i hi, range i hi, once i hi⟩, rising,
      fun x => (members x).trans (mem_exceptionsFrom payload 27 e x)⟩
  · rintro ⟨checks, rising, members⟩
    have once := fun i hi => (checks i hi).2.2
    obtain rfl := (eq_insertionSort_iff ((exceptionsFrom_nodup payload 27 e).mpr once)).mpr
      ⟨rising, fun x => (members x).trans (mem_exceptionsFrom payload 27 e x).symm⟩
    exact ⟨fun i hi => (checks i hi).1, rfl, allowed.mpr ⟨fun i hi => (checks i hi).2.1, once⟩⟩

/-! Format definitions (R3 to R6). -/

theorem rateAllowed_iff (e : Encoding) (rate : Nat) : rateAllowed e rate = true ↔
    rate ∈ (if decide (e = .mfm) then [250, 300, 500, 1000] else [125, 250]) := by
  cases e <;> simp [rateAllowed, or_assoc]

/-- The checks of R4 to R7 on a descriptor. -/
theorem Descriptor.allowed_iff (d : Descriptor) : d.allowed = true ↔
    d.rate ∈ (if decide (d.encoding = .mfm) then [250, 300, 500, 1000] else [125, 250]) ∧
    (d.rpm = 300 ∨ d.rpm = 360) ∧ 1 ≤ d.sectors ∧ d.sectors ≤ 40 ∧ d.sizeCode ≤ 6 ∧
    d.firstSector + d.sectors - 1 ≤ 255 ∧
    ((d.sectors = 1 → d.interleave = 1) ∧ (d.sectors ≠ 1 → 1 ≤ d.interleave ∧ d.interleave ≤ d.sectors - 1)) ∧
    d.cylSkew < d.sectors ∧ d.headSkew < d.sectors ∧ 1 ≤ d.closingMin ∧
    (d.stepMultiplier = 1 ∨ d.stepMultiplier = 2) ∧ exceptionsAllowed d.sectors d.exceptions = true := by
  have interleave : (if d.sectors = 1 then d.interleave == 1
        else decide (1 ≤ d.interleave) && decide (d.interleave ≤ d.sectors - 1)) = true ↔
      (d.sectors = 1 → d.interleave = 1) ∧ (d.sectors ≠ 1 → 1 ≤ d.interleave ∧ d.interleave ≤ d.sectors - 1) := by
    by_cases one : d.sectors = 1 <;> simp [one]
  simp only [allowed, Bool.and_eq_true, interleave, rateAllowed_iff, Bool.or_eq_true, beq_iff_eq,
    decide_eq_true_eq, and_assoc]

theorem readDescriptor_eq_some_iff (payload : List Byte) (f : FormatId) (d : Descriptor) :
    readDescriptor payload = some (f, d) ↔
      num payload 0 1 = f.val ∧ Encoding.ofCode (num payload 1 1) = some d.encoding ∧
      num payload 26 1 ≤ 8 ∧ payload.length = 27 + 3 * num payload 26 1 ∧ givenField payload 6 1 ≤ 1 ∧
      d.allowed = true ∧ (∀ k < num payload 26 1, num payload (27 + 3 * k + 1) 1 < 4) ∧
      d = givenDescriptor payload d.encoding (exceptionsFrom payload 27 (num payload 26 1)) := by
  unfold readDescriptor
  split
  · next f' e xs hf he hxs =>
    rw [finOf?_eq_some_iff] at hf
    obtain ⟨parts, rfl⟩ := (readExceptions_eq_some_iff payload 27 _ xs).mp hxs
    simp only [Option.ite_none_right_eq_some, Option.some.injEq, Prod.mk.injEq, he]
    constructor
    · rintro ⟨⟨count, length, index, allowed⟩, rfl, rfl⟩
      exact ⟨hf, rfl, count, length, index, allowed, parts, rfl⟩
    · rintro ⟨hf', rfl, count, length, index, allowed, -, same⟩
      rw [same] at allowed
      exact ⟨⟨count, length, index, allowed⟩, Fin.ext (hf.symm.trans hf'), same.symm⟩
  · next other =>
    refine ⟨nofun, fun ⟨hf, he, _, _, _, _, parts, _⟩ => ?_⟩
    exact absurd ((readExceptions_eq_some_iff payload 27 _ _).mpr ⟨parts, rfl⟩)
      (other f d.encoding _ (finOf?_eq_some_iff.mpr hf) he)

/-- The index field's byte where it is given, present otherwise (R3, R6). -/
theorem givenIndexField_iff (payload : List Byte) (v : Bool) :
    (givenField payload 6 1 ≤ 1 ∧ v = (givenField payload 6 1 == 1)) ↔
      ((num payload 8 2).testBit 6 = true → num payload 16 1 ≤ 1) ∧
        v = (if (num payload 8 2).testBit 6 then decide (num payload 16 1 = 1) else true) := by
  unfold givenField
  cases (num payload 8 2).testBit 6 <;> simp [beq_eq_decide]

/-- A fill byte is its number (R3, R6). -/
theorem eq_byte_givenField_iff (payload : List Byte) (v : Byte) (bit : Nat) {deflt : Nat} (h : deflt < 256) :
    v = byte (givenField payload bit deflt) ↔ v.toNat = givenField payload bit deflt := by
  have small : givenField payload bit deflt < 256 := by
    unfold givenField
    split
    exacts [num_one_lt _ _, h]
  rw [← BitVec.toNat_inj, byte, BitVec.toNat_ofNat, Nat.mod_eq_of_lt small]

theorem eq_givenOverride_iff (payload : List Byte) (v : Option Byte) (bit : Nat) :
    v = givenOverride payload bit ↔
      v.map BitVec.toNat = if (num payload 8 2).testBit bit then some (num payload (10 + bit) 1) else none := by
  rw [num_one, map_toNat_eq_iff, givenOverride]

/-- A descriptor is the one a payload gives exactly when each field is (R3, R4). -/
theorem eq_givenDescriptor_iff (payload : List Byte) (d : Descriptor) (xs : List SectorException) :
    d = givenDescriptor payload d.encoding xs ↔
      d.rate = num payload 2 2 ∧ d.rpm = num payload 4 2 ∧
      d.tolerance = max 5 (min 50 (givenField payload 0 25)) ∧
      d.sectors = num payload 6 1 ∧ d.sizeCode = num payload 7 1 ∧ d.firstSector = givenField payload 1 1 ∧
      d.interleave = givenField payload 2 1 ∧ d.cylSkew = givenField payload 3 0 ∧
      d.headSkew = givenField payload 4 0 ∧
      d.leadGap = givenField payload 5 (if decide (d.encoding = .mfm) then 80 else 40) ∧
      d.indexField = (givenField payload 6 1 == 1) ∧
      d.openingGap = givenField payload 7 (if decide (d.encoding = .mfm) then 50 else 26) ∧
      d.sectorGap = givenField payload 8 0 ∧ d.gapComputed = decide (givenField payload 8 0 = 0) ∧
      d.closingMin = givenField payload 9 16 ∧
      d.gapFill.toNat = givenField payload 10 (if decide (d.encoding = .mfm) then 0x4E else 0xFF) ∧
      d.dataFill.toNat = givenField payload 11 0xE5 ∧ d.stepMultiplier = givenField payload 12 1 ∧
      d.cylOverride = givenOverride payload 13 ∧ d.headOverride = givenOverride payload 14 ∧
      d.sizeOverride = givenOverride payload 15 ∧ d.exceptions = xs.foldr insertException [] := by
  have small : (if decide (d.encoding = .mfm) then 0x4E else 0xFF) < 256 := by split <;> decide
  rw [← eq_byte_givenField_iff payload d.gapFill 10 small,
    ← eq_byte_givenField_iff payload d.dataFill 11 (by decide : 0xE5 < 256)]
  obtain ⟨⟩ := d
  simp only [givenDescriptor, Descriptor.mk.injEq, true_and, beq_eq_decide]
  rfl

/-- The clause of O24 on DEFINE FORMAT, from the fields, the checks and the exception list. -/
theorem readDescriptor_fields (payload : List Byte) (f : FormatId) (d : Descriptor) :
    let n (i : Nat) : Nat := num payload i 1
    let given (bit : Nat) : Bool := (num payload 8 2).testBit bit
    let mfm : Bool := decide (d.encoding = .mfm)
    readDescriptor payload = some (f, d) ↔
      n 0 = f.val ∧ n 1 = (if mfm then 1 else 0) ∧ n 26 ≤ 8 ∧ payload.length = 27 + 3 * n 26 ∧
      d.rate = num payload 2 2 ∧ d.rate ∈ (if mfm then [250, 300, 500, 1000] else [125, 250]) ∧
      d.rpm = num payload 4 2 ∧ (d.rpm = 300 ∨ d.rpm = 360) ∧
      d.tolerance = max 5 (min 50 (givenField payload 0 25)) ∧
      d.sectors = n 6 ∧ 1 ≤ d.sectors ∧ d.sectors ≤ 40 ∧ d.sizeCode = n 7 ∧ d.sizeCode ≤ 6 ∧
      d.firstSector = givenField payload 1 1 ∧ d.firstSector + d.sectors - 1 ≤ 255 ∧
      d.interleave = givenField payload 2 1 ∧
      (d.sectors = 1 → d.interleave = 1) ∧ (d.sectors ≠ 1 → 1 ≤ d.interleave ∧ d.interleave ≤ d.sectors - 1) ∧
      d.cylSkew = givenField payload 3 0 ∧ d.cylSkew < d.sectors ∧
      d.headSkew = givenField payload 4 0 ∧ d.headSkew < d.sectors ∧
      d.leadGap = givenField payload 5 (if mfm then 80 else 40) ∧
      (given 6 = true → n 16 ≤ 1) ∧ d.indexField = (if given 6 then decide (n 16 = 1) else true) ∧
      d.openingGap = givenField payload 7 (if mfm then 50 else 26) ∧
      d.sectorGap = givenField payload 8 0 ∧ d.gapComputed = decide (d.sectorGap = 0) ∧
      d.closingMin = givenField payload 9 16 ∧ 1 ≤ d.closingMin ∧
      d.gapFill.toNat = givenField payload 10 (if mfm then 0x4E else 0xFF) ∧
      d.dataFill.toNat = givenField payload 11 0xE5 ∧
      d.stepMultiplier = givenField payload 12 1 ∧ (d.stepMultiplier = 1 ∨ d.stepMultiplier = 2) ∧
      d.cylOverride.map BitVec.toNat = (if given 13 then some (n 23) else none) ∧
      d.headOverride.map BitVec.toNat = (if given 14 then some (n 24) else none) ∧
      d.sizeOverride.map BitVec.toNat = (if given 15 then some (n 25) else none) ∧
      (∀ i < n 26, n (27 + 3 * i + 1) < 4 ∧ n (27 + 3 * i) < d.sectors ∧
        ∀ k < i, n (27 + 3 * k) ≠ n (27 + 3 * i)) ∧
      d.exceptions.Pairwise (fun x y => x.index < y.index) ∧
      ∀ x, x ∈ d.exceptions ↔ ∃ i < n 26, x = exceptionAt payload (27 + 3 * i) := by
  intro n given mfm
  rw [readDescriptor_eq_some_iff, eq_givenDescriptor_iff, Encoding.ofCode_eq_some_iff, Descriptor.allowed_iff]
  constructor
  · rintro ⟨number, code, count, length, index, ⟨rateOk, rpmOk, sectorsLow, sectorsTop, sizeTop, firstTop,
      ⟨interleaveOne, interleaveMore⟩, cylTop, headTop, closingLow, stepOk, exceptionsOk⟩, parts, rate, rpm, tolerance,
      sectors, size, first, interleave, cyl, head, lead, indexField, opening, gap, computed, closing, gapFill, dataFill,
      step, cylOver, headOver, sizeOver, exceptions⟩
    obtain ⟨checks, rising, members⟩ := (exceptions_iff payload _ d.sectors d.exceptions).mp
      ⟨parts, exceptions, exceptionsOk⟩
    obtain ⟨indexOk, indexField⟩ := (givenIndexField_iff payload d.indexField).mp ⟨index, indexField⟩
    rw [eq_givenOverride_iff] at cylOver headOver sizeOver
    rw [← gap] at computed
    exact ⟨number, code, count, length, rate, rateOk, rpm, rpmOk, tolerance, sectors, sectorsLow, sectorsTop, size,
      sizeTop, first, firstTop, interleave, interleaveOne, interleaveMore, cyl, cylTop, head, headTop, lead, indexOk,
      indexField, opening, gap, computed, closing, closingLow, gapFill, dataFill, step, stepOk, cylOver, headOver,
      sizeOver, checks, rising, members⟩
  · rintro ⟨number, code, count, length, rate, rateOk, rpm, rpmOk, tolerance, sectors, sectorsLow, sectorsTop, size,
      sizeTop, first, firstTop, interleave, interleaveOne, interleaveMore, cyl, cylTop, head, headTop, lead, indexOk,
      indexField, opening, gap, computed, closing, closingLow, gapFill, dataFill, step, stepOk, cylOver, headOver,
      sizeOver, checks, rising, members⟩
    obtain ⟨parts, exceptions, exceptionsOk⟩ := (exceptions_iff payload _ d.sectors d.exceptions).mpr
      ⟨checks, rising, members⟩
    obtain ⟨index, indexField⟩ := (givenIndexField_iff payload d.indexField).mpr ⟨indexOk, indexField⟩
    rw [gap] at computed
    exact ⟨number, code, count, length, index, ⟨rateOk, rpmOk, sectorsLow, sectorsTop, sizeTop, firstTop,
      ⟨interleaveOne, interleaveMore⟩, cylTop, headTop, closingLow, stepOk, exceptionsOk⟩, parts, rate, rpm, tolerance,
      sectors, size, first, interleave, cyl, head, lead, indexField, opening, gap, computed, closing, gapFill, dataFill,
      step, (eq_givenOverride_iff payload _ 13).mpr cylOver, (eq_givenOverride_iff payload _ 14).mpr headOver,
      (eq_givenOverride_iff payload _ 15).mpr sizeOver, exceptions⟩

/-- Settles O24: each reader by its fields. -/
theorem definitionsAreReadAndChecked : Obligations.DefinitionsAreReadAndChecked := by
  unfold Obligations.DefinitionsAreReadAndChecked
  refine ⟨fun payload f d => ?_, fun p payload j => ?_, fun payload sp => ?_⟩
  · simp only [← eq_exceptionAt_iff]
    exact readDescriptor_fields payload f d
  · have fields := readJobDefinition_fields p payload j
    simp only [Window.ofCode_eq_some_iff] at fields
    exact fields
  · have fields := readSerialSpec_eq_some_iff payload sp
    simp only [readSerialEncoding_eq_some_iff] at fields
    exact fields.trans (by tauto)

end Sys2Proof.Machine

/-! SUPPORT. What a step can do to the clock, the formats, the store's books and the Image Directory, said once: the
moves of the base, and that every command answers one or more of them, or a reset. -/

namespace Sys2Proof.Machine

open Relation (ReflTransGen)

/-! The moves. -/

/-- An image slot as its check completes (R57). -/
def ImageSlot.checked (im : ImageSlot) (crc : Word32) : ImageSlot :=
  { im with
    computed := some (crc32Result crc)
    state := if im.expected = some (crc32Result crc) then .ready else .bad }

/-- The base without the work in flight on a slot (R32, R59). -/
def Base.abandoned (b : Base) (slot : SlotId) : Base :=
  { b with
    store := { b.store with clearing := b.store.clearing.filter fun w => decide (w.slot ≠ slot) }
    checkList := b.checkList.filter fun k => decide (k ≠ slot)
    check := if b.check.map (·.slot) = some slot then none else b.check }

/-- The base with the next slot of its check list under way (R55). -/
def Base.takeCheck (b : Base) (slot : SlotId) (rest : List SlotId) : Base :=
  { b with
    checkList := rest
    check := some { slot := slot, crc := crc32Preset, spans := (b.image slot).spans, bytesRead := 0 } }

/-- What a running part does to its base, one thing at a time, each with what is known when it does it. -/
inductive Base.Move : Base → Base → Prop
  | sense (b : Base) (trk0 wprot : BitVec 8) : Move b (b.sense trk0 wprot)
  | tick (b : Base) : Move b { b with timebase := b.timebase + 1, store := b.store.tick }
  | refresh (b : Base) : Move b { b with store := b.store.refreshExpiry }
  | grant (b : Base) (g : Grant) : Move b { b with store := b.store.afterGrant g }
  | share (b : Base) (v : Nat) : Move b { b with store := { b.store with share := clamp 1 16 v } }
  | format (b : Base) (f : FormatId) (d : Option Descriptor) (unused : b.formatInUse f = false) :
      Move b (b.setFormat f d)
  | openImage (b : Base) (slot : SlotId) (o : Opening) (regions : List Region) (running : b.resetActive = false)
      (free : (b.image slot).state = .free) (low : 1 ≤ o.length)
      (room : allocate o.length slot b.store.regions = some (o.base, regions)) :
      Move b (b.openImage slot o regions)
  | defineTrack (b : Base) (slot : SlotId) (c h : Nat) (choice : TrackChoice) (e : TrackEntry) (grows : Nat)
      (loading : (b.image slot).state = .loading) (skip : (b.image slot).entry c h = some .skip)
      (new : b.newEntry slot choice = .ok (e, grows)) :
      Move b (b.setImage slot { (b.image slot).setEntry c h e with fillMark := (b.image slot).fillMark + grows })
  | overflow (b : Base) (slot : SlotId) (n : Nat) :
      Move b (b.setImage slot { b.image slot with overflow := n })
  | references (b : Base) (slot : SlotId) (n : Nat) :
      Move b (b.setImage slot { b.image slot with refCount := n })
  | finish (b : Base) (slot : SlotId) (expected : Word32) (loading : (b.image slot).state = .loading) :
      Move b { b.setImage slot { b.image slot with
          expected := some expected, computed := none, state := .checking } with
        checkList := b.checkList ++ [slot] }
  | takeCheck (b : Base) (slot : SlotId) (rest : List SlotId) (idle : b.check = none)
      (list : b.checkList = slot :: rest) :
      Move b (b.takeCheck slot rest)
  | goOnCheck (b : Base) (k : ImageCheck) (crc : Word32) (len bytesRead : Nat) (check : b.check = some k) :
      Move b { b with check := some { k with crc := crc, spans := spansAfter len k.spans, bytesRead := bytesRead } }
  | endCheck (b : Base) (k : ImageCheck) (crc : Word32) (check : b.check = some k) :
      Move b { b.setImage k.slot ((b.image k.slot).checked crc) with check := none }
  | deleteImage (b : Base) (slot : SlotId) (used : (b.image slot).state ≠ .free)
      (unreferenced : (b.image slot).refCount = 0) : Move b ((b.abandoned slot).deleteImage slot)
  | clear (b : Base) (slot : SlotId) (len : Nat) : Move b (b.clearBurst slot len)

/-- One state comes of another by moves of the base, whatever happens on the floor; the DRAM and the queue stand. -/
structure State.Moves (s t : State) : Prop where
  mem : t.mem = s.mem
  pending : t.pending = s.pending
  base : ReflTransGen Base.Move s.base t.base

theorem State.Moves.still {s t : State} (mem : t.mem = s.mem) (pending : t.pending = s.pending)
    (base : t.base = s.base) : s.Moves t := ⟨mem, pending, base ▸ .refl⟩

theorem State.Moves.one {s t : State} (mem : t.mem = s.mem) (pending : t.pending = s.pending)
    (base : Base.Move s.base t.base) : s.Moves t := ⟨mem, pending, .single base⟩

theorem State.Moves.trans {s t u : State} (h : s.Moves t) (g : t.Moves u) : s.Moves u :=
  ⟨g.mem.trans h.mem, g.pending.trans h.pending, h.base.trans g.base⟩

theorem Base.Move.resetActive_eq {b b' : Base} (h : Base.Move b b') : b'.resetActive = b.resetActive := by
  cases h with
  | clear slot len => unfold Base.clearBurst; simp only; split <;> rfl
  | _ => rfl

theorem Base.moves_resetActive {b b' : Base} (h : ReflTransGen Base.Move b b') :
    b'.resetActive = b.resetActive := by
  induction h with
  | refl => rfl
  | tail _ move ih => rw [move.resetActive_eq, ih]

/-! The Image Check Unit (R55 to R57, entry 12). -/

theorem State.finishCheck_base (s : State) (slot : SlotId) (crc : Word32) : (s.finishCheck slot crc).base =
    { s.base.setImage slot ((s.base.image slot).checked crc) with check := none } := by
  simp only [finishCheck, ImageSlot.checked, decide_eq_true_eq]

theorem State.runChecks_moves (n : Nat) (s : State) : s.Moves (s.runChecks n) := by
  induction n generalizing s with
  | zero => exact .still rfl rfl rfl
  | succ n ih =>
    rw [runChecks]
    split
    · next slot rest idle list =>
      have taken := Base.Move.takeCheck s.base slot rest idle list
      simp only
      split
      · refine .trans ?_ (ih _)
        refine ⟨rfl, rfl, .trans (.single taken) (.single ?_)⟩
        rw [finishCheck_base]
        let check : ImageCheck :=
          { slot := slot, crc := crc32Preset, spans := (s.base.image slot).spans, bytesRead := 0 }
        exact .endCheck (s.base.takeCheck slot rest) check crc32Preset rfl
      · exact .one rfl rfl taken
    · exact .still rfl rfl rfl

theorem State.Moves.nextCheck {s t : State} (h : s.Moves t) : s.Moves t.nextCheck := h.trans (t.runChecks_moves _)

theorem State.checkBurst_moves (s : State) (bytes : List Byte) : s.Moves (s.checkBurst bytes) := by
  unfold checkBurst
  split
  · exact .still rfl rfl rfl
  · next k check =>
    simp only
    split
    · refine .nextCheck (.one rfl rfl ?_)
      rw [finishCheck_base]
      exact .endCheck _ _ _ check
    · exact .one rfl rfl (.goOnCheck _ _ _ _ _ check)

/-! The requests that change the base. -/

theorem doDefineFormat_moves (p : PortId) (payload : List Byte) (s : State) :
    s.Moves (doDefineFormat p payload s) := by
  unfold doDefineFormat
  split
  · exact .still rfl rfl rfl
  · next f d _ =>
    split
    · exact .still rfl rfl rfl
    · next stored accepted =>
      refine .one rfl rfl (.format _ f _ ?_)
      by_contra used
      rw [Base.acceptFormat_inUse d (by simpa using used)] at accepted
      cases accepted

theorem doRemoveFormat_moves (p : PortId) (payload : List Byte) (s : State) :
    s.Moves (doRemoveFormat p payload s) := by
  unfold doRemoveFormat
  split
  · exact .still rfl rfl rfl
  · split
    · exact .still rfl rfl rfl
    · split
      · exact .still rfl rfl rfl
      · next unused => exact .one rfl rfl (.format _ _ _ (by simpa using unused))

theorem doOpenImage_moves (p : PortId) (payload : List Byte) (s : State) (running : s.base.resetActive = false) :
    s.Moves (doOpenImage p payload s) := by
  unfold doOpenImage
  simp only
  split
  · exact .still rfl rfl rfl
  · split
    · exact .still rfl rfl rfl
    · next inRange =>
      split
      · exact .still rfl rfl rfl
      · next free =>
        split
        · exact .still rfl rfl rfl
        · next room =>
          exact .one rfl rfl (.openImage _ _ _ _ running (not_not.mp free) (show 1 ≤ num payload 1 4 by omega) room)

theorem ImageSlot.loaderCheck_eq_none {im : ImageSlot} {p : PortId} (h : im.loaderCheck p = none) :
    im.state = .loading ∧ im.opening.map (·.loader) = some p := by
  unfold loaderCheck at h
  split at h <;> simp_all

theorem doDefineTrack_moves (p : PortId) (payload : List Byte) (s : State) :
    s.Moves (doDefineTrack p payload s) := by
  unfold doDefineTrack
  simp only
  split
  · split
    · exact .still rfl rfl rfl
    · split
      · exact .still rfl rfl rfl
      · next check =>
        split
        · exact .still rfl rfl rfl
        · split
          · exact .still rfl rfl rfl
          · next skip =>
            split
            · exact .still rfl rfl rfl
            · next new =>
              exact .one rfl rfl (.defineTrack _ _ _ _ _ _ _ (ImageSlot.loaderCheck_eq_none check).1
                (not_not.mp skip) new)
  · exact .still rfl rfl rfl

theorem doWriteData_moves (p : PortId) (payload : List Byte) (s : State) : s.Moves (doWriteData p payload s) := by
  unfold doWriteData
  split
  · exact .still rfl rfl rfl
  · simp only
    split
    · exact .still rfl rfl rfl
    · split
      · exact .still rfl rfl rfl
      · split <;> exact .one rfl rfl (.overflow _ _ _)

theorem doFinishImage_moves (p : PortId) (payload : List Byte) (s : State) :
    s.Moves (doFinishImage p payload s) := by
  unfold doFinishImage
  split
  · exact .still rfl rfl rfl
  · simp only
    split
    · exact .still rfl rfl rfl
    · next check =>
      exact .nextCheck (.one rfl rfl (.finish _ _ _ (ImageSlot.loaderCheck_eq_none check).1))

/-- What a deletion leaves, before the unit takes its next check (R58, R59). -/
theorem State.abandon_base (s : State) (slot : SlotId) : (s.abandon slot).base = s.base.abandoned slot := by
  simp only [abandon, Base.abandoned, decide_eq_true_eq]

theorem doDeleteImage_moves (p : PortId) (payload : List Byte) (s : State) :
    s.Moves (doDeleteImage p payload s) := by
  unfold doDeleteImage
  split
  · exact .still rfl rfl rfl
  · next slot _ =>
    simp only
    split
    · exact .still rfl rfl rfl
    · next used =>
      split
      · exact .still rfl rfl rfl
      · next unreferenced =>
        refine .nextCheck (.one rfl rfl ?_)
        have move := Base.Move.deleteImage s.base slot used (by omega)
        rwa [← State.abandon_base] at move

theorem doDefineJob_moves (p : PortId) (payload : List Byte) (s : State) : s.Moves (doDefineJob p payload s) := by
  unfold doDefineJob
  split
  · exact .still rfl rfl rfl
  · split
    · exact .still rfl rfl rfl
    · exact .one rfl rfl (.references _ _ _)

theorem doRemoveJob_moves (p : PortId) (payload : List Byte) (s : State) : s.Moves (doRemoveJob p payload s) := by
  unfold doRemoveJob
  split
  · exact .still rfl rfl rfl
  · split
    · exact .still rfl rfl rfl
    · split
      · exact .still rfl rfl rfl
      · exact .one rfl rfl (.references _ _ _)


/-! Every request (R176, R178). -/

/-- A request out of reset answers moves of the base. -/
theorem perform_moves (r : Request) (p : PortId) (payload : List Byte) (s : State)
    (running : s.base.resetActive = false) : s.Moves (perform r p payload s) := by
  cases r with
  | defineFormat => exact doDefineFormat_moves p payload s
  | removeFormat => exact doRemoveFormat_moves p payload s
  | openImage => exact doOpenImage_moves p payload s running
  | defineTrack => exact doDefineTrack_moves p payload s
  | writeData => exact doWriteData_moves p payload s
  | finishImage => exact doFinishImage_moves p payload s
  | deleteImage => exact doDeleteImage_moves p payload s
  | setStore => exact .one rfl rfl (.share _ _)
  | defineJob => exact doDefineJob_moves p payload s
  | removeJob => exact doRemoveJob_moves p payload s
  | readDevice | portReset | readEvents | readLine | readStoreMap | readRing => exact .still rfl rfl rfl
  | setEventMask | setLineHold | readJob | stopJob | setResultFollow | readFormat | planQuery | setCursor | readData
  | readImage | readTrackEntry | startJob | cancelJob | setDrive | enableDrive | disableDrive | freezeDrive
  | resumeDrive | resetDrive | readDrive | readResult =>
    simp only [perform, doSetEventMask, doSetLineHold, doReadJob, doStopJob, doSetResultFollow, doReadFormat,
      doPlanQuery, doSetCursor, doReadData, doReadImage, doReadTrackEntry, doStartJob, doCancelJob, doSetDrive,
      doEnableDrive, doDisableDrive, doFreezeDrive, doResumeDrive, doResetDrive, doReadDrive, doReadResult]
    repeat' split
    all_goals exact .still rfl rfl rfl

theorem State.take_moves (s : State) (p : PortId) (h : HeldFrame) (running : s.base.resetActive = false) :
    s.Moves (s.take p h) := by
  cases h with
  | request r payload => exact perform_moves r p payload s running
  | error status => exact .still rfl rfl rfl

theorem State.receive_moves (s : State) (p : PortId) (h : HeldFrame) (running : s.base.resetActive = false) :
    s.Moves (s.receive p h) := by
  unfold receive
  split
  · exact perform_moves _ p _ s running
  · split
    · exact .still rfl rfl rfl
    · exact s.take_moves p h running

theorem State.Moves.drain {s t : State} (h : s.Moves t) (p : PortId) (n : Nat) (running : s.base.resetActive = false) :
    s.Moves (State.drain p n t) := by
  refine State.drain_induction (P := s.Moves) p (fun u x rest moved _ _ => ?_) n t h
  have active : u.base.resetActive = false := (Base.moves_resetActive moved.base).trans running
  refine moved.trans (.trans ?_ (State.take_moves _ p x active))
  exact .still rfl rfl rfl

theorem State.Moves.drainHolds {s t : State} (h : s.Moves t) (running : s.base.resetActive = false) (u : State) :
    s.Moves (u.drainHolds t) := by
  have ended {v : State} (moved : s.Moves v) (p : PortId) : s.Moves (u.drainEnded v p) := by
    unfold State.drainEnded
    split
    · exact moved.drain p _ running
    · exact moved
  exact ended (ended h .a) .b

/-! Every command. -/

/-- The bases that a reset answers (R185). -/
inductive Base.Reset (b : Base) : Base → Prop
  | powerOn (pins : PinLevels) : Reset b { Base.reset (strapBlocks pins.size1 pins.size0) with
      trk0 := pins.trk0, wprot := pins.wprot, resetActive := b.resetActive }
  | assert : Reset b { Base.reset b.store.blocks with
      resetCause := b.resetCause, resetCount := b.resetCount, resetActive := true, trk0 := b.trk0, wprot := b.wprot }
  | release (size1 size0 : Bool) (active : b.resetActive = true) : Reset b { b with
      timebase := 0, resetCause := .resetPin, resetCount := satAdd 255 b.resetCount 1
      resetActive := false, store := Store.reset (strapBlocks size1 size0) }

/-- A burst that completes writes what it had to write and serves its client (R37). -/
theorem State.completeBurst_moves (s : State) (w : Burst) :
    ({ s with mem := w.memoryAfter s.mem } : State).Moves (s.completeBurst w) := by
  unfold completeBurst
  simp only
  split
  · cases w.work with
    | clear slot => exact .one rfl rfl (.clear _ _ _)
    | check =>
      refine .trans ?_ (State.checkBurst_moves _ _)
      exact .still rfl rfl rfl
    | _ => exact .still rfl rfl rfl
  · exact .still rfl rfl rfl

theorem State.grant_moves (s : State) : s.Moves s.grant := by
  unfold grant
  split
  · exact .still rfl rfl rfl
  · split
    · exact .one rfl rfl (.grant _ _)
    · exact .still rfl rfl rfl

theorem State.channelEvent_moves (s : State) (o : Bool) (g : Base → Floor → Floor) : s.Moves (s.channelEvent o g) :=
  .still (s.channelEvent_mem o g) (s.channelEvent_pending o g) (s.channelEvent_base o g)

theorem State.taken_moves (s : State) (g : State → State)
    (h : s.base.resetActive = false → s.Moves (g s)) : s.Moves (s.taken g) := by
  unfold taken
  split
  · exact .still rfl rfl rfl
  · next running => exact h (by simpa using running)

theorem State.station_moves (s : State) (r : Request) (p : PortId) (payload : List Byte) :
    s.Moves (s.station r p payload) :=
  s.taken_moves (fun s => s.receive p (heldFrame r payload)) fun running => s.receive_moves p _ running

/-- What a command answers: a reset, the moves after a burst's writing, or moves with the DRAM as it stood. -/
theorem exec_cases (c : Instr) {s t : State} (h : exec c s = .next t) :
    s.Moves t ∨ (Base.Reset s.base t.base ∧ t.pending = s.pending ∧ (t.mem = s.mem ∨ t.mem = [])) ∨
      ∃ w, s.floor.burst = some w ∧ ({ s with mem := w.memoryAfter s.mem } : State).Moves t := by
  cases c with
  | powerOn pins =>
    cases h
    exact .inr (.inl ⟨.powerOn pins, rfl, .inr rfl⟩)
  | resetPinAssert =>
    cases h
    exact .inr (.inl ⟨.assert, rfl, .inl rfl⟩)
  | resetPinRelease size1 size0 =>
    simp only [exec, execResetPinRelease, Host.Outcome.next.injEq] at h
    subst h
    split
    · next active => exact .inr (.inl ⟨.release size1 size0 active, rfl, .inl rfl⟩)
    · exact .inl (.still rfl rfl rfl)
  | timebaseTick trk0 wprot =>
    cases h
    refine .inl (.trans (t := { s with base := s.base.sense trk0 wprot }) (.one rfl rfl (.sense _ _ _)) ?_)
    exact State.taken_moves _ _ fun _ => .one rfl rfl (.tick _)
  | refreshTimerExpiry =>
    cases h
    exact .inl (State.taken_moves _ _ fun _ => .one rfl rfl (.refresh _))
  | arbiterGrant =>
    cases h
    exact .inl (State.taken_moves _ _ fun running => s.grant_moves.drainHolds running s)
  | storeBurstComplete =>
    simp only [exec, execStoreBurstComplete] at h
    split at h
    · cases h
      exact .inl (.still rfl rfl rfl)
    · next w burst =>
      split at h
      · cases h
        exact .inl (.still rfl rfl rfl)
      · next running =>
        split at h
        · cases h
          exact .inr (.inr ⟨w, burst, (s.completeBurst_moves w).drainHolds (by simpa using running) s⟩)
        · cases h
  | frameRejected p bits =>
    cases h
    refine .inl (State.taken_moves _ _ fun running => ?_)
    unfold State.reject
    split
    · exact s.receive_moves p _ running
    all_goals exact .still rfl rfl rfl
  | planBuildComplete | fetchStart | fetchWindowEnd =>
    cases h
    exact .inl (State.taken_moves _ _ fun _ => .still rfl rfl rfl)
  | verifySlotResult | stepPulseTimerExpiry | settleTimerExpiry =>
    cases h
    refine .inl (State.taken_moves _ _ fun _ => ?_)
    repeat' split
    all_goals exact .still rfl rfl rfl
  | lineHoldPinChange pulls =>
    cases h
    refine .inl (.trans (t := { s with floor := s.floor.handlerPulls pulls }) (.still rfl rfl rfl) ?_)
    exact State.taken_moves _ _ fun _ => .still rfl rfl rfl
  | seatedEdge c level =>
    cases h
    refine .inl ?_
    repeat' split
    all_goals exact .still rfl rfl rfl
  | indexEdge | writeStreamByte | writeUnderrun | readBackByte | verifyUnderrun | stepTimerExpiry
  | spinupTimerExpiry | indexWatchdogExpiry | debounceTimerExpiry =>
    cases h
    exact .inl (s.channelEvent_moves _ _)
  | _ =>
    cases h
    exact .inl (s.station_moves _ _ _)

theorem step_cases {s t : State} (h : step s = .next t) :
    ({ s with pending := s.pending.tail } : State).Moves t ∨
      (Base.Reset s.base t.base ∧ (t.mem = s.mem ∨ t.mem = [])) ∨
      ∃ w, s.floor.burst = some w ∧ ({ s with pending := s.pending.tail, mem := w.memoryAfter s.mem } : State).Moves t := by
  unfold step at h
  cases hp : s.pending with
  | nil =>
    rw [hp] at h
    cases h
    exact .inl (.still rfl hp rfl)
  | cons c rest =>
    rw [hp] at h
    rcases exec_cases c h with moves | ⟨reset, -, mem⟩ | ⟨w, burst, moves⟩
    · exact .inl moves
    · exact .inr (.inl ⟨reset, mem⟩)
    · exact .inr (.inr ⟨w, burst, moves⟩)

/-- A law of the base that every move and every reset keeps is kept by every step. -/
theorem step_keeps_base {P : Base → Prop} (move : ∀ b b', Base.Move b b' → P b → P b')
    (reset : ∀ b b', Base.Reset b b' → P b → P b') {s t : State} (h : step s = .next t) (hs : P s.base) : P t.base := by
  have moves {b b' : Base} (path : ReflTransGen Base.Move b b') (hb : P b) : P b' := by
    induction path with
    | refl => exact hb
    | tail _ last ih => exact move _ _ last ih
  rcases step_cases h with path | ⟨path, -⟩ | ⟨w, -, path⟩
  · exact moves path.base hs
  · exact reset _ _ path hs
  · exact moves path.base hs

/-! The DRAM and the arbiter. -/

theorem Burst.memoryAfter_wf (w : Burst) {mem : List Host.Cell} (h : Memory.wf mem = true) :
    Memory.wf (w.memoryAfter mem) = true := by
  unfold memoryAfter
  split
  · exact Memory.wf_writeBytes _ _ h
  · exact Memory.wf_writeBytes _ _ h
  all_goals exact h

/-- Settles O5: only a burst writes the DRAM, byte by byte, and POWER_ON empties it. -/
theorem memoryStaysCanonical : Obligations.MemoryStaysCanonical := by
  unfold Obligations.MemoryStaysCanonical
  intro s t wf h
  rcases step_cases h with moves | ⟨-, mem | mem⟩ | ⟨w, -, moves⟩
  · rwa [moves.mem]
  · rwa [mem]
  · rw [mem]
    rfl
  · rw [moves.mem]
    exact w.memoryAfter_wf wf

/-- Settles O3: an arm of exec that can stop is STORE_BURST_COMPLETE alone, beyond the last block. -/
theorem onlyABurstBeyondTheStoreStops : Obligations.OnlyABurstBeyondTheStoreStops := by
  unfold Obligations.OnlyABurstBeyondTheStoreStops
  intro c s
  cases c with
  | storeBurstComplete =>
    simp only [exec, execStoreBurstComplete]
    split
    · exact .inl ⟨_, rfl⟩
    · next w burst =>
      split
      · exact .inl ⟨_, rfl⟩
      · next running =>
        split
        · exact .inl ⟨_, rfl⟩
        · next outside =>
          refine .inr ⟨trivial, rfl, by simpa using running, w, burst, ?_⟩
          rwa [Burst.inside, blockBytes, decide_eq_true_eq, not_le] at outside
  | _ => exact .inl ⟨_, rfl⟩

/-! The arbiter (R38, R39). -/

theorem Store.arbiterLaw_iff (t : Store) : t.arbiterLaw = true ↔ 1 ≤ t.share ∧ t.share ≤ 16 ∧ t.grantCount ≤ 16 := by
  simp [arbiterLaw, and_assoc]

theorem Base.Move.arbiterLaw {b b' : Base} (h : Base.Move b b') (law : b.store.arbiterLaw = true) :
    b'.store.arbiterLaw = true := by
  cases h with
  | refresh =>
    rw [Store.arbiterLaw_iff] at law ⊢
    simp only [Store.refreshExpiry]
    split <;> exact law
  | grant g =>
    rw [Store.arbiterLaw_iff] at law ⊢
    cases g <;> simp [Store.afterGrant, satAdd] <;> omega
  | share v =>
    rw [Store.arbiterLaw_iff] at law ⊢
    simp only [clamp]
    omega
  | clear slot len =>
    unfold Base.clearBurst
    simp only
    split <;> exact law
  | _ => exact law

theorem Base.Reset.arbiterLaw {b b' : Base} (h : Base.Reset b b') : b'.store.arbiterLaw = true := by
  cases h <;> rfl

theorem exec_setStore {p : PortId} {v : Byte} {s : State} (ready : s.ready p) :
    exec (.setStore p [v]) s = .next (doSetStore p [v] s) := next_station_ready .setStore ready rfl

/-- Settles O12: the moves that touch the share and the count, and the reply of SET STORE. -/
theorem arbiterKeepsItsRanges : Obligations.ArbiterKeepsItsRanges := by
  unfold Obligations.ArbiterKeepsItsRanges
  refine ⟨fun s t law h => ?_, fun p v s ready => ?_⟩
  · exact step_keeps_base (P := fun b => b.store.arbiterLaw = true) (fun _ _ move => move.arbiterLaw)
      (fun _ _ reset _ => reset.arbiterLaw) h law
  · rw [exec_setStore ready, doSetStore, num_head]
    rfl

end Sys2Proof.Machine

/-! SUPPORT. The region list and the Image Directory (R28 to R31, R41, R55): what allocation and freeing do to the
list, and that every move of the base keeps both laws of the regions. -/

namespace Sys2Proof.Machine

/-! First fit (R29). -/

theorem allocate_eq_some {len : Nat} {slot : SlotId} {regions after : List Region} {base : Nat}
    (h : allocate len slot regions = some (base, after)) :
    ∃ front r back, regions = front ++ r :: back ∧ r.owner = none ∧ len ≤ r.length ∧ base = r.base ∧
      (∀ q ∈ front, ¬(q.owner = none ∧ len ≤ q.length)) ∧
      after = front ++ { base := r.base, length := len, owner := some slot } ::
        ((if r.length = len then [] else
          [{ base := r.base + len, length := r.length - len, owner := none }]) ++ back) := by
  induction regions generalizing after with
  | nil => cases h
  | cons r rest ih =>
    unfold allocate at h
    by_cases room : r.owner = none ∧ len ≤ r.length
    · rw [if_pos room] at h
      refine ⟨[], r, rest, rfl, room.1, room.2, ?_⟩
      by_cases whole : r.length = len
      · rw [if_pos whole] at h ⊢
        cases h
        exact ⟨rfl, nofun, rfl⟩
      · rw [if_neg whole] at h ⊢
        cases h
        exact ⟨rfl, nofun, rfl⟩
    · rw [if_neg room, Option.map_eq_some_iff] at h
      obtain ⟨⟨base', after'⟩, later, same⟩ := h
      cases same
      obtain ⟨front, r', back, rfl, free, fits, rfl, before, rfl⟩ := ih later
      exact ⟨r :: front, r', back, rfl, free, fits, rfl, List.forall_mem_cons.mpr ⟨room, before⟩, rfl⟩

theorem allocate_eq_none {len : Nat} {slot : SlotId} {regions : List Region} :
    allocate len slot regions = none ↔ ∀ q ∈ regions, ¬(q.owner = none ∧ len ≤ q.length) := by
  induction regions with
  | nil => simp [allocate]
  | cons r rest ih =>
    unfold allocate
    by_cases room : r.owner = none ∧ len ≤ r.length
    · rw [if_pos room]
      refine ⟨fun none => ?_, fun none => absurd room (none r List.mem_cons_self)⟩
      simp only at none
      split at none <;> cases none
    · rw [if_neg room, Option.map_eq_none_iff, ih, List.forall_mem_cons]
      exact (and_iff_right room).symm

/-! The list covers the store (R28). -/

theorem tiles_cons {base stop : Nat} {r : Region} {rest : List Region} :
    tiles base (r :: rest) stop = true ↔
      r.base = base ∧ 1 ≤ r.length ∧ tiles (base + r.length) rest stop = true := by
  simp [tiles, and_assoc]

theorem tiles_append {base stop : Nat} {front back : List Region} :
    tiles base (front ++ back) stop = true ↔
      ∃ middle, tiles base front middle = true ∧ tiles middle back stop = true := by
  induction front generalizing base with
  | nil => simp [tiles]
  | cons r rest ih =>
    rw [List.cons_append, tiles_cons, ih]
    simp only [tiles_cons, ← exists_and_left, and_assoc]

theorem tiles_le {base stop : Nat} {regions : List Region} (h : tiles base regions stop = true) {r : Region}
    (hr : r ∈ regions) : r.base + r.length ≤ stop := by
  have low {base : Nat} {regions : List Region} (h : tiles base regions stop = true) : base ≤ stop := by
    induction regions generalizing base with
    | nil => exact (of_decide_eq_true h).le
    | cons q rest ih =>
      have := ih (tiles_cons.mp h).2.2
      omega
  obtain ⟨front, back, rfl⟩ := List.append_of_mem hr
  obtain ⟨middle, -, later⟩ := tiles_append.mp h
  obtain ⟨start, -, rest⟩ := tiles_cons.mp later
  have := low rest
  omega

/-- Two regions that a list may hold side by side (R28). -/
def Region.besides (r q : Region) : Prop := ¬(r.owner = none ∧ q.owner = none)

theorem apart_iff (regions : List Region) : apart regions = true ↔ regions.IsChain Region.besides := by
  induction regions with
  | nil => simp [apart]
  | cons r rest ih =>
    cases rest with
    | nil => simp [apart]
    | cons q rest =>
      rw [List.isChain_cons_cons, ← ih, Region.besides, apart]
      simp only [Bool.and_eq_true, Bool.not_eq_true', Bool.and_eq_false_iff, Option.isNone_eq_false_iff,
        Option.isSome_iff_ne_none, not_and_or, ne_eq]

theorem Store.regionLaw_iff (t : Store) : t.regionLaw = true ↔
    1 ≤ t.blocks ∧ tiles 0 t.regions t.blocks = true ∧ t.regions.IsChain Region.besides := by
  simp [regionLaw, apart_iff, and_assoc]

theorem Store.regionLaw_congr {t u : Store} (blocks : u.blocks = t.blocks) (regions : u.regions = t.regions)
    (h : t.regionLaw = true) : u.regionLaw = true := by
  rw [regionLaw_iff] at h ⊢
  rwa [blocks, regions]

theorem Store.regionLaw_reset {blocks : Nat} (h : 1 ≤ blocks) : (Store.reset blocks).regionLaw = true := by
  rw [regionLaw_iff]
  simp [reset, tiles, h]

theorem strapBlocks_pos (size1 size0 : Bool) : 1 ≤ strapBlocks size1 size0 := by
  cases size1 <;> cases size0 <;> decide

theorem allocate_tiles {len start stop base : Nat} {slot : SlotId} {regions after : List Region} (low : 1 ≤ len)
    (room : allocate len slot regions = some (base, after)) (h : tiles start regions stop = true) :
    tiles start after stop = true := by
  obtain ⟨front, r, back, rfl, -, fits, rfl, -, rfl⟩ := allocate_eq_some room
  obtain ⟨middle, before, later⟩ := tiles_append.mp h
  obtain ⟨rfl, some, rest⟩ := tiles_cons.mp later
  refine tiles_append.mpr ⟨_, before, tiles_cons.mpr ⟨rfl, low, ?_⟩⟩
  split
  · next all => rwa [List.nil_append, ← all]
  · rw [List.singleton_append, tiles_cons]
    refine ⟨rfl, ?_, ?_⟩
    · simp only
      omega
    · rwa [show r.base + len + (r.length - len) = r.base + r.length by omega]

theorem allocate_apart {len base : Nat} {slot : SlotId} {regions after : List Region}
    (room : allocate len slot regions = some (base, after)) (h : regions.IsChain Region.besides) :
    after.IsChain Region.besides := by
  obtain ⟨front, r, back, rfl, free, -, rfl, -, rfl⟩ := allocate_eq_some room
  obtain ⟨before, later⟩ := List.isChain_split.mp h
  have owned (q : Region) : Region.besides { base := r.base, length := len, owner := some slot } q := by
    simp [Region.besides]
  refine List.isChain_split.mpr ⟨?_, ?_⟩
  · rw [List.isChain_append] at before ⊢
    refine ⟨before.1, List.isChain_singleton _, fun q _ x hx => ?_⟩
    cases hx
    simp [Region.besides]
  · have rest : back.IsChain Region.besides := later.of_cons
    split
    · rw [List.nil_append, List.isChain_cons]
      exact ⟨fun q _ => owned q, rest⟩
    · rw [List.singleton_append, List.isChain_cons_cons, List.isChain_cons]
      refine ⟨owned _, fun q hq => ?_, rest⟩
      have := (List.isChain_cons.mp later).1 q hq
      simpa [Region.besides, free] using this

/-- The regions of a list that a slot owns. -/
def ownedBy (k : SlotId) (regions : List Region) : List Region :=
  regions.filter fun r => decide (r.owner = some k)

theorem allocate_ownedBy {len base : Nat} {slot : SlotId} {regions after : List Region}
    (room : allocate len slot regions = some (base, after)) (unowned : ownedBy slot regions = []) (k : SlotId) :
    ownedBy k after =
      if k = slot then [{ base := base, length := len, owner := some slot }] else ownedBy k regions := by
  obtain ⟨front, r, back, rfl, free, -, rfl, -, rfl⟩ := allocate_eq_some room
  have rest : ownedBy k (if r.length = len then [] else
      [{ base := r.base + len, length := r.length - len, owner := none }]) = [] := by
    split <;> simp [ownedBy]
  have before : ownedBy k (front ++ r :: back) = ownedBy k front ++ ownedBy k back := by
    simp [ownedBy, free]
  have unowned' : ownedBy slot front ++ ownedBy slot back = [] := by
    simpa [ownedBy, free] using unowned
  rw [before]
  unfold ownedBy at *
  rw [List.filter_append, List.filter_cons, List.filter_append, rest, List.nil_append]
  by_cases same : k = slot
  · subst same
    obtain ⟨none, none'⟩ := List.append_eq_nil_iff.mp unowned'
    simp [none, none']
  · simp [same, Ne.symm same]

/-! Freeing (R30). -/

theorem mergeFree_cons_owned {r : Region} (rest : List Region) (owned : r.owner ≠ none) :
    mergeFree (r :: rest) = r :: mergeFree rest := by
  rw [mergeFree]
  split
  · next none _ => exact absurd none owned
  · rfl

theorem mergeFree_cons_free {r : Region} (rest : List Region) (free : r.owner = none) : mergeFree (r :: rest) =
    match mergeFree rest with
    | [] => [r]
    | q :: qs => if q.owner = none then { r with length := r.length + q.length } :: qs else r :: q :: qs := by
  rw [mergeFree, free]
  cases mergeFree rest <;> rfl

/-- What a first region joins: nothing, a FREE neighbour, or it stands. -/
theorem mergeFree_cons (r : Region) (rest : List Region) :
    (r.besides ((mergeFree rest).headD { r with owner := some 0 }) ∧ mergeFree (r :: rest) = r :: mergeFree rest) ∨
    ∃ q qs, mergeFree rest = q :: qs ∧ r.owner = none ∧ q.owner = none ∧
      mergeFree (r :: rest) = { r with length := r.length + q.length } :: qs := by
  by_cases free : r.owner = none
  · rw [mergeFree_cons_free rest free]
    cases mergeFree rest with
    | nil => exact .inl ⟨by simp [Region.besides], rfl⟩
    | cons q qs =>
      by_cases next : q.owner = none
      · exact .inr ⟨q, qs, rfl, free, next, if_pos next⟩
      · exact .inl ⟨by simp [Region.besides, next], if_neg next⟩
  · exact .inl ⟨fun both => free both.1, mergeFree_cons_owned rest free⟩

theorem mergeFree_tiles {start stop : Nat} {regions : List Region} (h : tiles start regions stop = true) :
    tiles start (mergeFree regions) stop = true := by
  induction regions generalizing start with
  | nil => exact h
  | cons r rest ih =>
    obtain ⟨base, some, later⟩ := tiles_cons.mp h
    have merged := ih later
    rcases mergeFree_cons r rest with ⟨-, same⟩ | ⟨q, qs, tail, -, -, joined⟩
    · rw [same]
      exact tiles_cons.mpr ⟨base, some, merged⟩
    · rw [tail] at merged
      obtain ⟨-, some', last⟩ := tiles_cons.mp merged
      rw [joined]
      refine tiles_cons.mpr ⟨base, ?_, ?_⟩
      · simp only
        omega
      · rwa [← Nat.add_assoc]

theorem mergeFree_apart (regions : List Region) : (mergeFree regions).IsChain Region.besides := by
  induction regions with
  | nil => exact List.isChain_nil
  | cons r rest ih =>
    rcases mergeFree_cons r rest with ⟨besides, same⟩ | ⟨q, qs, tail, free, next, joined⟩
    · rw [same]
      cases tail : mergeFree rest with
      | nil => exact List.isChain_singleton r
      | cons q qs =>
        rw [tail] at besides ih
        exact List.isChain_cons_cons.mpr ⟨besides, ih⟩
    · rw [tail, List.isChain_cons] at ih
      rw [joined, List.isChain_cons]
      refine ⟨fun x hx => ?_, ih.2⟩
      have := ih.1 x hx
      simpa [Region.besides, free, next] using this

theorem mergeFree_ownedBy (k : SlotId) (regions : List Region) : ownedBy k (mergeFree regions) = ownedBy k regions := by
  induction regions with
  | nil => rfl
  | cons r rest ih =>
    unfold ownedBy at *
    rcases mergeFree_cons r rest with ⟨-, same⟩ | ⟨q, qs, tail, free, next, joined⟩
    · rw [same, List.filter_cons, List.filter_cons, ih]
    · rw [joined, List.filter_cons, List.filter_cons, ← ih, tail, List.filter_cons]
      simp [free, next]

theorem freeRegion_tiles {start stop : Nat} (slot : SlotId) {regions : List Region}
    (h : tiles start regions stop = true) : tiles start (freeRegion slot regions) stop = true := by
  refine mergeFree_tiles ?_
  induction regions generalizing start with
  | nil => exact h
  | cons r rest ih =>
    obtain ⟨base, some, later⟩ := tiles_cons.mp h
    rw [List.map_cons, tiles_cons]
    split
    · exact ⟨base, some, ih later⟩
    · exact ⟨base, some, ih later⟩

theorem freeRegion_ownedBy (slot k : SlotId) (regions : List Region) :
    ownedBy k (freeRegion slot regions) = if k = slot then [] else ownedBy k regions := by
  rw [freeRegion, mergeFree_ownedBy]
  induction regions with
  | nil => simp [ownedBy]
  | cons r rest ih =>
    unfold ownedBy at *
    rw [List.map_cons, List.filter_cons, ih, List.filter_cons]
    by_cases same : k = slot
    · by_cases mine : r.owner = some slot <;> simp [same, mine]
    · by_cases mine : r.owner = some slot
      · simp [same, mine, Ne.symm same]
      · simp [same, mine]

/-! The law of the list. -/

theorem Base.clearBurst_regions (b : Base) (slot : SlotId) (len : Nat) :
    (b.clearBurst slot len).store.regions = b.store.regions := by
  unfold clearBurst
  simp only
  split <;> rfl

theorem Base.clearBurst_blocks (b : Base) (slot : SlotId) (len : Nat) :
    (b.clearBurst slot len).store.blocks = b.store.blocks := by
  unfold clearBurst
  simp only
  split <;> rfl

theorem Base.Move.blocks_eq {b b' : Base} (h : Base.Move b b') : b'.store.blocks = b.store.blocks := by
  cases h with
  | clear slot len => exact b.clearBurst_blocks slot len
  | refresh =>
    simp only [Store.refreshExpiry]
    split <;> rfl
  | grant g => cases g <;> rfl
  | _ => rfl

/-- Only an opening and a deletion touch the region list. -/
theorem Base.Move.regions_cases {b b' : Base} (h : Base.Move b b') : b'.store.regions = b.store.regions ∨
    (∃ slot, ∃ o : Opening, 1 ≤ o.length ∧
      allocate o.length slot b.store.regions = some (o.base, b'.store.regions)) ∨
    ∃ slot, b'.store.regions = freeRegion slot b.store.regions := by
  cases h with
  | openImage slot o regions running free low room => exact .inr (.inl ⟨slot, o, low, room⟩)
  | deleteImage slot => exact .inr (.inr ⟨slot, rfl⟩)
  | clear slot len => exact .inl (b.clearBurst_regions slot len)
  | refresh =>
    refine .inl ?_
    simp only [Store.refreshExpiry]
    split <;> rfl
  | grant g => cases g <;> exact .inl rfl
  | _ => exact .inl rfl

theorem Base.Move.regionLaw {b b' : Base} (h : Base.Move b b') (law : b.store.regionLaw = true) :
    b'.store.regionLaw = true := by
  rw [Store.regionLaw_iff] at law ⊢
  obtain ⟨blocks, cover, chain⟩ := law
  rw [h.blocks_eq]
  rcases h.regions_cases with same | ⟨slot, o, low, room⟩ | ⟨slot, freed⟩
  · rw [same]
    exact ⟨blocks, cover, chain⟩
  · exact ⟨blocks, allocate_tiles low room cover, allocate_apart room chain⟩
  · rw [freed]
    exact ⟨blocks, freeRegion_tiles slot cover, mergeFree_apart _⟩

theorem Base.Reset.regionLaw {b b' : Base} (h : Base.Reset b b') (law : b.store.regionLaw = true) :
    b'.store.regionLaw = true := by
  cases h with
  | powerOn pins => exact Store.regionLaw_reset (strapBlocks_pos _ _)
  | assert => exact Store.regionLaw_reset ((Store.regionLaw_iff _).mp law).1
  | release size1 size0 => exact Store.regionLaw_reset (strapBlocks_pos size1 size0)

/-! The law of the list and the slots. -/

/-- The law is about the regions, the slots' states and regions, and the clearing and check lists alone. -/
theorem Base.OwnLaw.congr {b b' : Base} (h : b.OwnLaw) (regions : b'.store.regions = b.store.regions)
    (blocks : b'.store.blocks = b.store.blocks) (clearing : b'.store.clearing = b.store.clearing)
    (state : ∀ k, (b'.image k).state = (b.image k).state)
    (opening : ∀ k, (b'.image k).opening = (b.image k).opening) (list : b'.checkList = b.checkList)
    (check : b'.check.map (·.slot) = b.check.map (·.slot)) (active : b'.resetActive = b.resetActive) : b'.OwnLaw where
  regions := Store.regionLaw_congr blocks regions h.regions
  open? k := by rw [state, opening, h.open?]
  owns k := by rw [regions, opening, h.owns]
  clearing w hw := by rw [state, h.clearing w (clearing ▸ hw)]
  waiting k hk := by rw [state, check]; exact h.waiting k (list ▸ hk)
  once := by rw [list]; exact h.once
  checked k hk := by
    have under : b.check.map (·.slot) = some k.slot := by rw [← check, hk]; rfl
    obtain ⟨l, hl, same⟩ := Option.map_eq_some_iff.mp under
    rw [state, ← same]
    exact h.checked l hl
  reset := by rw [active]; intro reset k; rw [state]; exact h.reset reset k

/-- A slot moves on in its life: it stays open, and the lists follow. -/
theorem Base.OwnLaw.moveSlot {b b' : Base} (h : b.OwnLaw) (slot : SlotId) {x : ImageSlot}
    (regions : b'.store.regions = b.store.regions) (blocks : b'.store.blocks = b.store.blocks)
    (image : ∀ k, b'.image k = (b.setImage slot x).image k) (opening : x.opening = (b.image slot).opening)
    (used : (b.image slot).state ≠ .free) (stays : x.state ≠ .free) (active : b'.resetActive = b.resetActive)
    (clearing : ∀ w ∈ b'.store.clearing, (b'.image w.slot).state = .clearing)
    (waiting : ∀ k ∈ b'.checkList, (b'.image k).state = .checking ∧ b'.check.map (·.slot) ≠ some k)
    (once : b'.checkList.Nodup) (checked : ∀ k, b'.check = some k → (b'.image k.slot).state = .checking) :
    b'.OwnLaw := by
  have opens (k : SlotId) : (b'.image k).opening = (b.image k).opening := by
    rw [image]
    by_cases same : k = slot
    · rw [same, Base.image_setImage_same, opening]
    · rw [Base.image_setImage_other b slot k x same]
  have free (k : SlotId) : (b'.image k).state = .free ↔ (b.image k).state = .free := by
    rw [image]
    by_cases same : k = slot
    · rw [same, Base.image_setImage_same]
      exact iff_of_false stays used
    · rw [Base.image_setImage_other b slot k x same]
  exact
    { regions := Store.regionLaw_congr blocks regions h.regions
      open? := fun k => by rw [opens, h.open?, free]
      owns := fun k => by rw [regions, opens, h.owns]
      clearing := clearing
      waiting := waiting
      once := once
      checked := checked
      reset := fun reset k => (free k).mpr (h.reset (active ▸ reset) k) }

/-- A state other than the slot's own is found at another slot. -/
theorem Base.image_setImage_of_ne {b : Base} {slot k : SlotId} {x : ImageSlot} {state : ImageState}
    (other : (b.image slot).state ≠ state) (h : (b.image k).state = state) : (b.setImage slot x).image k = b.image k :=
  b.image_setImage_other slot k x fun same => other (same ▸ h)

theorem Base.openImage_image_same (b : Base) (slot : SlotId) (o : Opening) (regions : List Region) :
    (b.openImage slot o regions).image slot = (b.image slot).opened o :=
  Base.image_modImage_same b slot fun im => im.opened o

theorem Base.openImage_image_other (b : Base) {slot k : SlotId} (o : Opening) (regions : List Region) (h : k ≠ slot) :
    (b.openImage slot o regions).image k = b.image k :=
  Base.image_modImage_other b slot k (fun im => im.opened o) h

theorem Base.deleteImage_image_same (b : Base) (slot : SlotId) :
    ((b.abandoned slot).deleteImage slot).image slot =
      { ImageSlot.reset with openNumber := (b.image slot).openNumber } :=
  Base.image_modImage_same (b.abandoned slot) slot fun im => { ImageSlot.reset with openNumber := im.openNumber }

theorem Base.deleteImage_image_other (b : Base) {slot k : SlotId} (h : k ≠ slot) :
    ((b.abandoned slot).deleteImage slot).image k = b.image k :=
  Base.image_modImage_other (b.abandoned slot) slot k
    (fun im => { ImageSlot.reset with openNumber := im.openNumber }) h

theorem Base.OwnLaw.openImage {b : Base} (h : b.OwnLaw) {slot : SlotId} {o : Opening} {regions : List Region}
    (running : b.resetActive = false) (free : (b.image slot).state = .free) (low : 1 ≤ o.length)
    (room : allocate o.length slot b.store.regions = some (o.base, regions)) : (b.openImage slot o regions).OwnLaw := by
  have law : (b.openImage slot o regions).store.regionLaw = true :=
    (Base.Move.openImage b slot o regions running free low room).regionLaw h.regions
  have unowned : ownedBy slot b.store.regions = [] := by
    have none := (h.open? slot).mpr free
    have owns := h.owns slot
    rwa [none] at owns
  have at_slot := b.openImage_image_same slot o regions
  have others (k : SlotId) (other : k ≠ slot) := b.openImage_image_other o regions other
  have checking {k : SlotId} (hk : (b.image k).state = .checking) : (b.openImage slot o regions).image k = b.image k :=
    others k fun same => by rw [same, free] at hk; cases hk
  refine
    { regions := law, open? := fun k => ?_, owns := fun k => ?_, clearing := fun w hw => ?_
      waiting := fun k hk => ?_, once := h.once, checked := fun k hk => ?_, reset := fun active => ?_ }
  · by_cases same : k = slot
    · rw [same, at_slot]
      simp [ImageSlot.opened]
    · rw [others k same]
      exact h.open? k
  · refine (allocate_ownedBy room unowned k).trans ?_
    by_cases same : k = slot
    · rw [if_pos same, same, at_slot]
      rfl
    · rw [if_neg same, others k same]
      exact h.owns k
  · rcases List.mem_append.mp hw with old | new
    · have clearing := h.clearing w old
      rw [others w.slot fun same => by rw [same, free] at clearing; cases clearing]
      exact clearing
    · cases List.mem_singleton.mp new
      rw [at_slot]
      rfl
  · rw [checking (h.waiting k hk).1]
    exact h.waiting k hk
  · rw [checking (h.checked k hk)]
    exact h.checked k hk
  · exact absurd (running.symm.trans active) Bool.false_ne_true

theorem Base.OwnLaw.deleteImage {b : Base} (h : b.OwnLaw) (slot : SlotId) :
    ((b.abandoned slot).deleteImage slot).OwnLaw := by
  set b' := (b.abandoned slot).deleteImage slot with hb'
  have at_slot : b'.image slot = { ImageSlot.reset with openNumber := (b.image slot).openNumber } :=
    b.deleteImage_image_same slot
  have others (k : SlotId) (other : k ≠ slot) : b'.image k = b.image k := b.deleteImage_image_other other
  have check : b'.check = if b.check.map (·.slot) = some slot then none else b.check := rfl
  have law : b'.store.regionLaw = true := by
    obtain ⟨blocks, cover, chain⟩ := (Store.regionLaw_iff _).mp h.regions
    exact (Store.regionLaw_iff _).mpr ⟨blocks, freeRegion_tiles slot cover, mergeFree_apart _⟩
  refine
    { regions := law, open? := fun k => ?_, owns := fun k => ?_, clearing := fun w hw => ?_
      waiting := fun k hk => ?_, once := h.once.filter _, checked := fun k hk => ?_, reset := fun active k => ?_ }
  · by_cases same : k = slot
    · rw [same, at_slot]
      simp [ImageSlot.reset]
    · rw [others k same]
      exact h.open? k
  · refine (freeRegion_ownedBy slot k b.store.regions).trans ?_
    by_cases same : k = slot
    · rw [if_pos same, same, at_slot]
      rfl
    · rw [if_neg same, others k same]
      exact h.owns k
  · obtain ⟨old, other⟩ := List.mem_filter.mp hw
    rw [others w.slot (of_decide_eq_true other)]
    exact h.clearing w old
  · obtain ⟨old, other⟩ := List.mem_filter.mp hk
    obtain ⟨checking, apart⟩ := h.waiting k old
    rw [others k (of_decide_eq_true other), check]
    refine ⟨checking, ?_⟩
    split
    · simp
    · exact apart
  · rw [check] at hk
    split at hk
    · cases hk
    · next other =>
      rw [others k.slot fun same => other (by rw [hk, ← same]; rfl)]
      exact h.checked k hk
  · by_cases same : k = slot
    · rw [same, at_slot]
      rfl
    · rw [others k same]
      exact h.reset active k

theorem Base.OwnLaw.clearBurst {b : Base} (h : b.OwnLaw) (slot : SlotId) (len : Nat) : (b.clearBurst slot len).OwnLaw := by
  unfold Base.clearBurst
  simp only
  split
  · next done =>
    obtain ⟨w, hw, mine⟩ := List.any_eq_true.mp done
    have mine : w.slot = slot := by simp_all
    have clearing : (b.image slot).state = .clearing := mine ▸ h.clearing w hw
    have still {k : SlotId} (hk : (b.image k).state = .checking) := Base.image_setImage_of_ne
      (x := { b.image slot with state := .loading }) (by rw [clearing]; decide) hk
    refine h.moveSlot slot (x := { b.image slot with state := .loading }) rfl rfl (fun _ => rfl) rfl
      (by rw [clearing]; decide) (by simp) rfl (fun v hv => ?_) (fun k hk => ?_) h.once fun k hk => ?_
    · obtain ⟨old, other⟩ := List.mem_filter.mp hv
      have still := Base.image_setImage_other b slot v.slot { b.image slot with state := .loading } (of_decide_eq_true other)
      exact (congrArg ImageSlot.state still).trans (h.clearing v old)
    · exact ⟨(congrArg ImageSlot.state (still (h.waiting k hk).1)).trans (h.waiting k hk).1, (h.waiting k hk).2⟩
    · exact (congrArg ImageSlot.state (still (h.checked k hk))).trans (h.checked k hk)
  · refine
      { regions := Store.regionLaw_congr rfl rfl h.regions, open? := h.open?, owns := h.owns, clearing := fun v hv => ?_
        waiting := h.waiting, once := h.once, checked := h.checked, reset := h.reset }
    obtain ⟨w, hw, rfl⟩ := List.mem_map.mp hv
    split <;> exact h.clearing w hw

theorem Base.OwnLaw.endCheck {b : Base} (h : b.OwnLaw) {k : ImageCheck} (crc : Word32) (check : b.check = some k) :
    ({ b.setImage k.slot ((b.image k.slot).checked crc) with check := none } : Base).OwnLaw := by
  have checking := h.checked k check
  have stays : ((b.image k.slot).checked crc).state ≠ .free := by
    simp only [ImageSlot.checked]
    split <;> simp
  refine h.moveSlot k.slot rfl rfl (fun _ => rfl) rfl (by rw [checking]; decide) stays rfl (fun w hw => ?_)
    (fun l hl => ⟨?_, by simp⟩) h.once nofun
  · have still := Base.image_setImage_of_ne (x := (b.image k.slot).checked crc) (by rw [checking]; decide)
      (h.clearing w hw)
    exact (congrArg ImageSlot.state still).trans (h.clearing w hw)
  · obtain ⟨waits, apart⟩ := h.waiting l hl
    have still := Base.image_setImage_other b k.slot l ((b.image k.slot).checked crc) fun same =>
      apart (by rw [check, same]; rfl)
    exact (congrArg ImageSlot.state still).trans waits

theorem Base.OwnLaw.finish {b : Base} (h : b.OwnLaw) {slot : SlotId} (expected : Word32)
    (loading : (b.image slot).state = .loading) :
    ({ b.setImage slot { b.image slot with expected := some expected, computed := none, state := .checking } with
      checkList := b.checkList ++ [slot] } : Base).OwnLaw := by
  set x : ImageSlot := { b.image slot with expected := some expected, computed := none, state := .checking }
  have fresh {k : SlotId} (hk : (b.image k).state = .checking) : k ≠ slot := fun same => by
    rw [same, loading] at hk
    cases hk
  have still {k : SlotId} (hk : (b.image k).state = .checking) : ((b.setImage slot x).image k).state = .checking := by
    rw [Base.image_setImage_other b slot k x (fresh hk)]
    exact hk
  refine h.moveSlot slot (x := x) rfl rfl (fun _ => rfl) rfl (by rw [loading]; decide) (by simp [x]) rfl
    (fun w hw => ?_) (fun k hk => ?_) ?_ fun k hk => still (h.checked k hk)
  · have same := Base.image_setImage_of_ne (x := x) (by rw [loading]; decide) (h.clearing w hw)
    exact (congrArg ImageSlot.state same).trans (h.clearing w hw)
  · rcases List.mem_append.mp hk with old | new
    · exact ⟨still (h.waiting k old).1, (h.waiting k old).2⟩
    · cases List.mem_singleton.mp new
      refine ⟨congrArg ImageSlot.state (Base.image_setImage_same b slot x), fun under => ?_⟩
      obtain ⟨l, hl, same⟩ := Option.map_eq_some_iff.mp under
      exact fresh (h.checked l hl) same
  · refine h.once.append (List.nodup_singleton slot) fun k hk hs => ?_
    exact fresh (h.waiting k hk).1 (List.mem_singleton.mp hs)

theorem Base.OwnLaw.takeCheck {b : Base} (h : b.OwnLaw) {slot : SlotId} {rest : List SlotId}
    (list : b.checkList = slot :: rest) : (b.takeCheck slot rest).OwnLaw := by
  have once := h.once
  rw [list, List.nodup_cons] at once
  have waits {k : SlotId} (hk : k ∈ slot :: rest) : (b.image k).state = .checking := (h.waiting k (list ▸ hk)).1
  exact
    { regions := h.regions, open? := h.open?, owns := h.owns, clearing := h.clearing, once := once.2, reset := h.reset
      waiting := fun k hk => ⟨waits (List.mem_cons_of_mem slot hk), fun same => once.1 (by cases same; exact hk)⟩
      checked := fun k hk => by cases hk; exact waits List.mem_cons_self }

/-- A slot changed in what the law does not speak of. -/
theorem Base.OwnLaw.setImage {b : Base} (h : b.OwnLaw) (slot : SlotId) {x : ImageSlot}
    (state : x.state = (b.image slot).state) (opening : x.opening = (b.image slot).opening) :
    (b.setImage slot x).OwnLaw := by
  refine h.congr rfl rfl rfl (fun k => ?_) (fun k => ?_) rfl rfl rfl
  all_goals by_cases same : k = slot
  · rw [same, Base.image_setImage_same, state]
  · rw [Base.image_setImage_other b slot k x same]
  · rw [same, Base.image_setImage_same, opening]
  · rw [Base.image_setImage_other b slot k x same]

theorem Base.Move.ownLaw {b b' : Base} (h : Base.Move b b') (law : b.OwnLaw) : b'.OwnLaw := by
  cases h with
  | openImage slot o regions running free low room => exact law.openImage running free low room
  | deleteImage slot => exact law.deleteImage slot
  | clear slot len => exact law.clearBurst slot len
  | endCheck k crc check => exact law.endCheck crc check
  | finish slot expected loading => exact law.finish expected loading
  | takeCheck slot rest idle list => exact law.takeCheck list
  | defineTrack slot | overflow slot | references slot => exact law.setImage slot rfl rfl
  | goOnCheck k crc len read check =>
    exact law.congr rfl rfl rfl (fun _ => rfl) (fun _ => rfl) rfl (by rw [check]; rfl) rfl
  | refresh =>
    refine law.congr ?_ ?_ ?_ (fun _ => rfl) (fun _ => rfl) rfl rfl rfl
    all_goals
      simp only [Store.refreshExpiry]
      split <;> rfl
  | grant g => cases g <;> exact law.congr rfl rfl rfl (fun _ => rfl) (fun _ => rfl) rfl rfl rfl
  | _ => exact law.congr rfl rfl rfl (fun _ => rfl) (fun _ => rfl) rfl rfl rfl

/-- A base whose slots are all FREE, with one FREE region and nothing under way. -/
theorem Base.OwnLaw.ofFree {b : Base} {blocks : Nat} (low : 1 ≤ blocks) (store : b.store = Store.reset blocks)
    (free : ∀ k, (b.image k).state = .free) (opening : ∀ k, (b.image k).opening = none) (list : b.checkList = [])
    (check : b.check = none) : b.OwnLaw where
  regions := by rw [store]; exact Store.regionLaw_reset low
  open? k := iff_of_true (opening k) (free k)
  owns k := by rw [store, opening]; rfl
  clearing := by rw [store]; exact nofun
  waiting := by rw [list]; exact nofun
  once := by rw [list]; exact List.nodup_nil
  checked := by rw [check]; exact nofun
  reset _ := free

@[simp] theorem Base.image_reset (blocks : Nat) (k : SlotId) : (Base.reset blocks).image k = ImageSlot.reset := by
  simp [Base.image, Base.reset]

theorem Base.Reset.ownLaw {b b' : Base} (h : Base.Reset b b') (law : b.OwnLaw) : b'.OwnLaw := by
  have emptied (blocks : Nat) (k : SlotId) := Base.image_reset blocks k
  cases h with
  | powerOn pins =>
    exact .ofFree (strapBlocks_pos _ _) rfl (fun k => congrArg ImageSlot.state (emptied 0 k))
      (fun k => congrArg ImageSlot.opening (emptied 0 k)) rfl rfl
  | assert =>
    exact .ofFree ((Store.regionLaw_iff _).mp law.regions).1 rfl
      (fun k => congrArg ImageSlot.state (emptied 0 k)) (fun k => congrArg ImageSlot.opening (emptied 0 k)) rfl rfl
  | release size1 size0 active =>
    have free := law.reset active
    refine .ofFree (strapBlocks_pos size1 size0) rfl free (fun k => (law.open? k).mpr (free k)) ?_ ?_
    · refine List.eq_nil_iff_forall_not_mem.mpr fun k hk => ?_
      have := (law.waiting k hk).1
      rw [free k] at this
      cases this
    · refine Option.eq_none_iff_forall_ne_some.mpr fun k hk => ?_
      have := law.checked k hk
      rw [free k.slot] at this
      cases this

/-- Settles O7: every move and every reset of the base keeps both laws. -/
theorem regionsKeepTheirLaws : Obligations.RegionsKeepTheirLaws := by
  unfold Obligations.RegionsKeepTheirLaws
  exact ⟨fun s t law h => step_keeps_base (P := fun b => b.store.regionLaw = true) (fun _ _ move => move.regionLaw)
      (fun _ _ reset => reset.regionLaw) h law,
    fun s t law h => step_keeps_base (fun _ _ move => move.ownLaw) (fun _ _ reset => reset.ownLaw) h law⟩

end Sys2Proof.Machine

/-! SUPPORT. The arbiter and the bursts of the store (R33 to R38, R127): whom a grant goes to, what it starts, and
what a burst that completes writes and does for its client. -/

namespace Sys2Proof.Machine

/-! The waiting clients (R37). -/

theorem Channel.nextFetch_eq {x : Channel} {i : FetchItem} {rest : List FetchItem} {k : Disk} (b : Base)
    (fetch : x.fetch = i :: rest) (disk : x.disk = some k) : x.nextFetch b =
      some (i.slot, b.regionStart k.slot + i.offset, burstLen (b.regionStart k.slot + i.offset) i.remaining) := by
  simp only [nextFetch, fetch, disk]

theorem Channel.nextFetch_none {x : Channel} (b : Base) (h : x.fetch = [] ∨ x.disk = none) : x.nextFetch b = none := by
  unfold nextFetch
  split
  · next fetch disk => simp [fetch, disk] at h
  · rfl

theorem Channel.waits_iff {x : Channel} {i : FetchItem} {rest : List FetchItem} {k : Disk} (b : Base)
    (fetch : x.fetch = i :: rest) (disk : x.disk = some k) : x.waits b = true ↔
      x.buffer.length + min i.remaining (32 - (b.regionStart k.slot + i.offset) % 32) ≤ 256 := by
  rw [waits, nextFetch_eq b fetch disk]
  exact decide_eq_true_iff

theorem Channel.not_waits {x : Channel} (b : Base) (h : x.fetch = [] ∨ x.disk = none) : x.waits b = false := by
  simp only [waits, nextFetch_none b h]

theorem Channel.urgent_iff (b : Base) (x : Channel) : x.urgent b = true ↔ x.waits b = true ∧ x.buffer.length < 64 := by
  rw [urgent, Bool.and_eq_true]
  exact and_congr_right fun _ => decide_eq_true_iff

theorem Channel.not_urgent {b : Base} {x : Channel} (h : x.waits b = false) : x.urgent b = false := by
  simp [urgent, h]

theorem portWaits_iff (b : Base) (f : Floor) (p : PortId) :
    portWaits b f p = true ↔ (f.port p).transfer ≠ none ∨ ∃ w ∈ b.store.clearing, w.port = p := by
  simp [portWaits, Base.clearingOf, Option.isSome_iff_ne_none]

theorem backgroundWaits_checkUnit_iff (b : Base) (f : Floor) :
    backgroundWaits b f .checkUnit = true ↔ ∃ k, b.check = some k ∧ k.spans ≠ [] := by
  cases h : b.check <;> simp [backgroundWaits, h]

/-! The arbiter's decision (R38). -/

theorem mem_backgroundAfter (g h : Background) : h ∈ backgroundAfter g := by
  cases g <;> cases h <;> decide

theorem mem_channelsAfter : ∀ c d : Chan, d ∈ channelsAfter c := by decide

theorem nextBackground_eq_none_iff (b : Base) (f : Floor) :
    nextBackground b f = none ↔ ∀ g, backgroundWaits b f g = false := by
  simp [nextBackground, mem_backgroundAfter]

/-- The first of a list that meets a test: those before it do not. -/
theorem find?_split {α : Type} {test : α → Bool} {l : List α} {a : α} (h : l.find? test = some a) :
    ∃ before after, l = before ++ a :: after ∧ test a = true ∧ ∀ x ∈ before, test x = false := by
  obtain ⟨meets, before, after, split, first⟩ := List.find?_eq_some_iff_append.mp h
  exact ⟨before, after, split, meets, fun x hx => by simpa using first x hx⟩

theorem nextChannel_eq_none_iff (b : Base) (f : Floor) :
    nextChannel b f = none ↔ ∀ c, (f.chan c).waits b = false := by
  unfold nextChannel
  split
  · next c urgent =>
    refine iff_of_false nofun fun none => ?_
    have := List.find?_some urgent
    simp [Channel.not_urgent (none c)] at this
  · simp [mem_channelsAfter]

/-- The first urgent channel in rotation; with none urgent the first that waits (R38). -/
theorem nextChannel_eq_some {b : Base} {f : Floor} {c : Chan} (h : nextChannel b f = some c) :
    (f.chan c).waits b = true ∧ ∃ before after, channelsAfter b.store.lastChannel = before ++ c :: after ∧
      (((f.chan c).urgent b = true ∧ ∀ d ∈ before, (f.chan d).urgent b = false) ∨
        ((∀ d, (f.chan d).urgent b = false) ∧ ∀ d ∈ before, (f.chan d).waits b = false)) := by
  unfold nextChannel at h
  split at h
  · next urgent =>
    cases h
    obtain ⟨before, after, split, meets, first⟩ := find?_split urgent
    exact ⟨((Channel.urgent_iff b _).mp meets).1, before, after, split, .inl ⟨meets, first⟩⟩
  · next none =>
    obtain ⟨before, after, split, meets, first⟩ := find?_split h
    refine ⟨meets, before, after, split, .inr ⟨fun d => ?_, first⟩⟩
    simpa using List.find?_eq_none.mp none d (mem_channelsAfter _ d)

theorem decideGrant_owed {b : Base} (f : Floor) (owed : b.store.refreshOwed = true) :
    decideGrant b f = some .refresh := if_pos owed

theorem decideGrant_notOwed {b : Base} (f : Floor) (owed : b.store.refreshOwed = false) : decideGrant b f =
    match nextBackground b f, nextChannel b f with
    | some g, none => some (.background g)
    | some g, some c => if b.store.share ≤ b.store.grantCount then some (.background g) else some (.channel c)
    | none, some c => some (.channel c)
    | none, none => none := by
  have notOwed : ¬ b.store.refreshOwed = true := by simp [owed]
  exact if_neg notOwed

/-- With no refresh owed the decision is one of these. -/
theorem decideGrant_cases {b : Base} (f : Floor) (owed : b.store.refreshOwed = false) :
    (decideGrant b f = none ∧ nextBackground b f = none ∧ nextChannel b f = none) ∨
    (∃ g, decideGrant b f = some (.background g) ∧ nextBackground b f = some g ∧
      (nextChannel b f = none ∨ b.store.share ≤ b.store.grantCount)) ∨
    ∃ c, decideGrant b f = some (.channel c) ∧ nextChannel b f = some c ∧
      (nextBackground b f = none ∨ b.store.grantCount < b.store.share) := by
  rw [decideGrant_notOwed f owed]
  cases nextBackground b f with
  | none =>
    cases nextChannel b f with
    | none => exact .inl ⟨rfl, rfl, rfl⟩
    | some c => exact .inr (.inr ⟨c, rfl, rfl, .inl rfl⟩)
  | some g =>
    cases nextChannel b f with
    | none => exact .inr (.inl ⟨g, rfl, rfl, .inl rfl⟩)
    | some c =>
      by_cases full : b.store.share ≤ b.store.grantCount
      · exact .inr (.inl ⟨g, if_pos full, rfl, .inr full⟩)
      · exact .inr (.inr ⟨c, if_neg full, rfl, .inr (by omega)⟩)

/-- Settles O19: `decideGrant_cases`, each client by the first of its rotation that waits. -/
theorem theArbiterDecidesByCases : Obligations.TheArbiterDecidesByCases := by
  unfold Obligations.TheArbiterDecidesByCases
  refine ⟨fun b f => ⟨decideGrant_owed f, fun owed => ?_⟩,
    fun b x => ⟨fun i rest k fetch disk => x.waits_iff b fetch disk, x.not_waits b, x.urgent_iff b⟩,
    fun b f => ⟨backgroundWaits_checkUnit_iff b f, portWaits_iff b f .a, portWaits_iff b f .b⟩, rfl, rfl, rfl,
    by decide⟩
  rcases decideGrant_cases f owed with ⟨decided, background, channel⟩ | ⟨g, decided, background, others⟩ |
    ⟨c, decided, channel, others⟩
  · rw [nextBackground_eq_none_iff] at background
    rw [nextChannel_eq_none_iff] at channel
    rw [decided]
    exact ⟨nofun, nofun, nofun, fun _ => ⟨background, channel⟩⟩
  · rw [nextChannel_eq_none_iff] at others
    rw [decided]
    refine ⟨nofun, fun g' same => ?_, nofun, nofun⟩
    cases same
    obtain ⟨before, after, split, meets, first⟩ := find?_split background
    exact ⟨others, before, after, split, meets, first⟩
  · rw [nextBackground_eq_none_iff] at others
    rw [decided]
    refine ⟨nofun, nofun, fun c' same => ?_, nofun⟩
    cases same
    exact ⟨others, nextChannel_eq_some channel⟩

/-! What a grant starts (R37, R38). -/

theorem exec_arbiterGrant {s : State} (running : s.base.resetActive = false) :
    exec .arbiterGrant s = .next (s.drainHolds s.grant) := by
  simp [exec, execArbiterGrant, State.taken, running]

/-- A grant that ends no transfer takes no held frame. -/
theorem exec_arbiterGrant_same {s t : State} (running : s.base.resetActive = false) (granted : s.grant = t)
    (same : ∀ p, (t.floor.port p).transfer = (s.floor.port p).transfer) : exec .arbiterGrant s = .next t := by
  rw [exec_arbiterGrant running, granted, State.drainHolds_same]
  intro p
  simp [State.transferring, same]

theorem State.grant_busy {s : State} (h : s.floor.burst.isSome = true) : s.grant = s := if_pos h

theorem State.grant_none {s : State} (idle : s.floor.burst = none) (decided : decideGrant s.base s.floor = none) :
    s.grant = s := by
  simp [grant, idle, decided]

theorem State.grant_some {s : State} {g : Grant} (idle : s.floor.burst = none)
    (decided : decideGrant s.base s.floor = some g) : s.grant =
      { s with
        base := { s.base with store := s.base.store.afterGrant g }
        floor := startBurst s.base s.floor g } := by
  simp [grant, idle, decided]

/-- The grant of a client whose next burst is known begins that burst. -/
theorem exec_arbiterGrant_begin {s : State} {g : Grant} {work : BurstWork} {addr len : Nat}
    (running : s.base.resetActive = false) (idle : s.floor.burst = none)
    (decided : decideGrant s.base s.floor = some g) (starts : startBurst s.base s.floor g = s.floor.begin work addr len) :
    exec .arbiterGrant s = .next { s with
      base := { s.base with store := s.base.store.afterGrant g }
      floor := { s.floor with burst := some { work := work, addr := addr, len := len, live := true } } } := by
  refine exec_arbiterGrant_same running ?_ fun p => ?_
  · rw [State.grant_some idle decided, starts]
    rfl
  · cases p <;> rfl

/-- The background client a port is. -/
def portClient : PortId → Background
  | .a => .portA
  | .b => .portB

theorem startBurst_port (b : Base) (f : Floor) (p : PortId) :
    startBurst b f (.background (portClient p)) = grantPort b f p := by
  cases p <;> rfl

theorem grantPort_write {b : Base} {f : Floor} {p : PortId} {t : Transfer} {left : List Byte} {written : Nat}
    (transfer : (f.port p).transfer = some t) (admitted : b.admits p t = true) (kind : t.kind = .write left written) :
    grantPort b f p = f.begin (.write p (left.take (burstLen (b.regionStart t.slot + t.offset) left.length)))
      (b.regionStart t.slot + t.offset) (burstLen (b.regionStart t.slot + t.offset) left.length) := by
  simp only [grantPort, transfer, if_pos admitted, kind, Transfer.remaining]

theorem grantPort_read {b : Base} {f : Floor} {p : PortId} {t : Transfer} {left : Nat} {got : List Byte}
    (transfer : (f.port p).transfer = some t) (admitted : b.admits p t = true) (kind : t.kind = .read left got) :
    grantPort b f p = f.begin (.read p) (b.regionStart t.slot + t.offset)
      (burstLen (b.regionStart t.slot + t.offset) left) := by
  simp only [grantPort, transfer, if_pos admitted, kind, Transfer.remaining]

theorem grantPort_stopped {b : Base} {f : Floor} {p : PortId} {t : Transfer} (transfer : (f.port p).transfer = some t)
    (stopped : b.admits p t = false) : grantPort b f p = f.setPort p ((f.port p).endTransfer t) := by
  simp only [grantPort, transfer, stopped, Bool.false_eq_true, if_false]

theorem Base.clearingOf_eq {b : Base} {p : PortId} {front back : List Clearing} {w : Clearing}
    (split : b.store.clearing = front ++ w :: back) (mine : w.port = p) (others : ∀ v ∈ front, v.port ≠ p) :
    b.clearingOf p = some w := by
  rw [clearingOf, split, List.find?_eq_some_iff_append]
  exact ⟨by simp [mine], front, back, rfl, by simpa using others⟩

theorem grantPort_clear {b : Base} {f : Floor} {p : PortId} {w : Clearing} (transfer : (f.port p).transfer = none)
    (work : b.clearingOf p = some w) : grantPort b f p = f.begin (.clear w.slot) (b.regionStart w.slot + w.bytes)
      (burstLen (b.regionStart w.slot + w.bytes) (b.regionBytes w.slot - w.bytes)) := by
  simp only [grantPort, transfer, work]

theorem grantPort_idle {b : Base} {f : Floor} {p : PortId} (transfer : (f.port p).transfer = none)
    (work : b.clearingOf p = none) : grantPort b f p = f := by
  simp only [grantPort, transfer, work]

theorem grantCheck_eq {b : Base} (f : Floor) {k : ImageCheck} {offset left : Nat} {rest : List (Nat × Nat)}
    (check : b.check = some k) (spans : k.spans = (offset, left) :: rest) : grantCheck b f =
      f.begin .check (b.regionStart k.slot + offset) (burstLen (b.regionStart k.slot + offset) left) := by
  simp only [grantCheck, check, spans]

theorem grantChannel_eq {b : Base} {f : Floor} {c : Chan} {i : FetchItem} {rest : List FetchItem} {k : Disk}
    (fetch : (f.chan c).fetch = i :: rest) (disk : (f.chan c).disk = some k) : grantChannel b f c =
      f.begin (.fetch c i.slot) (b.regionStart k.slot + i.offset)
        (burstLen (b.regionStart k.slot + i.offset) i.remaining) := by
  simp only [grantChannel, Channel.nextFetch_eq b fetch disk]

theorem Base.regionStart_eq {b : Base} {slot : SlotId} {o : Opening} (h : (b.image slot).opening = some o) :
    b.regionStart slot = o.base * 4096 := by
  simp [regionStart, h, blockBytes]

theorem Base.regionBytes_eq {b : Base} {slot : SlotId} {o : Opening} (h : (b.image slot).opening = some o) :
    b.regionBytes slot = o.length * 4096 := by
  simp [regionBytes, h, blockBytes]

/-! The check at a grant (R33, R35). -/

theorem Base.admits_write {b : Base} {p : PortId} {t : Transfer} {left : List Byte} {written : Nat}
    (kind : t.kind = .write left written) : b.admits p t = true ↔
      (b.image t.slot).openNumber = t.openNumber ∧ (b.image t.slot).state = .loading ∧
        (b.image t.slot).opening.map (·.loader) = some p := by
  simp [admits, kind]

theorem Base.admits_read {b : Base} {p : PortId} {t : Transfer} {left : Nat} {got : List Byte}
    (kind : t.kind = .read left got) : b.admits p t = true ↔
      (b.image t.slot).openNumber = t.openNumber ∧ (b.image t.slot).state ≠ .free ∧
        (b.image t.slot).state ≠ .clearing := by
  simp [admits, kind]

/-- Settles O20: each client's burst by the lemma of its grant, and the check at the grant by cases. -/
theorem aGrantStartsABurst : Obligations.AGrantStartsABurst := by
  unfold Obligations.AGrantStartsABurst
  refine ⟨fun s running => ⟨fun busy => ?_, fun idle => ⟨fun none => ?_, fun owed => ?_,
    fun c i rest k decided fetch disk => ?_, fun p t decided transfer admitted => ⟨fun left written kind => ?_,
      fun left got kind => ?_⟩, fun p front w back decided transfer split mine others => ?_,
    fun k offset left rest decided check spans => ?_⟩⟩,
    fun b slot o opening => ⟨Base.regionStart_eq opening, Base.regionBytes_eq opening⟩,
    fun b p t => ⟨fun left written => Base.admits_write, fun left got => Base.admits_read⟩⟩
  · exact exec_arbiterGrant_same running (State.grant_busy busy) fun _ => rfl
  · exact exec_arbiterGrant_same running (State.grant_none idle none) fun _ => rfl
  · exact exec_arbiterGrant_begin running idle owed rfl
  · exact exec_arbiterGrant_begin running idle decided (grantChannel_eq fetch disk)
  · have starts := startBurst_port s.base s.floor p
    rw [grantPort_write transfer admitted kind] at starts
    cases p <;> exact exec_arbiterGrant_begin running idle decided starts
  · have starts := startBurst_port s.base s.floor p
    rw [grantPort_read transfer admitted kind] at starts
    cases p <;> exact exec_arbiterGrant_begin running idle decided starts
  · have starts := startBurst_port s.base s.floor p
    rw [grantPort_clear transfer (Base.clearingOf_eq split mine others)] at starts
    cases p <;> exact exec_arbiterGrant_begin running idle decided starts
  · exact exec_arbiterGrant_begin running idle decided (grantCheck_eq s.floor check spans)

/-! The frames held through a transfer (R178). -/

theorem State.drain_stands {s : State} {p : PortId} (h : (s.floor.port p).transfer.isSome = true ∨
    (s.floor.port p).hold = []) (n : Nat) : State.drain p n s = s := by
  cases n with
  | zero => rfl
  | succ n =>
    rw [drain, transferring]
    rcases h with busy | empty
    · rw [if_pos busy]
    · rw [empty]
      split <;> rfl

theorem State.drain_cons {s : State} {p : PortId} {h : HeldFrame} {rest : List HeldFrame} (n : Nat)
    (idle : (s.floor.port p).transfer = none) (hold : (s.floor.port p).hold = h :: rest) :
    State.drain p (n + 1) s =
      State.drain p n ({ s with floor := s.floor.setPort p { s.floor.port p with hold := rest } }.take p h) := by
  rw [drain, transferring, idle, hold]
  rfl

end Sys2Proof.Machine

/-! SUPPORT. What the production floor leaves to the ports and to the burst in progress: no operation of a disk's life
touches a port's transfer or hold list, and a burst at most loses its client (R115, R127). -/

namespace Sys2Proof.Machine

/-- A floor comes of another with each port's transfer and hold list as they stood, and the burst in progress as it
stood or with no client left. -/
structure Floor.Beside (f g : Floor) : Prop where
  transfer : ∀ p, (g.port p).transfer = (f.port p).transfer
  hold : ∀ p, (g.port p).hold = (f.port p).hold
  burst : g.burst = f.burst ∨ ∃ w, f.burst = some w ∧ g.burst = some { w with live := false }

namespace Floor.Beside

variable {f g h : Floor} {b : Base} {c : Chan}

theorem refl (f : Floor) : f.Beside f := ⟨fun _ => rfl, fun _ => rfl, .inl rfl⟩

theorem trans (fg : f.Beside g) (gh : g.Beside h) : f.Beside h where
  transfer p := (gh.transfer p).trans (fg.transfer p)
  hold p := (gh.hold p).trans (fg.hold p)
  burst := by
    rcases gh.burst with same | ⟨w, live, dead⟩
    · rw [same]
      exact fg.burst
    · rcases fg.burst with same' | ⟨v, live', dead'⟩
      · exact .inr ⟨w, same' ▸ live, dead⟩
      · rw [live] at dead'
        cases dead'
        exact .inr ⟨v, live', dead⟩

/-- Ports and burst stand. -/
theorem still (fg : f.Beside g) (portA : h.portA = g.portA) (portB : h.portB = g.portB) (burst : h.burst = g.burst) :
    f.Beside h := by
  refine fg.trans ⟨fun p => ?_, fun p => ?_, .inl burst⟩ <;> cases p
  exacts [congrArg _ portA, congrArg _ portB, congrArg _ portA, congrArg _ portB]

/-! The operations on ports, events and bursts. -/

theorem setPort (fg : f.Beside g) (p : PortId) {x : PortContext} (transfer : x.transfer = (g.port p).transfer)
    (hold : x.hold = (g.port p).hold) : f.Beside (g.setPort p x) := by
  refine fg.trans ⟨fun q => ?_, fun q => ?_, .inl (g.setPort_burst p x)⟩
  all_goals cases p <;> cases q
  exacts [transfer, rfl, rfl, transfer, hold, rfl, rfl, hold]

theorem answer (fg : f.Beside g) (p : PortId) (r : Reply) : f.Beside (g.answer p r) := fg.setPort p rfl rfl

theorem post {e : EventKind} (fg : f.Beside g) : f.Beside (g.post e) :=
  fg.trans ⟨g.post_port_transfer e, g.post_port_hold e, .inl rfl⟩

theorem orphanBurst {mine : BurstWork → Bool} (fg : f.Beside g) : f.Beside (g.orphanBurst mine) := by
  rw [Floor.orphanBurst_eq]
  refine fg.trans ⟨fun p => by cases p <;> rfl, fun p => by cases p <;> rfl, ?_⟩
  cases hw : g.burst with
  | none => exact .inl rfl
  | some w =>
    by_cases own : mine w.work
    · exact .inr ⟨w, rfl, by simp [own]⟩
    · exact .inl (by simp [own])

/-! The ring (R150 to R159). -/

theorem keepRecords {records : List ResultRecord} (fg : f.Beside g) : f.Beside (g.keepRecords records) := by
  have moveUp (x : PortContext) (old new : Word32) :
      (x.moveUp old new).transfer = x.transfer ∧ (x.moveUp old new).hold = x.hold := by
    unfold PortContext.moveUp
    split <;> exact ⟨rfl, rfl⟩
  refine fg.trans ⟨fun p => ?_, fun p => ?_, .inl rfl⟩ <;> cases p
  exacts [(moveUp _ _ _).1, (moveUp _ _ _).1, (moveUp _ _ _).2, (moveUp _ _ _).2]

theorem displace (fg : f.Beside g) : f.Beside g.displace :=
  fg.keepRecords.post.still rfl rfl rfl

theorem freeRecords (fg : f.Beside g) : f.Beside g.freeRecords := by
  unfold Floor.freeRecords
  split
  · exact fg.keepRecords
  · exact fg

theorem enterFault (fg : f.Beside g) : f.Beside (g.enterFault c) := (fg.still (h := g.modChan c _) rfl rfl rfl).post

theorem completePosting {outcome : DiskOutcome} (fg : f.Beside g) : f.Beside (g.completePosting c outcome) := by
  unfold Floor.completePosting
  simp only
  split
  · exact fg.still rfl rfl rfl
  · split
    · exact enterFault (fg.still rfl rfl rfl)
    · split <;> exact fg.still rfl rfl rfl

theorem accountJob {r : RecordBody} (fg : f.Beside g) : f.Beside (g.accountJob r) := by
  unfold Floor.accountJob
  split
  · exact fg
  · simp only
    split
    · exact (fg.still (h := g.putJob _) rfl rfl rfl).post
    · exact fg.still rfl rfl rfl

theorem takeRecord {body : RecordBody} (fg : f.Beside g) : f.Beside (g.takeRecord c body) := by
  have appended : f.Beside { g with ring := g.ring.append c body (g.chan c).elapsedNow } := fg.still rfl rfl rfl
  exact appended.accountJob.completePosting.post.still rfl rfl rfl

theorem offer (fg : f.Beside g) : f.Beside (g.offer c) := by
  unfold Floor.offer
  split
  · exact fg
  · split
    · exact fg.takeRecord
    · split
      · exact fg.still rfl rfl rfl
      · exact fg.displace.takeRecord

theorem serveList (fg : f.Beside g) (l : List Chan) : f.Beside (Floor.serveList l g) := by
  induction l generalizing g with
  | nil => exact fg
  | cons c rest ih =>
    unfold Floor.serveList
    split
    · exact fg
    · split
      · exact ih (fg.takeRecord)
      · split
        · exact fg
        · exact ih (fg.displace.takeRecord)

theorem serveRing (fg : f.Beside g) : f.Beside g.serveRing := fg.freeRecords.serveList _

/-! Posting and aborts (R115, R117). -/

theorem enterPosting {outcome : DiskOutcome} (fg : f.Beside g) : f.Beside (g.enterPosting c outcome) :=
  ((fg.still (h := g.modChan c _) rfl rfl rfl).orphanBurst).still rfl rfl rfl

theorem abortDisk {cause : Cause} (fg : f.Beside g) : f.Beside (g.abortDisk c cause) := by
  unfold Floor.abortDisk
  split
  · exact enterPosting (fg.still rfl rfl rfl)
  · exact fg

/-! What a step makes due (R76 to R80, R109, R170). -/

theorem updateLine (fg : f.Beside g) : f.Beside g.updateLine := by
  unfold Floor.updateLine
  simp only
  split
  · exact fg.still rfl rfl rfl
  · split
    · exact post (fg.still rfl rfl rfl)
    · exact still (g := Floor.post { g with line := _ } .lineChanged) (post (fg.still rfl rfl rfl)) rfl rfl rfl

theorem assign {j : Job} (fg : f.Beside g) : f.Beside (g.assign b c j) := by
  unfold Floor.assign Floor.startDisk
  simp only
  split
  · exact enterPosting (fg.still rfl rfl rfl)
  · exact fg.still rfl rfl rfl

theorem consider (fg : f.Beside g) : f.Beside (g.consider b c) := by
  unfold Floor.consider
  split
  · split
    · exact fg.assign
    · exact fg
  · exact fg

theorem evaluate (fg : f.Beside g) : f.Beside (g.evaluate b) := by
  unfold Floor.evaluate
  have begun : f.Beside { g with evalDue := false } := fg.still rfl rfl rfl
  generalize { g with evalDue := false } = g' at begun
  induction g.waiting generalizing g' with
  | nil => exact begun
  | cons c rest ih => exact ih _ begun.consider

theorem settle (fg : f.Beside g) : f.Beside (g.settle b) := by
  refine Floor.settle_induction (P := f.Beside) (fun _ h => h.updateLine) (fun h fh => ?_) g fg
  unfold Floor.settleOne
  split
  · exact fh.evaluate
  · split
    · exact fh
    · exact offer (fh.still rfl rfl rfl)

/-! The work on a track (chapters 6 and 7). -/

theorem beginPlan (fg : f.Beside g) : f.Beside (g.beginPlan b c) := by
  unfold Floor.beginPlan
  simp only
  split
  · split
    · split <;> exact fg.still rfl rfl rfl
    · exact abortDisk (fg.still rfl rfl rfl)
  · exact abortDisk (fg.still rfl rfl rfl)

theorem boundary {i : Nat} (fg : f.Beside g) : f.Beside (g.boundary b c i) := by
  unfold Floor.boundary
  split
  · exact fg
  · simp only
    split
    · split
      · exact fg.still rfl rfl rfl
      · exact beginPlan (fg.still rfl rfl rfl)
    · exact enterPosting (fg.still rfl rfl rfl)

theorem boundaryHere (fg : f.Beside g) : f.Beside (g.boundaryHere b c) := by
  unfold Floor.boundaryHere
  split
  · exact fg
  · exact fg.boundary

theorem boundaryNext (fg : f.Beside g) : f.Beside (g.boundaryNext b c) := by
  unfold Floor.boundaryNext
  split
  · exact fg
  · exact fg.boundary

theorem recalSample (fg : f.Beside g) : f.Beside (g.recalSample b c) := by
  unfold Floor.recalSample
  split
  · exact boundaryHere (fg.still rfl rfl rfl)
  · split
    · exact fg.abortDisk
    · exact fg.still rfl rfl rfl

theorem reachSpeed (fg : f.Beside g) : f.Beside (g.reachSpeed b c) := by
  unfold Floor.reachSpeed
  split
  · exact boundaryHere (fg.still rfl rfl rfl)
  · exact recalSample (fg.still rfl rfl rfl)

theorem discardBuffer (fg : f.Beside g) : f.Beside (g.discardBuffer c) :=
  orphanBurst (fg.still rfl rfl rfl)

theorem endAttempt {r : TrackResult} (fg : f.Beside g) : f.Beside (g.endAttempt b c r) := by
  have accept (soft : Option (Cause × Option Byte)) {g : Floor} (fg : f.Beside g) :
      f.Beside (g.acceptTrack b c soft) := boundaryNext (fg.still rfl rfl rfl)
  have retry {g : Floor} (fg : f.Beside g) : f.Beside (g.retryTrack b c) := beginPlan (fg.still rfl rfl rfl)
  have fail (cause : Cause) (sector : Option Byte) {g : Floor} (fg : f.Beside g) :
      f.Beside (g.failTrack c cause sector) := enterPosting (fg.still rfl rfl rfl)
  unfold Floor.endAttempt
  split
  · exact fg
  · simp only
    split
    · exact accept _ (fg.discardBuffer.still rfl rfl rfl)
    · split
      · exact retry (fg.discardBuffer.still rfl rfl rfl)
      · exact accept _ (fg.discardBuffer.still rfl rfl rfl)
    · split
      · exact retry (fg.discardBuffer.still rfl rfl rfl)
      · exact fail _ _ (fg.discardBuffer.still rfl rfl rfl)

theorem writeByte (fg : f.Beside g) (st : WriteStream) : f.Beside (g.writeByte b c st) := by
  unfold Floor.writeByte
  simp only
  split
  · exact fg.still rfl rfl rfl
  · split
    · exact fg.endAttempt
    · exact fg

theorem readByte (fg : f.Beside g) (flux : List (BitVec 9)) : f.Beside (g.readByte b c flux) := by
  unfold Floor.readByte
  simp only
  split
  · split
    · exact fg
    · split
      · exact fg
      · split
        · exact fg.still rfl rfl rfl
        · exact fg.endAttempt
  · exact fg

theorem giveSlotResult (fg : f.Beside g) (p : TrackPlan) (r : ReadSide) (j : Nat) (rest : List Nat)
    (result : SlotResult) : f.Beside (g.giveSlotResult c p r j rest result) := by
  unfold Floor.giveSlotResult
  exact orphanBurst (fg.still rfl rfl rfl)

theorem producingEdge (fg : f.Beside g) : f.Beside (g.producingEdge b c) := by
  unfold Floor.producingEdge
  simp only
  split
  · split
    · exact fg.still rfl rfl rfl
    · unfold Floor.endWrite
      split
      · exact fg.endAttempt
      · split
        · exact endAttempt (fg.still rfl rfl rfl)
        · split
          · exact fg.still rfl rfl rfl
          · exact fg.endAttempt
  · split
    · unfold Floor.endVerifyPass
      simp only
      split
      · exact fg.discardBuffer.still rfl rfl rfl
      · exact fg.endAttempt
    · exact fg
  · exact fg

theorem indexEdge (fg : f.Beside g) : f.Beside (g.indexEdge b c) := by
  have captured (change : Channel → Channel) : f.Beside (g.modChan c change) := fg.still rfl rfl rfl
  unfold Floor.indexEdge
  simp only
  split
  · split
    · exact (captured _).reachSpeed
    · exact captured _
  · exact (captured _).producingEdge
  · exact captured _

theorem finishPlan (fg : f.Beside g) : f.Beside (g.finishPlan b) := by
  unfold Floor.finishPlan
  split
  · exact fg
  · simp only
    split
    · exact fg.still rfl rfl rfl
    · unfold Floor.handPlan
      simp only
      split
      · split <;> exact fg.still rfl rfl rfl
      · exact fg.still rfl rfl rfl

theorem stepExpiry (fg : f.Beside g) : f.Beside (g.stepExpiry b c) := by
  unfold Floor.stepExpiry
  simp only
  split
  · exact recalSample (fg.still rfl rfl rfl)
  · exact fg.still rfl rfl rfl
  · exact fg.still rfl rfl rfl

/-! The handler and the drive requests (R107, R117, R121, R165). -/

theorem enterBySeat (fg : f.Beside g) : f.Beside (g.enterBySeat c) := by
  unfold Floor.enterBySeat
  split <;> exact fg.still rfl rfl rfl

theorem resetDrive (fg : f.Beside g) : f.Beside (g.resetDrive c) := by
  have aborted : f.Beside { g.abortDisk c .driveReset with offers := g.offers } := fg.abortDisk.still rfl rfl rfl
  unfold Floor.resetDrive
  split
  case h_5 => exact enterBySeat (fg.still rfl rfl rfl)
  case h_1 | h_2 | h_3 | h_4 => exact (aborted.offer (c := c)).still rfl rfl rfl
  all_goals exact fg.still rfl rfl rfl

theorem debounceExpiry (fg : f.Beside g) : f.Beside (g.debounceExpiry c) := by
  have seated (change : DriveLines → DriveLines) : f.Beside (g.modDrive c change) := fg.still rfl rfl rfl
  unfold Floor.debounceExpiry
  simp only
  split
  · exact seated _
  · unfold Floor.seatChange
    split
    case h_3 | h_4 | h_5 | h_6 => exact (seated _).abortDisk
    case h_8 =>
      simp only
      split
      · exact enterFault (fg.still rfl rfl rfl)
      · exact fg.still rfl rfl rfl
    all_goals exact fg.still rfl rfl rfl

/-! The notices of a cancelled job (R72). -/

theorem cancelNotices (fg : f.Beside g) (id : Nat) : f.Beside (g.cancelNotices id) := by
  rw [Floor.cancelNotices_eq]
  refine .still (g := g.abortAll (g.noticeOrder id) .cancelled) ?_ rfl rfl rfl
  induction g.noticeOrder id generalizing g with
  | nil => exact fg
  | cons c l ih => exact ih (fg.abortDisk)

end Floor.Beside

end Sys2Proof.Machine

/-! SUPPORT. What a request leaves to the ports: but for READ DATA, WRITE DATA and PORT RESET every transfer, hold list
and burst stands, and those three act on their own port only. -/

namespace Sys2Proof.Machine

open Floor (Beside)

section

variable {f : Floor} {s : State} {p : PortId}

theorem Floor.Beside.reply {payload : List Byte} (h : f.Beside s.floor) : f.Beside (s.reply p payload).floor :=
  h.answer p _

theorem Floor.Beside.refuse {status : Status} (h : f.Beside s.floor) : f.Beside (s.refuse p status).floor :=
  h.answer p _

theorem Floor.Beside.settled (h : f.Beside s.floor) : f.Beside s.settle.floor := settle h

theorem Floor.Beside.finishCheck {slot : SlotId} {crc : Word32} (h : f.Beside s.floor) :
    f.Beside (s.finishCheck slot crc).floor := post h

theorem Floor.Beside.runChecks (n : Nat) (h : f.Beside s.floor) : f.Beside (s.runChecks n).floor := by
  induction n generalizing s with
  | zero => exact h
  | succ n ih =>
    rw [State.runChecks]
    split
    · simp only
      split
      · exact ih (finishCheck h)
      · exact h
    · exact h

theorem Floor.Beside.nextCheck (h : f.Beside s.floor) : f.Beside s.nextCheck.floor := runChecks _ h

end

/-! The requests, chapter by chapter. -/

section

variable (p : PortId) (payload : List Byte) (s : State)

theorem doSetEventMask_beside : s.floor.Beside (doSetEventMask p payload s).floor := by
  unfold doSetEventMask
  split
  · exact .refuse (.refl _)
  · exact .reply ((Beside.refl _).setPort p rfl rfl)

theorem doSetLineHold_beside : s.floor.Beside (doSetLineHold p payload s).floor := by
  unfold doSetLineHold
  split
  · exact .refuse (.refl _)
  · exact .reply (.settled ((Beside.refl _).setPort p rfl rfl))

theorem doDefineFormat_beside : s.floor.Beside (doDefineFormat p payload s).floor := by
  unfold doDefineFormat
  split
  · exact .refuse (.refl _)
  · split
    · exact .refuse (.refl _)
    · exact .reply (.refl _)

theorem doReadFormat_beside : s.floor.Beside (doReadFormat p payload s).floor := by
  unfold doReadFormat
  split
  · exact .refuse (.refl _)
  · split
    · exact .refuse (.refl _)
    · exact .reply (.refl _)

theorem doRemoveFormat_beside : s.floor.Beside (doRemoveFormat p payload s).floor := by
  unfold doRemoveFormat
  split
  · exact .refuse (.refl _)
  · split
    · exact .refuse (.refl _)
    · split
      · exact .refuse (.refl _)
      · exact .reply (.refl _)

theorem doPlanQuery_beside : s.floor.Beside (doPlanQuery p payload s).floor := by
  unfold doPlanQuery
  split
  · exact .refuse (.refl _)
  · split
    · exact .refuse (.refl _)
    · split
      · exact .refuse (.refl _)
      · split
        · exact .reply (.refl _)
        · exact .refuse (.refl _)

theorem doOpenImage_beside : s.floor.Beside (doOpenImage p payload s).floor := by
  unfold doOpenImage
  simp only
  split
  · exact .refuse (.refl _)
  · split
    · exact .refuse (.refl _)
    · split
      · exact .refuse (.refl _)
      · split
        · exact .refuse (.refl _)
        · exact .reply (.refl _)

theorem doDefineTrack_beside : s.floor.Beside (doDefineTrack p payload s).floor := by
  unfold doDefineTrack
  simp only
  split
  · split
    · exact .refuse (.refl _)
    · split
      · exact .refuse (.refl _)
      · split
        · exact .refuse (.refl _)
        · split
          · exact .refuse (.refl _)
          · split
            · exact .refuse (.refl _)
            · exact .reply (.refl _)
  · exact .refuse (.refl _)

theorem doSetCursor_beside : s.floor.Beside (doSetCursor p payload s).floor := by
  unfold doSetCursor
  simp only
  split
  · exact .refuse (.refl _)
  · split
    · exact .refuse (.refl _)
    · split
      · exact .refuse (.refl _)
      · split
        · exact .refuse (.refl _)
        · exact .reply ((Beside.refl _).setPort p rfl rfl)

theorem doFinishImage_beside : s.floor.Beside (doFinishImage p payload s).floor := by
  unfold doFinishImage
  split
  · exact .refuse (.refl _)
  · simp only
    split
    · exact .refuse (.refl _)
    · exact .nextCheck (.reply (.refl _))

theorem doDeleteImage_beside : s.floor.Beside (doDeleteImage p payload s).floor := by
  unfold doDeleteImage
  split
  · exact .refuse (.refl _)
  · simp only
    split
    · exact .refuse (.refl _)
    · split
      · exact .refuse (.refl _)
      · next slot _ _ _ =>
        have abandoned : s.floor.Beside (s.abandon slot).floor := by
          simp only [State.abandon]
          exact (Beside.refl _).orphanBurst
        exact .nextCheck (.reply abandoned)

theorem doReadImage_beside : s.floor.Beside (doReadImage p payload s).floor := by
  unfold doReadImage
  split
  · exact .refuse (.refl _)
  · split
    · exact .refuse (.refl _)
    · exact .reply (.refl _)
    · exact .refuse (.refl _)

theorem doReadTrackEntry_beside : s.floor.Beside (doReadTrackEntry p payload s).floor := by
  unfold doReadTrackEntry
  simp only
  split
  · exact .refuse (.refl _)
  · split
    · exact .refuse (.refl _)
    · split
      · exact .refuse (.refl _)
      · split
        · exact .refuse (.refl _)
        · exact .reply (.refl _)

theorem doDefineJob_beside : s.floor.Beside (doDefineJob p payload s).floor := by
  unfold doDefineJob
  split
  · exact .refuse (.refl _)
  · split
    · exact .refuse (.refl _)
    · exact .reply ((Beside.refl _).still rfl rfl rfl)

theorem doStartJob_beside : s.floor.Beside (doStartJob p payload s).floor := by
  unfold doStartJob
  split
  · exact .refuse (.refl _)
  · split
    · exact .refuse (.refl _)
    · split
      · exact .refuse (.refl _)
      · exact .settled (.reply ((Beside.refl _).still rfl rfl rfl))

theorem Floor.Beside.endJob {f g : Floor} {j : Job} {state : JobState} {cause : EndCause} (fg : f.Beside g) :
    f.Beside (g.endJob j state cause) := post (fg.still rfl rfl rfl)

theorem doStopJob_beside : s.floor.Beside (doStopJob p payload s).floor := by
  unfold doStopJob
  split
  · exact .refuse (.refl _)
  · split
    · exact .refuse (.refl _)
    · split
      · exact .reply (Beside.refl _).endJob
      · exact .reply ((Beside.refl _).still rfl rfl rfl)

theorem doCancelJob_beside : s.floor.Beside (doCancelJob p payload s).floor := by
  unfold doCancelJob
  split
  · exact .refuse (.refl _)
  · split
    · exact .refuse (.refl _)
    · exact .settled (.reply ((Beside.refl _).endJob.cancelNotices _))

theorem doRemoveJob_beside : s.floor.Beside (doRemoveJob p payload s).floor := by
  unfold doRemoveJob
  split
  · exact .refuse (.refl _)
  · split
    · exact .refuse (.refl _)
    · split
      · exact .refuse (.refl _)
      · exact .reply ((Beside.refl _).still rfl rfl rfl)

theorem doReadJob_beside : s.floor.Beside (doReadJob p payload s).floor := by
  unfold doReadJob
  simp only
  split
  · exact .reply (.refl _)
  · split
    · exact .refuse (.refl _)
    · exact .reply (.refl _)

theorem doSetDrive_beside : s.floor.Beside (doSetDrive p payload s).floor := by
  unfold doSetDrive
  split
  · exact .refuse (.refl _)
  · next c _ =>
    have set (settings : Settings) : s.floor.Beside
        (s.floor.setChan c { s.floor.chan c with settings := settings }) := (Beside.refl _).still rfl rfl rfl
    simp only
    split
    · exact .refuse (.refl _)
    · split
      · exact .refuse (.refl _)
      · split
        · exact .settled ((set _).answer p _ |>.still rfl rfl rfl)
        · exact .reply (set _)

theorem doEnableDrive_beside : s.floor.Beside (doEnableDrive p payload s).floor := by
  unfold doEnableDrive
  split
  · exact .refuse (.refl _)
  · split
    · exact .refuse (.refl _)
    · simp only
      split
      · exact .settled (.reply (Beside.refl _).enterBySeat)
      · exact .reply (Beside.refl _).enterBySeat

theorem doDisableDrive_beside : s.floor.Beside (doDisableDrive p payload s).floor := by
  unfold doDisableDrive
  split
  · exact .refuse (.refl _)
  · split
    · exact .refuse (.refl _)
    · exact .reply ((Beside.refl _).still rfl rfl rfl)

theorem doFreezeDrive_beside : s.floor.Beside (doFreezeDrive p payload s).floor := by
  unfold doFreezeDrive
  split
  · exact .refuse (.refl _)
  · exact .reply ((Beside.refl _).still rfl rfl rfl)

theorem doResumeDrive_beside : s.floor.Beside (doResumeDrive p payload s).floor := by
  unfold doResumeDrive
  split
  · exact .refuse (.refl _)
  · next c _ =>
    have resumed : s.floor.Beside (s.floor.setChan c (s.floor.chan c).resume) := (Beside.refl _).still rfl rfl rfl
    simp only
    split
    · exact .settled (resumed.answer p _ |>.still rfl rfl rfl)
    · exact .reply resumed

theorem doResetDrive_beside : s.floor.Beside (doResetDrive p payload s).floor := by
  unfold doResetDrive
  split
  · exact .refuse (.refl _)
  · split
    · exact .refuse (.refl _)
    · exact .settled (.reply (Beside.refl _).resetDrive)

theorem doReadDrive_beside : s.floor.Beside (doReadDrive p payload s).floor := by
  unfold doReadDrive
  split
  · exact .refuse (.refl _)
  · exact .reply (.refl _)

theorem doReadResult_beside : s.floor.Beside (doReadResult p payload s).floor := by
  unfold doReadResult
  simp only
  split
  · exact .reply (.refl _)
  · split
    · exact (.settled (Beside.serveRing (.reply ((Beside.refl _).setPort p rfl rfl))))
    · exact .reply ((Beside.refl _).setPort p rfl rfl)

theorem doSetResultFollow_beside : s.floor.Beside (doSetResultFollow p payload s).floor := by
  unfold doSetResultFollow
  split
  · exact .refuse (.refl _)
  · exact (.settled (Beside.serveRing (.reply ((Beside.refl _).setPort p rfl rfl))))

/-- The requests that leave every transfer as it stands. -/
theorem perform_beside {r : Request} (reset : r ≠ .portReset) (read : r ≠ .readData) (write : r ≠ .writeData) :
    s.floor.Beside (perform r p payload s).floor := by
  cases r with
  | readDevice => exact .reply (.refl _)
  | portReset => exact absurd rfl reset
  | readEvents => exact .reply ((Beside.refl _).setPort p rfl rfl)
  | setEventMask => exact doSetEventMask_beside p payload s
  | setLineHold => exact doSetLineHold_beside p payload s
  | readLine => exact .reply (.refl _)
  | defineFormat => exact doDefineFormat_beside p payload s
  | readFormat => exact doReadFormat_beside p payload s
  | removeFormat => exact doRemoveFormat_beside p payload s
  | planQuery => exact doPlanQuery_beside p payload s
  | openImage => exact doOpenImage_beside p payload s
  | defineTrack => exact doDefineTrack_beside p payload s
  | setCursor => exact doSetCursor_beside p payload s
  | writeData => exact absurd rfl write
  | readData => exact absurd rfl read
  | finishImage => exact doFinishImage_beside p payload s
  | deleteImage => exact doDeleteImage_beside p payload s
  | readImage => exact doReadImage_beside p payload s
  | readTrackEntry => exact doReadTrackEntry_beside p payload s
  | readStoreMap => exact .reply (.refl _)
  | setStore => exact .reply (.refl _)
  | defineJob => exact doDefineJob_beside p payload s
  | startJob => exact doStartJob_beside p payload s
  | stopJob => exact doStopJob_beside p payload s
  | cancelJob => exact doCancelJob_beside p payload s
  | removeJob => exact doRemoveJob_beside p payload s
  | readJob => exact doReadJob_beside p payload s
  | setDrive => exact doSetDrive_beside p payload s
  | enableDrive => exact doEnableDrive_beside p payload s
  | disableDrive => exact doDisableDrive_beside p payload s
  | freezeDrive => exact doFreezeDrive_beside p payload s
  | resumeDrive => exact doResumeDrive_beside p payload s
  | resetDrive => exact doResetDrive_beside p payload s
  | readDrive => exact doReadDrive_beside p payload s
  | readResult => exact doReadResult_beside p payload s
  | setResultFollow => exact doSetResultFollow_beside p payload s
  | readRing => exact .reply (.refl _)

end

end Sys2Proof.Machine

/-! SUPPORT. A frame taken acts on its own port, and so does a transfer that ends: the held frames drained are those of
that port alone (R178). -/

namespace Sys2Proof.Machine

/-- The other port's transfer and hold list stand, and the port's own hold list stands or is empty. -/
structure Floor.OnPort (p : PortId) (f g : Floor) : Prop where
  transfer : (g.port (otherPort p)).transfer = (f.port (otherPort p)).transfer
  hold : (g.port (otherPort p)).hold = (f.port (otherPort p)).hold
  own : (g.port p).hold = (f.port p).hold ∨ (g.port p).hold = []

theorem Floor.OnPort.setPort {p : PortId} {f : Floor} {x : PortContext} (own : x.hold = (f.port p).hold ∨ x.hold = []) :
    f.OnPort p (f.setPort p x) :=
  ⟨by rw [f.port_setPort_other], by rw [f.port_setPort_other], by rwa [f.port_setPort_same]⟩

theorem Floor.Beside.onPort {f g : Floor} (h : f.Beside g) (p : PortId) : f.OnPort p g :=
  ⟨h.transfer _, h.hold _, .inl (h.hold p)⟩

theorem Floor.OnPort.beside {p : PortId} {f g h : Floor} (fg : f.OnPort p g) (gh : g.Beside h) : f.OnPort p h where
  transfer := (gh.transfer _).trans fg.transfer
  hold := (gh.hold _).trans fg.hold
  own := by rw [gh.hold p]; exact fg.own

theorem Floor.Beside.before {p : PortId} {f g h : Floor} (fg : f.Beside g) (gh : g.OnPort p h) : f.OnPort p h where
  transfer := gh.transfer.trans (fg.transfer _)
  hold := gh.hold.trans (fg.hold _)
  own := by rw [← fg.hold p]; exact gh.own

section

variable (p : PortId) (payload : List Byte) (s : State)

theorem doReadData_onPort : s.floor.OnPort p (doReadData p payload s).floor := by
  have answered (r : Reply) : s.floor.OnPort p (s.floor.answer p r) := ((Floor.Beside.refl _).answer p r).onPort p
  unfold doReadData
  simp only
  split
  · exact answered _
  · split
    · exact answered _
    · split
      · exact answered _
      · exact .setPort (.inl rfl)

theorem State.countWrite_onPort (cur : DataCursor) (m kept : Nat) :
    s.floor.OnPort p (s.countWrite p cur m kept).floor := .setPort (.inl rfl)

theorem doWriteData_onPort : s.floor.OnPort p (doWriteData p payload s).floor := by
  have refused (e : Status) : s.floor.OnPort p (s.refuse p e).floor := (Floor.Beside.refuse (.refl _)).onPort p
  unfold doWriteData
  split
  · exact refused _
  · simp only
    split
    · exact refused _
    · split
      · exact refused _
      · split
        · exact (s.countWrite_onPort p _ _ _).beside (.reply (.refl _))
        · unfold State.startTransfer
          simp only [State.countWrite, Floor.setPort_setPort, Floor.port_setPort_same]
          exact .setPort (.inl rfl)

theorem doPortReset_onPort : s.floor.OnPort p (doPortReset p payload s).floor := by
  have cleared (f : Floor) : f.OnPort p (f.setPort p ((f.port p).clear f.ring.writePos)) := .setPort (.inr rfl)
  have orphaned := (Floor.Beside.refl s.floor).orphanBurst (mine := BurstWork.isTransferOf p)
  have served (f : Floor) : f.Beside f.serveRing := (Floor.Beside.refl f).serveRing
  exact (orphaned.before (cleared _)).beside (.settled (.reply (served _)))

theorem State.take_onPort (h : HeldFrame) : s.floor.OnPort p (s.take p h).floor := by
  cases h with
  | error status => exact (Floor.Beside.refuse (.refl _)).onPort p
  | request r payload =>
    by_cases reset : r = .portReset
    · exact reset ▸ doPortReset_onPort p payload s
    · by_cases read : r = .readData
      · exact read ▸ doReadData_onPort p payload s
      · by_cases write : r = .writeData
        · exact write ▸ doWriteData_onPort p payload s
        · exact (perform_beside p payload s reset read write).onPort p

end

/-! Draining (R178). -/

theorem State.drain_other_transfer (p : PortId) (n : Nat) (s : State) :
    ((State.drain p n s).floor.port (otherPort p)).transfer = (s.floor.port (otherPort p)).transfer := by
  refine State.drain_induction (P := fun t => (t.floor.port (otherPort p)).transfer =
    (s.floor.port (otherPort p)).transfer) p (fun t h rest same _ _ => ?_) n s rfl
  have taken := (State.take_onPort p { t with floor := t.floor.setPort p { t.floor.port p with hold := rest } } h).transfer
  rw [taken, Floor.port_setPort_other, same]

/-- A hold list is drained whole, or up to the frame that starts a transfer. -/
theorem State.drain_done (p : PortId) (n : Nat) (s : State) (few : (s.floor.port p).hold.length ≤ n) :
    ((State.drain p n s).floor.port p).transfer.isSome = true ∨ ((State.drain p n s).floor.port p).hold = [] := by
  induction n generalizing s with
  | zero => exact .inr (List.length_eq_zero_iff.mp (Nat.le_zero.mp few))
  | succ n ih =>
    cases transfer : (s.floor.port p).transfer with
    | some t =>
      rw [State.drain_stands (.inl (by rw [transfer]; rfl))]
      exact .inl (by rw [transfer]; rfl)
    | none =>
      cases hold : (s.floor.port p).hold with
      | nil =>
        rw [State.drain_stands (.inr hold)]
        exact .inr hold
      | cons h rest =>
        rw [State.drain_cons n transfer hold]
        apply ih
        have left : rest.length ≤ n := by simpa [hold] using few
        have own := (State.take_onPort p
          { s with floor := s.floor.setPort p { s.floor.port p with hold := rest } } h).own
        rw [Floor.port_setPort_same] at own
        rcases own with same | empty
        · rw [same]
          exact left
        · rw [empty]
          exact Nat.zero_le n

/-- A transfer that ended drains its own port's hold list. -/
theorem State.drainHolds_ended {s t : State} {p : PortId} (was : (s.floor.port p).transfer.isSome = true)
    (ended : (t.floor.port p).transfer = none)
    (other : (t.floor.port (otherPort p)).transfer = (s.floor.port (otherPort p)).transfer) :
    s.drainHolds t = State.drain p 4 t := by
  have own : s.drainEnded t p = State.drain p 4 t := by
    simp [drainEnded, transferring, was, ended, holdSize]
  have beside (u : State) (same : (u.floor.port (otherPort p)).transfer = (t.floor.port (otherPort p)).transfer) :
      s.drainEnded u (otherPort p) = u :=
    State.drainEnded_same s u _ (by rw [transferring, transferring, same, other])
  cases p with
  | a =>
    rw [drainHolds, own]
    exact beside _ (State.drain_other_transfer .a 4 t)
  | b =>
    have before : s.drainEnded t .a = t := beside t rfl
    rw [drainHolds, before, own]

/-- Settles O21: the check at the grant fails, and the transfer it ends drains its port. -/
theorem theFenceStopsATransfer : Obligations.TheFenceStopsATransfer := by
  unfold Obligations.TheFenceStopsATransfer
  intro s p t running idle client x ended decided transfer
  have stops (stopped : s.base.admits p t = false) :
      exec .arbiterGrant s = .next (State.drain p 4 (ended (x.endTransfer t))) := by
    have granted : s.grant = ended (x.endTransfer t) := by
      have starts := startBurst_port s.base s.floor p
      rw [grantPort_stopped transfer stopped] at starts
      rw [State.grant_some idle decided]
      cases p <;> exact congrArg (State.mk _ _ _) starts
    rw [exec_arbiterGrant running, granted, State.drainHolds_ended (p := p)]
    · rw [transfer]
      rfl
    · exact congrArg PortContext.transfer (Floor.port_setPort_same ..)
    · exact congrArg PortContext.transfer (Floor.port_setPort_other ..)
  refine ⟨fun left written kind fence => ?_, fun left got kind fence => ?_⟩
  · have write := stops (by
      rw [Bool.eq_false_iff, Ne, Base.admits_write kind]
      tauto)
    simpa only [PortContext.endTransfer, Transfer.result, Transfer.moveCursor, kind] using write
  · have read := stops (by
      rw [Bool.eq_false_iff, Ne, Base.admits_read kind]
      tauto)
    simpa only [PortContext.endTransfer, Transfer.result, Transfer.moveCursor, kind] using read

end Sys2Proof.Machine

/-! SUPPORT. What a burst that completes does (R31, R33, R37): the bytes it writes, and what its client takes of it. -/

namespace Sys2Proof.Machine

theorem exec_storeBurstComplete {s : State} {w : Burst} (running : s.base.resetActive = false)
    (burst : s.floor.burst = some w) (inside : w.addr + w.len ≤ s.base.store.blocks * 4096) :
    exec .storeBurstComplete s = .next (s.drainHolds (s.completeBurst w)) := by
  have inStore : w.inside s.base = true := decide_eq_true inside
  simp [exec, execStoreBurstComplete, burst, running, inStore]

/-- A burst that ends no transfer takes no held frame. -/
theorem exec_storeBurstComplete_same {s t : State} {w : Burst} (running : s.base.resetActive = false)
    (burst : s.floor.burst = some w) (inside : w.addr + w.len ≤ s.base.store.blocks * 4096)
    (done : s.completeBurst w = t)
    (same : ∀ p, (t.floor.port p).transfer.isSome = (s.floor.port p).transfer.isSome) :
    exec .storeBurstComplete s = .next t := by
  rw [exec_storeBurstComplete running burst inside, done, State.drainHolds_same]
  exact fun p => (same p).symm

/-- The burst that ends a port's transfer takes its held frames. -/
theorem exec_storeBurstComplete_ended {s : State} {w : Burst} {p : PortId} {x : PortContext} {mem : List Host.Cell}
    (running : s.base.resetActive = false) (burst : s.floor.burst = some w)
    (inside : w.addr + w.len ≤ s.base.store.blocks * 4096) (was : (s.floor.port p).transfer.isSome = true)
    (done : s.completeBurst w = { s with mem := mem, floor := { s.floor with burst := none }.setPort p x })
    (ended : x.transfer = none) : exec .storeBurstComplete s =
      .next (State.drain p 4 { s with mem := mem, floor := { s.floor with burst := none }.setPort p x }) := by
  rw [exec_storeBurstComplete running burst inside, done, State.drainHolds_ended was]
  · rw [Floor.port_setPort_same, ended]
  · rw [Floor.port_setPort_other]
    cases p <;> rfl

theorem State.completeBurst_write (s : State) (p : PortId) (sent : List Byte) (addr len : Nat) :
    s.completeBurst { work := .write p sent, addr := addr, len := len, live := true } =
      { s with
        mem := Memory.writeBytes s.mem addr sent
        floor := { s.floor with burst := none }.setPort p ((s.floor.port p).transferBurst sent) } := by
  cases p <;> rfl

theorem State.completeBurst_read (s : State) (p : PortId) (addr len : Nat) :
    s.completeBurst { work := .read p, addr := addr, len := len, live := true } =
      { s with
        floor := { s.floor with burst := none }.setPort p
          ((s.floor.port p).transferBurst (Memory.readBytes s.mem addr len)) } := by
  cases p <;> rfl

/-! A transfer after its burst (R33). -/

theorem Transfer.advance_write {t : Transfer} {left : List Byte} {written : Nat} (bytes : List Byte)
    (kind : t.kind = .write left written) : t.advance bytes =
      { t with offset := t.offset + bytes.length, kind := .write (left.drop bytes.length) (written + bytes.length) } := by
  rw [advance, kind]

theorem Transfer.advance_read {t : Transfer} {left : Nat} {got : List Byte} (bytes : List Byte)
    (kind : t.kind = .read left got) : t.advance bytes =
      { t with offset := t.offset + bytes.length, kind := .read (left - bytes.length) (got ++ bytes) } := by
  rw [advance, kind]

theorem PortContext.transferBurst_goesOn {x : PortContext} {t : Transfer} {bytes : List Byte}
    (transfer : x.transfer = some t) (left : (t.advance bytes).remaining ≠ 0) :
    x.transferBurst bytes = { x with transfer := some (t.advance bytes) } := by
  rw [transferBurst, transfer]
  exact if_neg left

theorem PortContext.transferBurst_ends {x : PortContext} {t : Transfer} {bytes : List Byte}
    (transfer : x.transfer = some t) (left : (t.advance bytes).remaining = 0) :
    x.transferBurst bytes = x.endTransfer (t.advance bytes) := by
  rw [transferBurst, transfer]
  exact if_pos left

theorem PortContext.endTransfer_write {t : Transfer} {left : List Byte} {written : Nat} (x : PortContext)
    (kind : t.kind = .write left written) : x.endTransfer t =
      { x with transfer := none, pending := some { status := .ok, payload := [byte written] } } := by
  simp only [endTransfer, Transfer.result, Transfer.moveCursor, kind]

theorem PortContext.endTransfer_read {t : Transfer} {left : Nat} {got : List Byte} (x : PortContext)
    (kind : t.kind = .read left got) : x.endTransfer t =
      { x with
        transfer := none, pending := some { status := .ok, payload := got }
        cursor := x.cursor.map fun k => { k with offset := k.offset + got.length } } := by
  simp only [endTransfer, Transfer.result, Transfer.moveCursor, kind]

/-- Giving a port a transfer while it has one leaves who is transferring as it was. -/
theorem Floor.transferring_setPort {f : Floor} {p : PortId} {x : PortContext} (was : (f.port p).transfer.isSome = true)
    (is : x.transfer.isSome = true) (burst : Option Burst) (q : PortId) :
    (({ f with burst := burst }.setPort p x).port q).transfer.isSome = (f.port q).transfer.isSome := by
  cases p <;> cases q
  exacts [is.trans was.symm, rfl, rfl, is.trans was.symm]

/-! Clearing (R31, R46). -/

section

variable {b : Base} {front back : List Clearing} {w : Clearing} {len : Nat}

theorem map_ne_slot {l : List Clearing} {slot : SlotId} (others : ∀ v ∈ l, v.slot ≠ slot)
    (change : Clearing → Clearing) : (l.map fun v => if v.slot = slot then change v else v) = l := by
  conv_rhs => rw [← List.map_id l]
  exact List.map_congr_left fun v hv => if_neg (others v hv)

theorem filter_ne_slot {l : List Clearing} {slot : SlotId} (others : ∀ v ∈ l, v.slot ≠ slot) :
    (l.filter fun v => decide (v.slot ≠ slot)) = l :=
  List.filter_eq_self.mpr fun v hv => decide_eq_true (others v hv)

/-- Whether the burst reaches the region's end. -/
theorem Base.clearBurst_done_iff (split : b.store.clearing = front ++ w :: back)
    (others : ∀ v ∈ front ++ back, v.slot ≠ w.slot) :
    (b.store.clearing.any fun v => decide (v.slot = w.slot) && decide (b.regionBytes w.slot ≤ v.bytes + len)) = true ↔
      b.regionBytes w.slot ≤ w.bytes + len := by
  simp only [split, List.any_eq_true, Bool.and_eq_true, decide_eq_true_eq]
  constructor
  · rintro ⟨v, hv, same, reached⟩
    rcases List.mem_append.mp hv with hv | hv
    · exact absurd same (others v (List.mem_append_left _ hv))
    · rcases List.mem_cons.mp hv with rfl | hv
      · exact reached
      · exact absurd same (others v (List.mem_append_right _ hv))
  · exact fun reached => ⟨w, by simp, rfl, reached⟩

theorem Base.clearBurst_goesOn (split : b.store.clearing = front ++ w :: back)
    (others : ∀ v ∈ front ++ back, v.slot ≠ w.slot) (left : w.bytes + len < b.regionBytes w.slot) :
    b.clearBurst w.slot len =
      { b with store := { b.store with clearing := front ++ { w with bytes := w.bytes + len } :: back } } := by
  have begun := fun v hv => others v (List.mem_append_left back hv)
  have ended := fun v hv => others v (List.mem_append_right front hv)
  have notDone := mt (Base.clearBurst_done_iff (len := len) split others).mp (by omega)
  simp only [clearBurst, if_neg notDone]
  rw [split, List.map_append, List.map_cons, map_ne_slot begun, map_ne_slot ended, if_pos rfl]

theorem Base.clearBurst_ends (split : b.store.clearing = front ++ w :: back)
    (others : ∀ v ∈ front ++ back, v.slot ≠ w.slot) (reached : b.regionBytes w.slot ≤ w.bytes + len) :
    b.clearBurst w.slot len = { b.setImage w.slot { b.image w.slot with state := .loading } with
      store := { b.store with clearing := front ++ back } } := by
  have begun := fun v hv => others v (List.mem_append_left back hv)
  have ended := fun v hv => others v (List.mem_append_right front hv)
  have done := (Base.clearBurst_done_iff (len := len) split others).mpr reached
  simp only [clearBurst, if_pos done, modImage]
  rw [split, List.filter_append, List.filter_cons_of_neg (by simp), filter_ne_slot begun, filter_ne_slot ended]

end

theorem Memory.read_writeZeros {mem : List Host.Cell} (wf : Memory.wf mem = true) (addr len a : Nat) :
    Memory.read (Memory.writeBytes mem addr (List.replicate len 0)) a =
      if addr ≤ a ∧ a < addr + len then 0 else Memory.read mem a := by
  split
  · next inside =>
    have h := Memory.read_writeBytes_inside addr (List.replicate len 0) wf (a - addr) (by simp; omega)
    rwa [Nat.add_sub_cancel' inside.1, List.getElem_replicate] at h
  · exact Memory.read_writeBytes_outside addr _ wf a (by simp; omega)

/-- Settles O22: the bytes by the memory's lemmas, the progress by the two cases of `Base.clearBurst`. -/
theorem burstsWriteTheirBytes : Obligations.BurstsWriteTheirBytes := by
  unfold Obligations.BurstsWriteTheirBytes
  refine ⟨fun s p bytes left addr written t running wf burst inside transfer kind more => ?_,
    fun s front w back addr len running wf burst inside split others => ?_⟩
  · have goesOn := PortContext.transferBurst_goesOn (bytes := bytes) transfer (by
      rw [Transfer.advance_write bytes kind]
      simp only [Transfer.remaining, List.length_drop]
      omega)
    rw [Transfer.advance_write bytes kind] at goesOn
    have done := s.completeBurst_write p bytes addr bytes.length
    rw [goesOn] at done
    refine ⟨_, exec_storeBurstComplete_same running burst inside done (Floor.transferring_setPort ?_ rfl none), rfl, rfl,
      fun i => Memory.read_writeBytes_inside addr bytes wf i.val i.isLt,
      fun a outside => Memory.read_writeBytes_outside addr bytes wf a outside, rfl⟩
    rw [transfer]
    rfl
  · refine ⟨_, exec_storeBurstComplete_same running burst inside rfl fun p => ?_, rfl, rfl,
      Memory.read_writeZeros wf addr len, Base.clearBurst_goesOn split others, Base.clearBurst_ends split others⟩
    cases p <;> rfl

/-- Settles O23: each client's share of `State.deliver`, and the frames held by `State.drain_cons` and
`State.drain_done`. -/
theorem burstsServeTheirClients : Obligations.BurstsServeTheirClients := by
  unfold Obligations.BurstsServeTheirClients
  refine ⟨?_, fun s p => ⟨fun h n => State.drain_stands h n, fun h rest n idle hold => State.drain_cons n idle hold,
    State.drain_done p 4 s⟩⟩
  intro s work addr len live running burst inside bytes idle written
  refine ⟨fun dead => ?_, fun refresh => ?_, fun c j i rest alive fetch list few => ?_,
    fun p t left got alive read transfer kind => ?_, fun p sent' sent t alive write transfer kind => ?_⟩
  · subst dead
    refine exec_storeBurstComplete_same running burst inside ?_ fun p => by cases p <;> rfl
    cases work <;> rfl
  · subst refresh
    refine exec_storeBurstComplete_same running burst inside ?_ fun p => by cases p <;> rfl
    cases live <;> rfl
  · subst alive fetch
    refine exec_storeBurstComplete_same running burst inside ?_ fun p => by cases p <;> rfl
    have filled : fetchAfterBurst bytes.length (s.floor.chan c).fetch = if i.remaining = len then rest
        else { i with offset := i.offset + len, remaining := i.remaining - len } :: rest := by
      rw [list, Memory.readBytes_length, fetchAfterBurst]
      exact if_congr (by omega) rfl rfl
    rw [← filled]
    rfl
  · subst alive read
    have was : (s.floor.port p).transfer.isSome = true := by rw [transfer]; rfl
    have length : bytes.length = len := Memory.readBytes_length ..
    have done := s.completeBurst_read p addr len
    refine ⟨fun more => ?_, fun last => ?_⟩
    · have goesOn := PortContext.transferBurst_goesOn (bytes := bytes) transfer (by
        rw [Transfer.advance_read bytes kind]
        simp only [Transfer.remaining]
        omega)
      rw [Transfer.advance_read bytes kind, length] at goesOn
      rw [goesOn] at done
      exact exec_storeBurstComplete_same running burst inside done (Floor.transferring_setPort was rfl none)
    · have ends := PortContext.transferBurst_ends (bytes := bytes) transfer (by
        rw [Transfer.advance_read bytes kind]
        simp only [Transfer.remaining]
        omega)
      rw [Transfer.advance_read bytes kind, PortContext.endTransfer_read _ rfl] at ends
      rw [ends] at done
      exact exec_storeBurstComplete_ended running burst inside was done rfl
  · subst alive write
    have was : (s.floor.port p).transfer.isSome = true := by rw [transfer]; rfl
    have done := s.completeBurst_write p sent addr len
    have ends := PortContext.transferBurst_ends (bytes := sent) transfer (by
      rw [Transfer.advance_write sent kind]
      simp only [Transfer.remaining, List.drop_length, List.length_nil])
    rw [Transfer.advance_write sent kind, PortContext.endTransfer_write _ rfl] at ends
    rw [ends] at done
    exact exec_storeBurstComplete_ended running burst inside was done rfl

end Sys2Proof.Machine

/-! SUPPORT. What the requests on an image slot read from their payloads, and the checks of R42. -/

namespace Sys2Proof.Machine

/-! Fields of a payload. -/

theorem num_be_head (n v : Nat) (back : List Byte) : num (be n v ++ back) 0 n = v % 256 ^ n := num_be [] back n v

theorem num_be_all (n v : Nat) : num (be n v) 0 n = v % 256 ^ n := by
  simpa using num_be_head n v []

theorem slot_of_byte (slot : SlotId) : finOf? 8 (byte slot.val).toNat = some slot := by
  rw [byte_toNat_of_lt (by omega), finOf?_val]

theorem slot_of_val {slot : SlotId} {v : Byte} (h : slot.val = v.toNat) : finOf? 8 v.toNat = some slot :=
  finOf?_eq_some_iff.mpr h.symm

theorem slot_beyond {v : Byte} (h : 7 < v.toNat) : finOf? 8 v.toNat = none := dif_neg (by omega)

/-! The state and loader checks (R42). -/

theorem ImageSlot.openCheck_eq_none {im : ImageSlot} (h : im.state = .loading ∨ im.state = .checking ∨
    im.state = .ready ∨ im.state = .bad) : im.openCheck = none := by
  rcases h with h | h | h | h <;> rw [openCheck, h]

theorem ImageSlot.openCheck_free {im : ImageSlot} (h : im.state = .free) : im.openCheck = some .noImage := by
  rw [openCheck, h]

theorem ImageSlot.openCheck_clearing {im : ImageSlot} (h : im.state = .clearing) :
    im.openCheck = some .wrongImageState := by
  rw [openCheck, h]

theorem ImageSlot.loaderCheck_free {im : ImageSlot} (p : PortId) (h : im.state = .free) :
    im.loaderCheck p = some .noImage := by
  rw [loaderCheck, h]

theorem ImageSlot.loaderCheck_notLoading {im : ImageSlot} (p : PortId) (used : im.state ≠ .free)
    (h : im.state ≠ .loading) : im.loaderCheck p = some .wrongImageState := by
  unfold loaderCheck
  split
  case h_1 free => exact absurd free used
  case h_2 loading => exact absurd loading h
  all_goals rfl

theorem ImageSlot.loaderCheck_notLoader {im : ImageSlot} {p : PortId} {o : Opening} (opening : im.opening = some o)
    (other : o.loader ≠ p) (h : im.state = .loading) : im.loaderCheck p = some .notLoader := by
  simp [loaderCheck, h, opening, other]

/-- A track outside the slot's map has no entry (R44). -/
theorem ImageSlot.entry_outside {im : ImageSlot} {o : Opening} {c h : Nat} (opening : im.opening = some o)
    (outside : o.cylinders ≤ c ∨ o.heads ≤ h) : im.entry c h = none := by
  simp only [entry, opening]
  exact if_neg (by omega)

/-! The requests at a ready port. -/

section

variable {p : PortId} {s : State}

theorem exec_openImage {payload : List Byte} (ready : s.ready p) (len : payload.length = 7) :
    exec (.openImage p payload) s = .next (doOpenImage p payload s) :=
  next_station_ready .openImage ready (by rw [len]; rfl)

theorem exec_defineTrack {payload : List Byte} (ready : s.ready p) (len : payload.length = 5) :
    exec (.defineTrack p payload) s = .next (doDefineTrack p payload s) :=
  next_station_ready .defineTrack ready (by rw [len]; rfl)

theorem exec_setCursor {payload : List Byte} (ready : s.ready p) (len : payload.length = 6) :
    exec (.setCursor p payload) s = .next (doSetCursor p payload s) :=
  next_station_ready .setCursor ready (by rw [len]; rfl)

theorem exec_finishImage {payload : List Byte} (ready : s.ready p) (len : payload.length = 5) :
    exec (.finishImage p payload) s = .next (doFinishImage p payload s) :=
  next_station_ready .finishImage ready (by rw [len]; rfl)

theorem exec_deleteImage {v : Byte} (ready : s.ready p) :
    exec (.deleteImage p [v]) s = .next (doDeleteImage p [v] s) := next_station_ready .deleteImage ready rfl

theorem exec_readImage {v : Byte} (ready : s.ready p) :
    exec (.readImage p [v]) s = .next (doReadImage p [v] s) := next_station_ready .readImage ready rfl

theorem exec_readTrackEntry {v c h : Byte} (ready : s.ready p) :
    exec (.readTrackEntry p [v, c, h]) s = .next (doReadTrackEntry p [v, c, h] s) :=
  next_station_ready .readTrackEntry ready rfl

theorem exec_readJob {v : Byte} (ready : s.ready p) :
    exec (.readJob p [v]) s = .next (doReadJob p [v] s) := next_station_ready .readJob ready rfl

theorem exec_readDrive {v : Byte} (ready : s.ready p) :
    exec (.readDrive p [v]) s = .next (doReadDrive p [v] s) := next_station_ready .readDrive ready rfl

theorem doReadImage_open {slot : SlotId} {o : Opening} {v : Byte} (read : finOf? 8 v.toNat = some slot)
    (opened : (s.base.image slot).openCheck = none) (opening : (s.base.image slot).opening = some o) :
    doReadImage p [v] s = s.reply p (s.base.imageReport slot o) := by
  simp only [doReadImage, num_head, read, opened, opening]

theorem doReadTrackEntry_open {slot : SlotId} {v c h : Byte} {e : TrackEntry} (read : finOf? 8 v.toNat = some slot)
    (cylinder : c.toNat ≤ 83) (head : h.toNat ≤ 1) (opened : (s.base.image slot).openCheck = none)
    (entry : (s.base.image slot).entry c.toNat h.toNat = some e) :
    doReadTrackEntry p [v, c, h] s = s.reply p e.reply := by
  simp only [doReadTrackEntry, num_head, num_tail, read, opened, entry,
    if_neg (show ¬(83 < c.toNat ∨ 1 < h.toNat) by omega)]

/-! READ JOB (R68, R74). -/

theorem doReadJob_summary : doReadJob p [0] s = s.reply p s.floor.queueSummary := rfl

theorem doReadJob_held {v : Byte} {j : Job} (named : v.toNat ≠ 0) (job : s.floor.job v.toNat = some j) :
    doReadJob p [v] s = s.reply p (j.report (placeOf (fun k => k.id == v.toNat) s.floor.jobs)) := by
  simp only [doReadJob, num_head, if_neg named, job]

theorem doReadJob_unknown {v : Byte} (named : v.toNat ≠ 0) (job : s.floor.job v.toNat = none) :
    doReadJob p [v] s = s.refuse p .noJob := by
  simp only [doReadJob, num_head, if_neg named, job]

theorem doReadDrive_beyond {v : Byte} (beyond : 7 < v.toNat) : doReadDrive p [v] s = s.refuse p .badValue := by
  simp only [doReadDrive, readChannel, num_head, slot_beyond beyond]

theorem doReadDrive_channel (c : Chan) : doReadDrive p [byte c.val] s = s.reply p (driveReport s.base s.floor c) := by
  simp only [doReadDrive, readChannel, num_head, slot_of_byte]

end

/-! Places in a list, counted from 1. -/

theorem placeOf_append {α : Type} {test : α → Bool} {front : List α} {x : α} (back : List α) (meets : test x = true)
    (first : ∀ y ∈ front, test y = false) : placeOf test (front ++ x :: back) = front.length + 1 := by
  induction front with
  | nil => simp [placeOf, meets]
  | cons y front ih =>
    obtain ⟨hy, rest⟩ := List.forall_mem_cons.mp first
    simp [placeOf, hy, ih rest]

theorem placeOf_none {α : Type} {test : α → Bool} {l : List α} (none : ∀ y ∈ l, test y = false) :
    placeOf test l = 0 := by
  induction l with
  | nil => rfl
  | cons y l ih =>
    obtain ⟨hy, rest⟩ := List.forall_mem_cons.mp none
    simp [placeOf, hy, ih rest]

/-- Settles O34: each read's own reply, and a place by `placeOf_append`. -/
theorem readsOnlyReply : Obligations.ReadsOnlyReply := by
  unfold Obligations.ReadsOnlyReply
  refine ⟨fun p slot o c h e s ready opened opening cylinder head entry => ⟨?_, ?_⟩,
    fun p j s ready job low high => ?_,
    fun p c s ready => ⟨next_station_ready .readDevice ready rfl, next_station_ready .readLine ready rfl,
      next_station_ready .readStoreMap ready rfl, next_station_ready .readRing ready rfl, ?_, ?_⟩,
    fun p id s ready low high unknown => ?_, fun front j back first => ?_, fun p v s ready beyond => ?_⟩
  · rw [exec_readImage ready,
      doReadImage_open (slot_of_byte slot) (ImageSlot.openCheck_eq_none opened) opening]
  · have cylinderRead : (byte c).toNat = c := byte_toNat_of_lt (by omega)
    have headRead : (byte h).toNat = h := byte_toNat_of_lt (by omega)
    rw [exec_readTrackEntry ready, doReadTrackEntry_open (slot_of_byte slot) (by omega) (by omega)
      (ImageSlot.openCheck_eq_none opened) (by rwa [cylinderRead, headRead])]
  · have idRead : (byte j.id).toNat = j.id := byte_toNat_of_lt (by omega)
    rw [exec_readJob ready, doReadJob_held (by omega) (by rwa [idRead]), idRead]
  · rw [exec_readDrive ready, doReadDrive_channel]
  · rw [exec_readJob ready, doReadJob_summary]
  · have idRead : (byte id).toNat = id := byte_toNat_of_lt (by omega)
    rw [exec_readJob ready, doReadJob_unknown (by omega)]
    rw [idRead, Floor.job_eq_none_iff]
    exact unknown
  · exact placeOf_append back (by simp) fun q hq => by simpa using first q hq
  · rw [exec_readDrive ready, doReadDrive_beyond beyond]

end Sys2Proof.Machine

/-! SUPPORT. OPEN IMAGE, and what refuses every request that names an image slot (R42, R45). -/

namespace Sys2Proof.Machine

theorem num_be_skip (n v i m : Nat) (back : List Byte) : num (be n v ++ back) (n + i) m = num back i m := by
  have dropped : (be n v ++ back).drop (n + i) = back.drop i := by
    rw [List.drop_append, be_length, List.drop_eq_nil_of_le (by rw [be_length]; omega)]
    simp
  rw [num, dropped, num]

section

variable {p : PortId} {s : State}

/-! OPEN IMAGE (R45). -/

/-- The payload of an OPEN IMAGE. -/
def openPayload (slot : SlotId) (len cylinders heads : Nat) : List Byte :=
  byte slot.val :: be 4 len ++ [byte cylinders, byte heads]

theorem openPayload_fields (slot : SlotId) {len cylinders heads : Nat} (low : len < 4294967296)
    (cylindersLow : cylinders ≤ 255) (headsLow : heads ≤ 255) :
    let payload := openPayload slot len cylinders heads
    finOf? 8 (num payload 0 1) = some slot ∧ num payload 1 4 = len ∧ num payload 5 1 = cylinders ∧
      num payload 6 1 = heads := by
  have cylindersRead : (byte cylinders).toNat = cylinders := byte_toNat_of_lt (by omega)
  have headsRead : (byte heads).toNat = heads := byte_toNat_of_lt (by omega)
  refine ⟨?_, ?_, ?_, ?_⟩
  · rw [openPayload, List.cons_append, num_head, slot_of_byte]
  · exact (num_be_head 4 len _).trans (Nat.mod_eq_of_lt low)
  · exact ((num_be_skip 4 len 0 1 _).trans (num_head _ _)).trans cylindersRead
  · exact ((num_be_skip 4 len 1 1 _).trans (num_head _ _)).trans headsRead

/-- Whether an OPEN IMAGE's values are in their ranges (R45). -/
def openInRange (b : Base) (len cylinders heads : Nat) : Prop :=
  1 ≤ len ∧ len ≤ b.store.blocks ∧ 1 ≤ cylinders ∧ cylinders ≤ 84 ∧ 1 ≤ heads ∧ heads ≤ 2

section

variable {payload : List Byte} {slot : SlotId} {len cylinders heads : Nat}
  (fields : finOf? 8 (num payload 0 1) = some slot ∧ num payload 1 4 = len ∧ num payload 5 1 = cylinders ∧
    num payload 6 1 = heads)

include fields

theorem doOpenImage_outOfRange (outside : ¬openInRange s.base len cylinders heads) :
    doOpenImage p payload s = s.refuse p .badValue := by
  obtain ⟨slotRead, lenRead, cylindersRead, headsRead⟩ := fields
  simp only [doOpenImage, slotRead, lenRead, cylindersRead, headsRead]
  exact if_pos (by unfold openInRange at outside; omega)

theorem doOpenImage_busy (inRange : openInRange s.base len cylinders heads) (busy : (s.base.image slot).state ≠ .free) :
    doOpenImage p payload s = s.refuse p .slotBusy := by
  obtain ⟨slotRead, lenRead, cylindersRead, headsRead⟩ := fields
  simp only [doOpenImage, slotRead, lenRead, cylindersRead, headsRead]
  rw [if_neg (by unfold openInRange at inRange; omega), if_pos busy]

theorem doOpenImage_free (inRange : openInRange s.base len cylinders heads) (free : (s.base.image slot).state = .free) :
    (allocate len slot s.base.store.regions = none → doOpenImage p payload s = s.refuse p .noRoom) ∧
    ∀ base regions, allocate len slot s.base.store.regions = some (base, regions) →
      doOpenImage p payload s =
        let b := s.base.openImage slot
          { loader := p, base := base, length := len, cylinders := cylinders, heads := heads } regions
        { s with base := b }.reply p
          (byte slot.val :: be 2 (b.image slot).openNumber.toNat ++ be 2 base ++ be 2 len) := by
  obtain ⟨slotRead, lenRead, cylindersRead, headsRead⟩ := fields
  simp only [doOpenImage, slotRead, lenRead, cylindersRead, headsRead]
  rw [if_neg (by unfold openInRange at inRange; omega), if_neg (not_not.mpr free)]
  exact ⟨fun none => by simp only [none], fun base regions room => by simp only [room]⟩

end

/-! The refusals of the requests that name a slot (R42, R47, R49, R62). -/

section

variable {payload : List Byte} (unread : finOf? 8 (num payload 0 1) = none)

include unread

theorem doOpenImage_noSlot : doOpenImage p payload s = s.refuse p .badValue := by
  simp only [doOpenImage, unread]

theorem doDefineTrack_noSlot : doDefineTrack p payload s = s.refuse p .badValue := by
  simp only [doDefineTrack, unread]

theorem doSetCursor_noSlot : doSetCursor p payload s = s.refuse p .badValue := by
  simp only [doSetCursor, unread]

theorem doFinishImage_noSlot : doFinishImage p payload s = s.refuse p .badValue := by
  simp only [doFinishImage, unread]

theorem doDeleteImage_noSlot : doDeleteImage p payload s = s.refuse p .badValue := by
  simp only [doDeleteImage, unread]

theorem doReadImage_noSlot : doReadImage p payload s = s.refuse p .badValue := by
  simp only [doReadImage, unread]

theorem doReadTrackEntry_noSlot : doReadTrackEntry p payload s = s.refuse p .badValue := by
  simp only [doReadTrackEntry, unread]

end

section

variable {payload : List Byte} {k : SlotId} (read : finOf? 8 (num payload 0 1) = some k) {e : Status}

include read

theorem doFinishImage_refused (check : (s.base.image k).loaderCheck p = some e) :
    doFinishImage p payload s = s.refuse p e := by
  simp only [doFinishImage, read, check]

theorem doDeleteImage_free (free : (s.base.image k).state = .free) :
    doDeleteImage p payload s = s.refuse p .noImage := by
  simp only [doDeleteImage, read]
  exact if_pos free

theorem doReadImage_refused (check : (s.base.image k).openCheck = some e) :
    doReadImage p payload s = s.refuse p e := by
  simp only [doReadImage, read, check]

end

/-- Whether a cylinder and head are in their ranges (R42). -/
def trackInRange (c h : Nat) : Prop := c ≤ 83 ∧ h ≤ 1

section

variable {payload : List Byte}

theorem doSetCursor_offTrack (off : ¬trackInRange (num payload 1 1) (num payload 2 1)) :
    doSetCursor p payload s = s.refuse p .badValue := by
  unfold trackInRange at off
  unfold doSetCursor
  split
  · rfl
  · exact if_pos (by omega)

theorem doReadTrackEntry_offTrack (off : ¬trackInRange (num payload 1 1) (num payload 2 1)) :
    doReadTrackEntry p payload s = s.refuse p .badValue := by
  unfold trackInRange at off
  unfold doReadTrackEntry
  simp only
  split
  · rfl
  · exact if_pos (by omega)

theorem doDefineTrack_offTrack (off : ¬trackInRange (num payload 1 1) (num payload 2 1)) :
    doDefineTrack p payload s = s.refuse p .badValue := by
  unfold trackInRange at off
  unfold doDefineTrack
  simp only
  split
  · exact if_pos (by omega)
  · rfl

theorem doDefineTrack_noChoice (undefined : readTrackChoice (num payload 3 1) (num payload 4 1) = none) :
    doDefineTrack p payload s = s.refuse p .badValue := by
  unfold doDefineTrack
  simp only
  split
  · next choice => rw [undefined] at choice; cases choice
  · rfl

variable {k : SlotId} (read : finOf? 8 (num payload 0 1) = some k)
  (inRange : trackInRange (num payload 1 1) (num payload 2 1)) {e : Status}

include read inRange

theorem doSetCursor_refused (check : (s.base.image k).openCheck = some e) :
    doSetCursor p payload s = s.refuse p e := by
  unfold trackInRange at inRange
  simp only [doSetCursor, read, check]
  exact if_neg (by omega)

theorem doSetCursor_outside (opened : (s.base.image k).openCheck = none)
    (outside : (s.base.image k).entry (num payload 1 1) (num payload 2 1) = none) :
    doSetCursor p payload s = s.refuse p .badValue := by
  unfold trackInRange at inRange
  simp only [doSetCursor, read, opened, outside]
  exact if_neg (by omega)

theorem doReadTrackEntry_refused (check : (s.base.image k).openCheck = some e) :
    doReadTrackEntry p payload s = s.refuse p e := by
  unfold trackInRange at inRange
  simp only [doReadTrackEntry, read, check]
  exact if_neg (by omega)

theorem doReadTrackEntry_outside (opened : (s.base.image k).openCheck = none)
    (outside : (s.base.image k).entry (num payload 1 1) (num payload 2 1) = none) :
    doReadTrackEntry p payload s = s.refuse p .badValue := by
  unfold trackInRange at inRange
  simp only [doReadTrackEntry, read, opened, outside]
  exact if_neg (by omega)

theorem doDefineTrack_refused {choice : TrackChoice}
    (chosen : readTrackChoice (num payload 3 1) (num payload 4 1) = some choice)
    (check : (s.base.image k).loaderCheck p = some e) : doDefineTrack p payload s = s.refuse p e := by
  unfold trackInRange at inRange
  simp only [doDefineTrack, read, chosen, check]
  exact if_neg (by omega)

end

end

/-- The kinds and formats that DEFINE TRACK reads (R47). -/
theorem readTrackChoice_isSome_iff (kind v : Byte) : (readTrackChoice kind.toNat v.toNat).isSome = true ↔
    kind = 3 ∨ ((kind = 1 ∨ kind = 2) ∧ v.toNat ≤ 15) := by
  have value (n : Nat) (low : n < 256) : kind = BitVec.ofNat 8 n ↔ kind.toNat = n := by
    rw [← BitVec.toNat_inj, BitVec.toNat_ofNat, Nat.mod_eq_of_lt low]
  have three := value 3 (by omega)
  have one := value 1 (by omega)
  have two := value 2 (by omega)
  have format : (finOf? 16 v.toNat).isSome = true ↔ v.toNat ≤ 15 := by
    unfold finOf?
    split <;> simp <;> omega
  unfold readTrackChoice
  split
  · next kind1 => simp_all
  · next kind2 => simp_all
  · next kind3 => simp_all
  · next not1 not2 not3 => simp_all

/-- Settles O29: OPEN IMAGE by its cases, first fit by `allocate_eq_some`, and each refusal by the check it comes from. -/
theorem openImageReservesARegion : Obligations.OpenImageReservesARegion := by
  unfold Obligations.OpenImageReservesARegion
  refine ⟨fun p slot len cylinders heads s ready low cylindersLow headsLow => ?_,
    fun len slot regions => ⟨fun base after => allocate_eq_some, allocate_eq_none⟩,
    fun p slot c h kind v offset crc s ready offsetLen crcLen => ?_⟩
  · have fields := openPayload_fields slot low cylindersLow headsLow
    have sends : exec (.openImage p (openPayload slot len cylinders heads)) s = _ :=
      exec_openImage ready (by simp [openPayload])
    refine ⟨fun outside => ?_, fun inRange busy => ?_, fun inRange free => ⟨fun none => ?_, fun base regions room => ?_⟩⟩
    · exact sends.trans (congrArg _ (doOpenImage_outOfRange fields outside))
    · exact sends.trans (congrArg _ (doOpenImage_busy fields inRange busy))
    · exact sends.trans (congrArg _ ((doOpenImage_free fields inRange free).1 none))
    · have opened := (doOpenImage_free (p := p) fields inRange free).2 base regions room
      refine sends.trans (congrArg _ (opened.trans ?_))
      simp only [Base.openImage_image_same]
      rfl
  · intro defineTrack setCursor finish delete read readEntry refused track defined
    have defines : defineTrack = .next (doDefineTrack p [slot, c, h, kind, v] s) := exec_defineTrack ready rfl
    have sets : setCursor = .next (doSetCursor p (slot :: c :: h :: offset) s) :=
      exec_setCursor ready (by simp [offsetLen])
    have finishes : finish = .next (doFinishImage p (slot :: crc) s) := exec_finishImage ready (by simp [crcLen])
    have deletes : delete = .next (doDeleteImage p [slot] s) := exec_deleteImage ready
    have reads : read = .next (doReadImage p [slot] s) := exec_readImage ready
    have readsEntry : readEntry = .next (doReadTrackEntry p [slot, c, h] s) := exec_readTrackEntry ready
    have place (rest : List Byte) : trackInRange (num (slot :: c :: h :: rest) 1 1) (num (slot :: c :: h :: rest) 2 1) ↔
        track := by rw [num_tail, num_head, num_tail, num_tail, num_head]; rfl
    have choice : readTrackChoice (num [slot, c, h, kind, v] 3 1) (num [slot, c, h, kind, v] 4 1) =
        readTrackChoice kind.toNat v.toNat := by
      simp only [num_tail, num_head]
    refine ⟨fun beyond => ?_, fun off => ?_, fun off => ⟨?_, ?_⟩, fun k value => ?_⟩
    · have unread (rest : List Byte) : finOf? 8 (num (slot :: rest) 0 1) = none := by
        rw [num_head, slot_beyond beyond]
      refine ⟨fun rest len => (exec_openImage ready (by simp [len])).trans (congrArg _ (doOpenImage_noSlot (unread _))), ?_⟩
      simp only [List.forall_mem_cons]
      exact ⟨defines.trans (congrArg _ (doDefineTrack_noSlot (unread _))),
        sets.trans (congrArg _ (doSetCursor_noSlot (unread _))),
        finishes.trans (congrArg _ (doFinishImage_noSlot (unread _))),
        deletes.trans (congrArg _ (doDeleteImage_noSlot (unread _))),
        reads.trans (congrArg _ (doReadImage_noSlot (unread _))),
        readsEntry.trans (congrArg _ (doReadTrackEntry_noSlot (unread _))), List.forall_mem_nil _⟩
    · refine defines.trans (congrArg _ ?_)
      rcases off with off | undefined
      · exact doDefineTrack_offTrack (mt (place _).mp off)
      · refine doDefineTrack_noChoice ?_
        rw [choice, ← Option.not_isSome_iff_eq_none, readTrackChoice_isSome_iff]
        exact undefined
    · exact sets.trans (congrArg _ (doSetCursor_offTrack (mt (place _).mp off)))
    · exact readsEntry.trans (congrArg _ (doReadTrackEntry_offTrack (mt (place _).mp off)))
    · have slotRead (rest : List Byte) : finOf? 8 (num (slot :: rest) 0 1) = some k := by
        rw [num_head, slot_of_val value]
      intro im opened
      have defineRefused {e : Status} (check : im.loaderCheck p = some e) (on : track) (named : defined) :
          refused e defineTrack := by
        obtain ⟨chosen, hc⟩ := Option.isSome_iff_exists.mp ((readTrackChoice_isSome_iff kind v).mpr named)
        exact defines.trans (congrArg _
          (doDefineTrack_refused (slotRead _) ((place _).mpr on) (choice.trans hc) check))
      have openRefused {e : Status} (check : im.openCheck = some e) (on : track) :
          refused e setCursor ∧ refused e readEntry :=
        ⟨sets.trans (congrArg _ (doSetCursor_refused (slotRead _) ((place _).mpr on) check)),
          readsEntry.trans (congrArg _ (doReadTrackEntry_refused (slotRead _) ((place _).mpr on) check))⟩
      have finishRefused {e : Status} (check : im.loaderCheck p = some e) : refused e finish :=
        finishes.trans (congrArg _ (doFinishImage_refused (slotRead _) check))
      have readRefused {e : Status} (check : im.openCheck = some e) : refused e read :=
        reads.trans (congrArg _ (doReadImage_refused (slotRead _) check))
      refine ⟨fun free => ?_, fun free on => ?_, fun clearing => ?_, fun clearing on => ?_, fun used notLoading => ?_,
        fun o opening other loading => ?_, fun o opening isOpen on outside => ?_⟩
      · simp only [List.forall_mem_cons]
        exact ⟨finishRefused (ImageSlot.loaderCheck_free p free),
          deletes.trans (congrArg _ (doDeleteImage_free (slotRead _) free)),
          readRefused (ImageSlot.openCheck_free free), List.forall_mem_nil _⟩
      · obtain ⟨cursor, entry⟩ := openRefused (ImageSlot.openCheck_free free) on
        exact ⟨cursor, entry, defineRefused (ImageSlot.loaderCheck_free p free) on⟩
      · have used : im.state ≠ .free := by rw [clearing]; decide
        have notLoading : im.state ≠ .loading := by rw [clearing]; decide
        simp only [List.forall_mem_cons]
        exact ⟨finishRefused (ImageSlot.loaderCheck_notLoading p used notLoading),
          readRefused (ImageSlot.openCheck_clearing clearing), List.forall_mem_nil _⟩
      · exact openRefused (ImageSlot.openCheck_clearing clearing) on
      · have check := ImageSlot.loaderCheck_notLoading p used notLoading
        exact ⟨finishRefused check, defineRefused check⟩
      · have check := ImageSlot.loaderCheck_notLoader opening other loading
        exact ⟨finishRefused check, defineRefused check⟩
      · have check := ImageSlot.openCheck_eq_none isOpen
        have off (rest : List Byte) : im.entry (num (slot :: c :: h :: rest) 1 1) (num (slot :: c :: h :: rest) 2 1) =
            none := by
          rw [num_tail, num_head, num_tail, num_tail, num_head]
          exact ImageSlot.entry_outside opening outside
        exact ⟨sets.trans (congrArg _ (doSetCursor_outside (slotRead _) ((place _).mpr on) check (off _))),
          readsEntry.trans (congrArg _ (doReadTrackEntry_outside (slotRead _) ((place _).mpr on) check (off _)))⟩

end Sys2Proof.Machine

/-! SUPPORT. The data cursor and the requests that work at it (R49 to R53). -/

namespace Sys2Proof.Machine

section

variable {p : PortId} {s : State} {cur : DataCursor} {start len : Nat}

/-! The checks at a cursor (R50). -/

theorem State.atCursor_none (none : (s.floor.port p).cursor = none) : s.atCursor p = .error .noImage := by
  simp only [atCursor, none]

section

variable (cursor : (s.floor.port p).cursor = some cur)

include cursor

theorem State.atCursor_dead (dead : (s.base.image cur.slot).state = .free ∨
    (s.base.image cur.slot).openNumber ≠ cur.openNumber) : s.atCursor p = .error .noImage := by
  simp only [atCursor, cursor]
  exact if_pos dead

variable (used : (s.base.image cur.slot).state ≠ .free)
  (live : (s.base.image cur.slot).openNumber = cur.openNumber)

include used live

theorem State.atCursor_noTrack (noData : ∀ f start len,
    (s.base.image cur.slot).entry cur.cylinder cur.head ≠ some (.data f start len)) :
    s.atCursor p = .error .noTrack := by
  have noSpan : ((s.base.image cur.slot).entry cur.cylinder cur.head).bind TrackEntry.span? = none := by
    cases entry : (s.base.image cur.slot).entry cur.cylinder cur.head with
    | none => rfl
    | some e =>
      cases e with
      | data f start len => exact absurd entry (noData f start len)
      | skip => rfl
      | formatOnly => rfl
      | erase => rfl
  simp only [atCursor, cursor, noSpan]
  exact if_neg (by simp [used, live])

theorem State.atCursor_data {f : FormatId}
    (entry : (s.base.image cur.slot).entry cur.cylinder cur.head = some (.data f start len)) :
    s.atCursor p = .ok (cur, start, len) := by
  have span : ((s.base.image cur.slot).entry cur.cylinder cur.head).bind TrackEntry.span? = some (start, len) := by
    rw [entry]
    rfl
  simp only [atCursor, cursor, span]
  exact if_neg (by simp [used, live])

end

/-! READ DATA (R53). -/

theorem exec_readData {v : Byte} (ready : s.ready p) : exec (.readData p [v]) s = .next (doReadData p [v] s) :=
  next_station_ready .readData ready rfl

theorem doReadData_refused {v : Byte} {e : Status} (check : s.atCursor p = .error e) :
    doReadData p [v] s = s.refuse p e := by
  simp only [doReadData, check]

section

variable {v : Byte} (at0 : s.atCursor p = .ok (cur, start, len))

include at0

theorem doReadData_badCount (bad : v.toNat < 1 ∨ 248 < v.toNat) : doReadData p [v] s = s.refuse p .badValue := by
  simp only [doReadData, at0, num_head]
  exact if_pos bad

variable (count : 1 ≤ v.toNat ∧ v.toNat ≤ 248)

include count

theorem doReadData_past (past : len ≤ cur.offset) : doReadData p [v] s = s.reply p [] := by
  simp only [doReadData, at0, num_head]
  rw [if_neg (by omega), if_pos past]

theorem doReadData_inSpan (within : cur.offset < len) : doReadData p [v] s =
    s.startTransfer p { slot := cur.slot, openNumber := cur.openNumber, offset := start + cur.offset
                        kind := .read (min v.toNat (len - cur.offset)) [] } := by
  simp only [doReadData, at0, num_head]
  rw [if_neg (by omega), if_neg (by omega)]
  rfl

end

/-! WRITE DATA (R34, R52). -/

theorem exec_writeData {payload : List Byte} (ready : s.ready p) (low : 1 ≤ payload.length)
    (high : payload.length ≤ 248) : exec (.writeData p payload) s = .next (doWriteData p payload s) :=
  next_station_ready .writeData ready (by simp [Request.admits, low, high])

theorem doWriteData_refused {payload : List Byte} {e : Status} (check : s.atCursor p = .error e) :
    doWriteData p payload s = s.refuse p e := by
  simp only [doWriteData, check]

section

variable {payload : List Byte} (at0 : s.atCursor p = .ok (cur, start, len))

include at0

theorem doWriteData_notLoader (other : (s.base.image cur.slot).opening.map (·.loader) ≠ some p) :
    doWriteData p payload s = s.refuse p .notLoader := by
  simp only [doWriteData, at0]
  exact if_pos other

variable (loader : (s.base.image cur.slot).opening.map (·.loader) = some p)

include loader

theorem doWriteData_notLoading (other : (s.base.image cur.slot).state ≠ .loading) :
    doWriteData p payload s = s.refuse p .wrongImageState := by
  simp only [doWriteData, at0]
  rw [if_neg (not_not.mpr loader), if_pos other]

variable (loading : (s.base.image cur.slot).state = .loading)

include loading

theorem doWriteData_past (past : min payload.length (len - cur.offset) = 0) : doWriteData p payload s =
    (s.countWrite p cur payload.length (min payload.length (len - cur.offset))).reply p [0] := by
  simp only [doWriteData, at0]
  rw [if_neg (not_not.mpr loader), if_neg (not_not.mpr loading)]
  exact if_pos past

theorem doWriteData_inSpan (within : min payload.length (len - cur.offset) ≠ 0) : doWriteData p payload s =
    (s.countWrite p cur payload.length (min payload.length (len - cur.offset))).startTransfer p
      { slot := cur.slot, openNumber := cur.openNumber, offset := start + cur.offset
        kind := .write (payload.take (min payload.length (len - cur.offset))) 0 } := by
  simp only [doWriteData, at0]
  rw [if_neg (not_not.mpr loader), if_neg (not_not.mpr loading)]
  exact if_neg within

end

/-- SET CURSOR on a track of an open slot (R49). -/
theorem doSetCursor_open {payload : List Byte} {slot : SlotId} {c h offset : Nat} {e : TrackEntry}
    (slotRead : finOf? 8 (num payload 0 1) = some slot) (cylinder : num payload 1 1 = c) (head : num payload 2 1 = h)
    (offsetRead : num payload 3 3 = offset) (inRange : trackInRange c h)
    (opened : (s.base.image slot).openCheck = none) (entry : (s.base.image slot).entry c h = some e) :
    doSetCursor p payload s =
      { s with floor := s.floor.setPort p { s.floor.port p with
        cursor := some { slot := slot, openNumber := (s.base.image slot).openNumber, cylinder := c, head := h
                         offset := offset } } }.reply p (e.code :: be 4 ((e.span?.map Prod.snd).getD 0)) := by
  unfold trackInRange at inRange
  simp only [doSetCursor, slotRead, cylinder, head, offsetRead, opened, entry]
  exact if_neg (by omega)

end

/-- Settles O31: each request at the cursor by the check of R50 it meets. -/
theorem dataRequestsWorkAtTheCursor : Obligations.DataRequestsWorkAtTheCursor := by
  unfold Obligations.DataRequestsWorkAtTheCursor
  refine ⟨fun p slot c h offset e s ready cylinder head low opened entry => ?_,
    fun p count cur f start len s ready few many cursor used live entry => ?_,
    fun p payload cur f start len s ready few many cursor loading live loader entry => ?_,
    fun p data count s ready few many => ?_⟩
  · have cylinderRead : (byte c).toNat = c := byte_toNat_of_lt (by omega)
    have headRead : (byte h).toNat = h := byte_toNat_of_lt (by omega)
    rw [exec_setCursor ready (by simp), doSetCursor_open (offset := offset) (by rw [num_head, slot_of_byte])
      (by rw [num_tail, num_head, cylinderRead]) (by rw [num_tail, num_tail, num_head, headRead]) _ ⟨cylinder, head⟩
      (ImageSlot.openCheck_eq_none opened) entry]
    exact (num_be_all 3 offset).trans (Nat.mod_eq_of_lt (by omega))
  · have at0 := State.atCursor_data cursor used live entry
    have countRead : (byte count).toNat = count := byte_toNat_of_lt (by omega)
    have inRange : 1 ≤ (byte count).toNat ∧ (byte count).toNat ≤ 248 := by omega
    rw [exec_readData ready]
    refine ⟨fun past => by rw [doReadData_past at0 inRange past], fun within => ?_⟩
    rw [doReadData_inSpan at0 inRange within, countRead]
    rfl
  · have used : (s.base.image cur.slot).state ≠ .free := by rw [loading]; decide
    have at0 := State.atCursor_data cursor used live entry
    rw [exec_writeData ready few many]
    refine ⟨fun past => ?_, fun within => ?_⟩
    · rw [doWriteData_past at0 loader loading past, State.reply, Floor.answer, State.countWrite]
      simp only [Floor.port_setPort_same, Floor.setPort_setPort]
      rfl
    · rw [doWriteData_inSpan at0 loader loading within, State.startTransfer, State.countWrite]
      simp only [Floor.port_setPort_same, Floor.setPort_setPort]
      rfl
  · intro im
    have refused {e : Status} (check : s.atCursor p = .error e) :
        exec (.readData p [count]) s = .next (s.refuse p e) ∧ exec (.writeData p data) s = .next (s.refuse p e) :=
      ⟨by rw [exec_readData ready, doReadData_refused check],
        by rw [exec_writeData ready few many, doWriteData_refused check]⟩
    refine ⟨fun none => refused (State.atCursor_none none), fun cur cursor =>
      ⟨fun dead => refused (State.atCursor_dead cursor dead), fun used live =>
        ⟨fun noData => refused (State.atCursor_noTrack cursor used live noData), fun f start len entry => ?_⟩⟩⟩
    have at0 := State.atCursor_data cursor used live entry
    refine ⟨fun bad => ?_, fun other => ?_, fun loader notLoading => ?_⟩
    · rw [exec_readData ready, doReadData_badCount at0 bad]
    · rw [exec_writeData ready few many, doWriteData_notLoader at0 other]
    · rw [exec_writeData ready few many, doWriteData_notLoading at0 loader notLoading]

end Sys2Proof.Machine

/-! SUPPORT. DELETE IMAGE (R30, R58, R59): the region a deletion frees, and the checks the idle unit then takes. -/

namespace Sys2Proof.Machine

/-! A freed region and its neighbours (R30). -/

theorem mergeFree_cons_besides {r : Region} {rest : List Region} (h : ∀ q ∈ (mergeFree rest).head?, r.besides q) :
    mergeFree (r :: rest) = r :: mergeFree rest := by
  rcases mergeFree_cons r rest with ⟨-, same⟩ | ⟨q, qs, tail, free, next, -⟩
  · exact same
  · exact absurd ⟨free, next⟩ (h q (by rw [tail]; rfl))

theorem mergeFree_cons_joined {r q : Region} {rest qs : List Region} (tail : mergeFree rest = q :: qs)
    (free : r.owner = none) (next : q.owner = none) :
    mergeFree (r :: rest) = { r with length := r.length + q.length } :: qs := by
  rw [mergeFree_cons_free rest free, tail]
  exact if_pos next

theorem mergeFree_append {before tail : List Region} (h : (before ++ mergeFree tail).IsChain Region.besides) :
    mergeFree (before ++ tail) = before ++ mergeFree tail := by
  induction before with
  | nil => rfl
  | cons r before ih =>
    have merged := ih (List.IsChain.tail h)
    rw [List.cons_append, mergeFree_cons_besides, merged, List.cons_append]
    rw [merged]
    exact (List.isChain_cons.mp h).1

theorem mergeFree_of_chain {regions : List Region} (h : regions.IsChain Region.besides) :
    mergeFree regions = regions := by
  simpa [mergeFree] using mergeFree_append (tail := []) (by simpa [mergeFree] using h)

/-- A FREE region joins the FREE region before it, if there is one, and those after it. -/
theorem mergeFree_around {before left right after : List Region} {r : Region} (free : r.owner = none)
    (chainBefore : (before ++ left).IsChain Region.besides) (chainAfter : (right ++ after).IsChain Region.besides)
    (oneLeft : left.length ≤ 1) (oneRight : right.length ≤ 1) (neighbours : ∀ q ∈ left ++ right, q.owner = none)
    (endLeft : left = [] → ∀ q ∈ before.getLast?, q.owner ≠ none)
    (endRight : right = [] → ∀ q ∈ after.head?, q.owner ≠ none) :
    mergeFree (before ++ (left ++ r :: (right ++ after))) = before ++
      { base := (left.headD r).base, length := ((left ++ r :: right).map Region.length).sum, owner := none } ::
        after := by
  obtain ⟨base, length, owner⟩ := r
  cases free
  have ownedAfter : ∀ q ∈ after.head?, q.owner ≠ none := by
    match right, oneRight with
    | [], _ => exact endRight rfl
    | [q], _ => exact fun x hx free =>
        (List.isChain_cons.mp chainAfter).1 x hx ⟨neighbours q (by simp), free⟩
  have ownedBefore : ∀ q ∈ before.getLast?, q.owner ≠ none := by
    match left, oneLeft with
    | [], _ => exact endLeft rfl
    | [q], _ => exact fun x hx free =>
        (List.isChain_append.mp chainBefore).2.2 x hx q rfl ⟨free, neighbours q (by simp)⟩
  have afterMerged : mergeFree after = after := mergeFree_of_chain (List.isChain_append.mp chainAfter).2.1
  have joinRight : mergeFree (⟨base, length, none⟩ :: (right ++ after)) =
      ⟨base, length + (right.map Region.length).sum, none⟩ :: after := by
    match right, oneRight with
    | [], _ =>
      rw [List.nil_append, mergeFree_cons_besides, afterMerged]
      · rfl
      · rw [afterMerged]
        exact fun q hq both => ownedAfter q hq both.2
    | [q], _ =>
      have alone := mergeFree_of_chain chainAfter
      rw [mergeFree_cons_joined alone rfl (neighbours q (by simp))]
      rfl
  have joinLeft : mergeFree (left ++ ⟨base, length, none⟩ :: (right ++ after)) =
      ⟨(left.headD ⟨base, length, none⟩).base,
        ((left ++ ⟨base, length, none⟩ :: right).map Region.length).sum, none⟩ :: after := by
    match left, oneLeft with
    | [], _ => simpa using joinRight
    | [q], _ =>
      have free := neighbours q (by simp)
      rw [List.cons_append, List.nil_append, mergeFree_cons_joined joinRight free rfl]
      simp [← free]
  rw [mergeFree_append, joinLeft]
  rw [joinLeft, List.isChain_append]
  refine ⟨(List.isChain_append.mp chainBefore).1, ?_, ?_⟩
  · exact List.isChain_cons.mpr ⟨fun q hq both => ownedAfter q hq both.2, (List.isChain_append.mp chainAfter).2.1⟩
  · exact fun x hx y hy both => ownedBefore x hx both.1

theorem map_free_others {l : List Region} {slot : SlotId} (others : ∀ q ∈ l, q.owner ≠ some slot) :
    (l.map fun q => if q.owner = some slot then { q with owner := none } else q) = l := by
  conv_rhs => rw [← List.map_id l]
  exact List.map_congr_left fun q hq => if_neg (others q hq)

/-- The one region of a slot, freed, joins its FREE neighbours. -/
theorem freeRegion_around {slot : SlotId} {before left right after : List Region} {r : Region}
    (law : apart (before ++ left ++ r :: (right ++ after)) = true) (owned : r.owner = some slot)
    (others : ∀ q ∈ before ++ left ++ right ++ after, q.owner ≠ some slot)
    (oneLeft : left.length ≤ 1) (oneRight : right.length ≤ 1) (neighbours : ∀ q ∈ left ++ right, q.owner = none)
    (endLeft : left = [] → ∀ q ∈ before.getLast?, q.owner ≠ none)
    (endRight : right = [] → ∀ q ∈ after.head?, q.owner ≠ none) :
    freeRegion slot (before ++ left ++ r :: (right ++ after)) = before ++
      { base := (left.headD r).base, length := ((left ++ r :: right).map Region.length).sum, owner := none } ::
        after := by
  obtain ⟨chainBefore, chainAfter, -⟩ := List.isChain_append.mp ((apart_iff _).mp law)
  have freed : (before ++ left ++ r :: (right ++ after)).map
      (fun q => if q.owner = some slot then { q with owner := none } else q) =
      before ++ (left ++ { r with owner := none } :: (right ++ after)) := by
    simp only [List.append_assoc, List.mem_append] at others
    rw [List.map_append, List.map_append, List.map_cons, List.map_append, if_pos owned,
      map_free_others fun q hq => others q (.inl hq), map_free_others fun q hq => others q (.inr (.inl hq)),
      map_free_others fun q hq => others q (.inr (.inr (.inl hq))),
      map_free_others fun q hq => others q (.inr (.inr (.inr hq))), List.append_assoc]
  rw [freeRegion, freed, mergeFree_around rfl chainBefore chainAfter.tail oneLeft oneRight neighbours endLeft endRight]
  cases left <;> simp

/-! The checks an idle unit takes (R55, entry 12). -/

theorem State.runChecks_busy (n : Nat) {s : State} {k : ImageCheck} (busy : s.base.check = some k) :
    s.runChecks n = s := by
  cases n with
  | zero => rfl
  | succ n => simp only [runChecks, busy]

theorem State.runChecks_done (n : Nat) {s : State} (list : s.base.checkList = []) : s.runChecks n = s := by
  cases n with
  | zero => rfl
  | succ n =>
    unfold runChecks
    split
    · next slot rest _ more => rw [list] at more; cases more
    · rfl

theorem State.runChecks_takes (n : Nat) {s : State} {slot : SlotId} {rest : List SlotId} (idle : s.base.check = none)
    (list : s.base.checkList = slot :: rest) (some : (s.base.image slot).spans ≠ []) :
    s.runChecks (n + 1) = { s with base := s.base.takeCheck slot rest } := by
  simp only [runChecks, idle, list, List.isEmpty_iff, if_neg some]
  rfl

/-- The state after the idle unit took a slot with no bytes to read. -/
def State.passedCheck (s : State) (slot : SlotId) (rest : List SlotId) : State :=
  { s with base := { s.base with checkList := rest } }.finishCheck slot crc32Preset

theorem State.runChecks_passes (n : Nat) {s : State} {slot : SlotId} {rest : List SlotId} (idle : s.base.check = none)
    (list : s.base.checkList = slot :: rest) (none : (s.base.image slot).spans = []) :
    s.runChecks (n + 1) = (s.passedCheck slot rest).runChecks n := by
  simp only [runChecks, idle, list, List.isEmpty_iff, if_pos none]
  rfl

/-- The event of a slot that has no bytes to check: its expected check is 0 or it is not. -/
def ImageSlot.emptyEvent (im : ImageSlot) : EventKind := if im.expected = some 0 then .imageReady else .imageBad

theorem crc32Result_preset : crc32Result crc32Preset = 0 := by decide

theorem State.passedCheck_base (s : State) (slot : SlotId) (rest : List SlotId) (idle : s.base.check = none) :
    (s.passedCheck slot rest).base =
      { s.base.setImage slot ((s.base.image slot).checked crc32Preset) with checkList := rest } := by
  rw [passedCheck, finishCheck_base]
  exact congrArg (fun c => { s.base.setImage slot ((s.base.image slot).checked crc32Preset) with
    checkList := rest, check := c }) idle.symm

theorem State.passedCheck_floor (s : State) (slot : SlotId) (rest : List SlotId) :
    (s.passedCheck slot rest).floor = s.floor.post (s.base.image slot).emptyEvent := by
  simp only [passedCheck, finishCheck, crc32Result_preset, decide_eq_true_eq, ImageSlot.emptyEvent]
  rfl

/-- A check that has passed over a slot shows in it, and in no other. -/
theorem State.passedCheck_image (s : State) (slot : SlotId) (rest : List SlotId) (l : SlotId) :
    (s.passedCheck slot rest).base.image l =
      if l = slot then (s.base.image l).checked crc32Preset else s.base.image l := by
  rw [passedCheck, finishCheck_base]
  split
  · next same => subst same; exact Base.image_setImage_same s.base l _
  · next other => exact Base.image_setImage_other s.base slot l _ other

/-- The idle unit has taken slots with no bytes to read and stands before the rest of its list. -/
structure State.Passed (front back : List SlotId) (s t : State) : Prop where
  pending : t.pending = s.pending
  mem : t.mem = s.mem
  base : t.base = { s.base with images := t.base.images, checkList := back, check := none }
  done : ∀ l ∈ front, t.base.image l = (s.base.image l).checked crc32Preset
  others : ∀ l ∉ front, t.base.image l = s.base.image l
  floor : t.floor = front.foldl (fun f l => f.post (s.base.image l).emptyEvent) s.floor

theorem State.Passed.cons {front back : List SlotId} {slot : SlotId} {s t : State} (idle : s.base.check = none)
    (h : Passed front back (s.passedCheck slot (front ++ back)) t) : Passed (slot :: front) back s t where
  pending := h.pending
  mem := h.mem
  base := by rw [h.base, passedCheck_base s slot _ idle]; rfl
  done l hl := by
    by_cases again : l ∈ front
    · rw [h.done l again, passedCheck_image]
      split <;> rfl
    · have same := (List.mem_cons.mp hl).resolve_right again
      rw [h.others l again, passedCheck_image, if_pos same]
  others l hl := by
    obtain ⟨other, rest⟩ := not_or.mp (mt List.mem_cons.mpr hl)
    rw [h.others l rest, passedCheck_image, if_neg other]
  floor := by
    have same (l : SlotId) : ((s.passedCheck slot (front ++ back)).base.image l).emptyEvent =
        (s.base.image l).emptyEvent := by
      rw [passedCheck_image]
      split <;> rfl
    rw [h.floor, passedCheck_floor, List.foldl_cons]
    simp only [same]

theorem State.runChecks_front (front : List SlotId) {back : List SlotId} (n : Nat) (s : State)
    (idle : s.base.check = none) (list : s.base.checkList = front ++ back)
    (none : ∀ l ∈ front, (s.base.image l).spans = []) :
    ∃ t, s.runChecks (front.length + n) = t.runChecks n ∧ Passed front back s t := by
  induction front generalizing s with
  | nil =>
    refine ⟨s, by rw [List.length_nil, Nat.zero_add], rfl, rfl, ?_, nofun, fun _ _ => rfl, rfl⟩
    rw [List.nil_append] at list
    rw [← list, ← idle]
  | cons slot front ih =>
    obtain ⟨first, rest⟩ := List.forall_mem_cons.mp none
    obtain ⟨t, runs, passed⟩ := ih (s.passedCheck slot (front ++ back)) (by rw [passedCheck, finishCheck_base])
      (by rw [passedCheck_base s slot _ idle]) fun l hl => by
        rw [passedCheck_image]
        split
        · exact rest l hl
        · exact rest l hl
    have begins : s.base.checkList = slot :: (front ++ back) := list
    refine ⟨t, ?_, passed.cons idle⟩
    rw [List.length_cons, Nat.add_right_comm, runChecks_passes _ idle begins first, runs]

/-- The idle unit passes over the slots with no bytes to read and takes the first that has some. -/
theorem State.nextCheck_spec {s : State} {front back : List SlotId} (idle : s.base.check = none)
    (list : s.base.checkList = front ++ back) (none : ∀ l ∈ front, (s.base.image l).spans = [])
    (first : ∀ l ∈ back.head?, l ∉ front ∧ (s.base.image l).spans ≠ []) :
    ∃ t, Passed front back s t ∧ s.nextCheck = { t with base := { t.base with
      checkList := back.drop 1
      check := back.head?.map fun l =>
        { slot := l, crc := crc32Preset, spans := (s.base.image l).spans, bytesRead := 0 } } } := by
  obtain ⟨t, runs, passed⟩ := State.runChecks_front front back.length s idle list none
  refine ⟨t, passed, ?_⟩
  have checkList : t.base.checkList = back := by rw [passed.base]
  have check : t.base.check = Option.none := by rw [passed.base]
  rw [nextCheck, list, List.length_append, runs]
  cases back with
  | nil =>
    rw [State.runChecks_done _ checkList]
    show t = { t with base := { t.base with checkList := [], check := Option.none } }
    rw [← checkList, ← check]
  | cons l rest =>
    obtain ⟨fresh, some⟩ := first l rfl
    have same := passed.others l fresh
    rw [List.length_cons, State.runChecks_takes _ check checkList (by rwa [same]), Base.takeCheck, same]
    rfl

/-! DELETE IMAGE (R58). -/

section

variable {p : PortId} {s : State} {slot : SlotId} {v : Byte} (read : finOf? 8 v.toNat = some slot)
  (used : (s.base.image slot).state ≠ .free)

include read used

theorem doDeleteImage_inUse (named : 0 < (s.base.image slot).refCount) :
    doDeleteImage p [v] s = s.refuse p .imageInUse := by
  simp only [doDeleteImage, num_head, read]
  rw [if_neg used, if_pos named]

theorem doDeleteImage_unused (unnamed : (s.base.image slot).refCount = 0) : doDeleteImage p [v] s =
    ({ s.abandon slot with base := (s.base.abandoned slot).deleteImage slot }.reply p []).nextCheck := by
  simp only [doDeleteImage, num_head, read]
  rw [if_neg used, if_neg (by omega), State.abandon_base]

end

theorem BurstWork.isClearOf_iff (work : BurstWork) (slot : SlotId) : work.isClearOf slot = true ↔ work = .clear slot := by
  cases work <;> simp [isClearOf]

theorem BurstWork.isCheck_iff (work : BurstWork) : work.isCheck = true ↔ work = .check := by
  cases work <;> simp [isCheck]

theorem Floor.orphanBurst_none {f : Floor} (mine : BurstWork → Bool) (idle : f.burst = none) :
    f.orphanBurst mine = f := by
  rw [orphanBurst_eq, idle]
  exact congrArg (fun b => { f with burst := b }) idle.symm

theorem Floor.orphanBurst_some {f : Floor} {w : Burst} (mine : BurstWork → Bool) (busy : f.burst = some w) :
    f.orphanBurst mine = { f with burst := some { w with live := w.live && !mine w.work } } := by
  rw [orphanBurst_eq, busy]
  cases h : mine w.work <;> simp [h]

/-- A deleted slot, its open number kept. -/
def ImageSlot.emptied (im : ImageSlot) : ImageSlot := { ImageSlot.reset with openNumber := im.openNumber }

/-- The state of a deletion, before the idle unit takes its next slot. -/
def State.deleted (s : State) (p : PortId) (slot : SlotId) : State :=
  { s with
    base := { s.base.setImage slot (s.base.image slot).emptied with
      store := { s.base.store with
        regions := freeRegion slot s.base.store.regions
        clearing := s.base.store.clearing.filter fun w => decide (w.slot ≠ slot) }
      checkList := s.base.checkList.filter fun l => decide (l ≠ slot)
      check := if s.base.check.map (·.slot) = some slot then none else s.base.check }
    floor := (s.floor.orphanBurst fun w =>
      w.isClearOf slot || (decide (s.base.check.map (·.slot) = some slot) && w.isCheck)).answer p
        { status := .ok, payload := [] } }

theorem exec_deleteImage_unused {p : PortId} {s : State} {slot : SlotId} (ready : s.ready p)
    (used : (s.base.image slot).state ≠ .free) (unnamed : (s.base.image slot).refCount = 0) :
    exec (.deleteImage p [byte slot.val]) s = .next (s.deleted p slot).nextCheck := by
  rw [exec_deleteImage ready, doDeleteImage_unused (slot_of_byte slot) used unnamed]
  rfl

theorem State.deleted_image_same (s : State) (p : PortId) (slot : SlotId) :
    (s.deleted p slot).base.image slot = (s.base.image slot).emptied :=
  Base.image_setImage_same s.base slot _

theorem State.deleted_image_other (s : State) (p : PortId) {slot l : SlotId} (other : l ≠ slot) :
    (s.deleted p slot).base.image l = s.base.image l :=
  Base.image_setImage_other s.base slot l _ other

/-- Settles O33: the deletion by `doDeleteImage_unused`, the checks it lets the unit take by `State.nextCheck_spec`, and
the region by `freeRegion_around`. -/
theorem deleteImageFreesTheSlot : Obligations.DeleteImageFreesTheSlot := by
  unfold Obligations.DeleteImageFreesTheSlot
  refine ⟨fun p slot s ready used => ?_, fun slot before left r right after => ?_,
    fun f mine => ⟨Floor.orphanBurst_none mine, fun w => Floor.orphanBurst_some mine⟩,
    fun slot work => ⟨work.isClearOf_iff slot, work.isCheck_iff⟩⟩
  · intro send emptied freed waiting ok
    refine ⟨fun named => ?_, fun k unnamed check other => ?_, fun front back unnamed check list none first => ?_⟩
    · exact (exec_deleteImage ready).trans (congrArg _ (doDeleteImage_inUse (slot_of_byte slot) used named))
    · have elsewhere : s.base.check.map (·.slot) ≠ some slot := by simpa [check] using other
      refine (exec_deleteImage_unused ready used unnamed).trans (congrArg _ ?_)
      rw [State.nextCheck, State.runChecks_busy (k := k)]
      · simp only [State.deleted, if_neg elsewhere, decide_eq_false elsewhere, Bool.false_and, Bool.or_false]
        rfl
      · exact (if_neg elsewhere).trans check
    · have idle : (s.deleted p slot).base.check = Option.none := by
        show (if _ then _ else _) = _
        split
        · rfl
        · next elsewhere =>
          cases under : s.base.check with
          | none => rfl
          | some k => exact absurd (by rw [under]; exact congrArg some (check k under)) elsewhere
      have apart {l : SlotId} (hl : l ∈ front ++ back) : l ≠ slot := by
        rw [← list] at hl
        exact of_decide_eq_true (List.mem_filter.mp hl).2
      have image {l : SlotId} (hl : l ∈ front ++ back) : (s.deleted p slot).base.image l = s.base.image l :=
        s.deleted_image_other p (apart hl)
      have frontImage {l : SlotId} (hl : l ∈ front) := image (List.mem_append_left back hl)
      have headImage {l : SlotId} (hl : l ∈ back.head?) :=
        image (List.mem_append_right front (List.mem_of_mem_head? hl))
      have notSlot : slot ∉ front := fun hl => apart (List.mem_append_left back hl) rfl
      obtain ⟨t, passed, next⟩ := State.nextCheck_spec idle list (fun l hl => by rw [frontImage hl, none l hl])
        fun l hl => ⟨fun again => first l hl (none l again), by rw [headImage hl]; exact first l hl⟩
      refine ⟨_, (exec_deleteImage_unused ready used unnamed).trans (congrArg _ next), passed.pending, passed.mem,
        ?_, ?_, ?_, ?_, ?_⟩
      · have taken : (back.head?.map fun l => (⟨l, crc32Preset, ((s.deleted p slot).base.image l).spans, 0⟩ : ImageCheck)) =
            back.head?.map fun l => ⟨l, crc32Preset, (s.base.image l).spans, 0⟩ :=
          Option.map_congr fun l hl => by rw [headImage hl]
        simp only [taken]
        rw [passed.base]
        rfl
      · exact (passed.others slot notSlot).trans (s.deleted_image_same p slot)
      · intro l hl
        refine (passed.done l hl).trans ?_
        rw [frontImage hl, ImageSlot.checked, crc32Result_preset]
      · exact fun l other hl => (passed.others l hl).trans (s.deleted_image_other p other)
      · have under : decide (s.base.check.map (·.slot) = some slot) = s.base.check.isSome := by
          cases held : s.base.check with
          | none => rfl
          | some k => simp [check k held]
        refine passed.floor.trans ?_
        rw [List.foldl_ext _ (fun f l => f.post (s.base.image l).emptyEvent) _ fun f l hl => by rw [frontImage hl]]
        rw [State.deleted, under]
        rfl
  · intro regions unowned law owned others oneLeft oneRight neighbours endLeft endRight
    exact freeRegion_around law owned others oneLeft oneRight neighbours endLeft endRight

end Sys2Proof.Machine

/-! SUPPORT. Timers that expire (R36, R102, R103, R106, R110, R111). -/

namespace Sys2Proof.Machine

theorem timerExpired_iff (t : Option Nat) : timerExpired t = true ↔ t = some 0 := by
  simp [timerExpired]

theorem timerExpired_not {t : Option Nat} (h : t ≠ some 0) : timerExpired t = false := by
  simpa [timerExpired] using h

section

variable {s : State} {c : Chan}

theorem State.taken_running (running : s.base.resetActive = false) (g : State → State) : s.taken g = g s := by
  simp [taken, running]

theorem State.channelEvent_occurs (running : s.base.resetActive = false) {occurs : Bool} (h : occurs = true)
    (g : Base → Floor → Floor) : s.channelEvent occurs g = { s with floor := g s.base s.floor }.settle := by
  rw [channelEvent, taken_running running, if_pos h]

theorem State.channelEvent_idle (running : s.base.resetActive = false) {occurs : Bool} (h : occurs = false)
    (g : Base → Floor → Floor) : s.channelEvent occurs g = s := by
  rw [channelEvent, taken_running running, h]
  rfl

/-! The step timer (R102, R111). -/

variable {f : Floor} {b : Base}

theorem Floor.stepExpiry_recal (recal : (f.chan c).state = .recal) : f.stepExpiry b c =
    (f.setChan c { f.chan c with stepTimer := none }).recalSample b c := by
  unfold stepExpiry
  simp only
  split
  · rfl
  · next producing _ => cases recal.symm.trans producing
  · next other _ => exact absurd recal other

theorem Floor.stepExpiry_seek {target : Nat} (producing : (f.chan c).state = .producing)
    (seek : (f.chan c).seekTarget = some target) : f.stepExpiry b c =
      f.setChan c ({ f.chan c with stepTimer := none }.continueSeek target) := by
  simp only [stepExpiry, producing, seek, modChan, setChan_setChan, chan_setChan_same]

theorem Floor.recalSample_step (off : b.trk0.getLsbD c.val = false) (more : (f.chan c).recalSteps < 90) :
    f.recalSample b c = f.setChan c (f.chan c).recalStep := by
  rw [recalSample, if_neg (by rw [off]; exact Bool.false_ne_true), if_neg (by simpa [maxRecalSteps] using more), modChan]

theorem Floor.recalSample_last (off : b.trk0.getLsbD c.val = false) (last : 90 ≤ (f.chan c).recalSteps) :
    f.recalSample b c = f.abortDisk c .noTrack0 := by
  rw [recalSample, if_neg (by rw [off]; exact Bool.false_ne_true)]
  exact if_pos last

theorem Floor.boundaryHere_disk {k : Disk} (disk : (f.chan c).disk = some k) :
    f.boundaryHere b c = f.boundary b c ((b.image k.slot).trackIndex k.cylinder k.head) := by
  simp only [boundaryHere, disk]

theorem Floor.recalSample_done {k : Disk} (on : b.trk0.getLsbD c.val = true) (disk : (f.chan c).disk = some k) :
    f.recalSample b c = (f.setChan c { f.chan c with cylinder := some 0, stepTimer := none }).boundary b c
      ((b.image k.slot).trackIndex k.cylinder k.head) := by
  rw [recalSample, if_pos on, recalDone]
  exact boundaryHere_disk ((congrArg Channel.disk (f.chan_setChan_same c _)).trans disk)

theorem exec_stepTimerExpiry (running : s.base.resetActive = false) (due : (s.floor.chan c).stepTimer = some 0) :
    exec (.stepTimerExpiry c) s = .next { s with floor := s.floor.stepExpiry s.base c }.settle :=
  congrArg _ (State.channelEvent_occurs running ((timerExpired_iff _).mpr due) _)

/-! The refresh timer (R36). -/

theorem Store.refreshExpiry_due {t : Store} (due : 156 ≤ t.refreshPhase) :
    t.refreshExpiry = { t with refreshPhase := t.refreshPhase - 156, refreshOwed := true } := if_pos due

theorem Store.refreshExpiry_early {t : Store} (early : t.refreshPhase < 156) : t.refreshExpiry = t :=
  if_neg (Nat.not_le.mpr early)

end

/-- Settles O48: each timer's expiry by what it does on the floor. -/
theorem timersExpireOnceDue : Obligations.TimersExpireOnceDue := by
  unfold Obligations.TimersExpireOnceDue
  refine ⟨fun c s running => ⟨fun due => ?_, fun early => ?_, fun due => ?_, fun early => ?_, fun due settling => ?_,
    fun early => ?_⟩, fun c s running => ⟨fun target at0 due producing seek place => ?_, fun due recal off => ?_,
      fun k due recal on disk => ?_, fun early => ?_, fun due => ?_, fun early => ?_, fun due => ?_, fun early => ?_⟩⟩
  · rw [exec, execRefreshTimerExpiry, State.taken_running running, Store.refreshExpiry_due due]
  · rw [exec, execRefreshTimerExpiry, State.taken_running running, Store.refreshExpiry_early early]
  · rw [exec, execStepPulseTimerExpiry, State.taken_running running, if_pos ((timerExpired_iff _).mpr due)]
    rfl
  · rw [exec, execStepPulseTimerExpiry, State.taken_running running, timerExpired_not early]
    rfl
  · rw [exec, execSettleTimerExpiry, State.taken_running running, if_pos ((timerExpired_iff _).mpr due), Floor.modChan,
      Channel.settleExpiry, if_pos settling]
  · rw [exec, execSettleTimerExpiry, State.taken_running running, timerExpired_not early]
    rfl
  · have expired := exec_stepTimerExpiry running due
    rw [Floor.stepExpiry_seek producing seek, Channel.continueSeek] at expired
    refine ⟨fun there wait => ?_, fun there noWait => ?_, fun away => ?_⟩
    · rw [if_pos (by rw [place, there]), Channel.startSettle, if_neg wait] at expired
      exact expired
    · rw [if_pos (by rw [place, there]), Channel.startSettle, if_pos noWait] at expired
      exact expired
    · rw [if_neg (by simpa [place] using away), Channel.issueStep] at expired
      simp only [place, Option.getD_some] at expired
      exact expired
  · have expired := exec_stepTimerExpiry running due
    rw [Floor.stepExpiry_recal recal] at expired
    refine ⟨fun more => ?_, fun last => ?_⟩
    · rw [Floor.recalSample_step off (by rwa [Floor.chan_setChan_same]), Floor.chan_setChan_same,
        Floor.setChan_setChan] at expired
      exact expired
    · rw [Floor.recalSample_last off (by rwa [Floor.chan_setChan_same])] at expired
      exact expired
  · have expired := exec_stepTimerExpiry running due
    rw [Floor.stepExpiry_recal recal, Floor.recalSample_done on (by rwa [Floor.chan_setChan_same]),
      Floor.chan_setChan_same, Floor.setChan_setChan] at expired
    exact expired
  · exact congrArg _ (State.channelEvent_idle running (timerExpired_not early) _)
  · refine (congrArg _ (State.channelEvent_occurs running ((timerExpired_iff _).mpr due) _)).trans ?_
    simp only [Floor.spinupExpiry, Option.isNone_iff_eq_none]
    rfl
  · exact congrArg _ (State.channelEvent_idle running (timerExpired_not early) _)
  · exact congrArg _ (State.channelEvent_occurs running ((timerExpired_iff _).mpr due) _)
  · exact congrArg _ (State.channelEvent_idle running (timerExpired_not early) _)

end Sys2Proof.Machine

/-! SUPPORT. The part after a reset: nothing under way, and every law of it (R185). -/

namespace Sys2Proof.Machine

/-- Nothing is under way: every slot of the store stands at its reset values, no job, plan, disk, transfer or burst. -/
structure State.Bare (s : State) (blocks : Nat) : Prop where
  low : 1 ≤ blocks
  store : s.base.store = Store.reset blocks
  image : ∀ k, s.base.image k = ImageSlot.reset
  list : s.base.checkList = []
  check : s.base.check = none
  jobs : s.floor.jobs = []
  waiting : s.floor.waiting = []
  engine : s.floor.engine = { queue := [], building := none }
  chan : ∀ c, s.floor.chan c = Channel.reset
  port : ∀ p, s.floor.port p = PortContext.reset
  burst : s.floor.burst = none

namespace State.Bare

variable {s : State} {blocks : Nat} (h : s.Bare blocks)

include h

theorem jobLaw : s.JobLaw where
  jobs :=
    { few := by rw [h.jobs]; exact Nat.zero_le 8
      distinct := by rw [h.jobs]; exact List.nodup_nil
      counts := by rw [h.jobs]; exact nofun
      targets := by rw [h.jobs]; exact nofun
      inFlight := by rw [h.jobs]; exact nofun
      owned := fun c k => by rw [h.chan c]; exact nofun
      held := fun c => by rw [h.chan c]; rfl
      posting := fun c => by rw [h.chan c]; rfl
      record := fun c body => by rw [h.chan c]; exact nofun }
  serials :=
    { numbers := by rw [h.jobs]; exact nofun
      plain := by rw [h.jobs]; exact nofun
      record := fun c body => by rw [h.chan c]; exact nofun }
  waiting := ⟨by rw [h.waiting]; exact List.nodup_nil,
    fun c => by rw [h.waiting, h.chan c]; exact iff_of_false nofun nofun⟩
  references k := by rw [h.jobs, h.image]; rfl

theorem ownLaw : s.base.OwnLaw :=
  .ofFree h.low h.store (fun k => congrArg ImageSlot.state (h.image k))
    (fun k => congrArg ImageSlot.opening (h.image k)) h.list h.check

theorem spanLaw : s.base.SpanLaw where
  mark k := by rw [h.image]; exact Nat.zero_le _
  none k _ := by rw [h.image]; rfl
  span k f offset len := by rw [h.image]; exact nofun
  cleared := by rw [h.store]; exact nofun
  check k := by rw [h.check]; exact nofun

theorem storeLaw : s.StoreLaw where
  jobs := h.jobLaw
  own := h.ownLaw
  spans := h.spanLaw
  transfers p t := by rw [h.port]; exact nofun
  plans :=
    { queued := by rw [h.engine]; exact nofun
      built := by rw [h.engine]; exact nofun
      once := by rw [h.engine]; exact List.nodup_nil
      seek := fun c => by rw [h.chan]; exact nofun }
  fetches :=
    { idle := fun c _ => by rw [h.chan]; exact ⟨rfl, rfl⟩
      fetch := fun c k => by rw [h.chan]; exact nofun
      plan := fun c k p => by rw [h.chan]; exact nofun }
  burst :=
    { inside := by rw [h.burst]; exact nofun
      reset := fun _ => h.burst
      write := by rw [h.burst]; exact nofun
      read := by rw [h.burst]; exact nofun }

end State.Bare

theorem State.reset_bare : State.reset.Bare 1024 where
  low := by decide
  store := rfl
  image := Base.image_reset 1024
  list := rfl
  check := rfl
  jobs := rfl
  waiting := rfl
  engine := rfl
  chan c := by simp [State.reset, Floor.chan, Floor.reset]
  port p := by cases p <;> rfl
  burst := rfl

/-- Settles O13: nothing is under way after reset (`State.Bare`). -/
theorem resetMeetsTheLaws : Obligations.ResetMeetsTheLaws := by
  have bare := State.reset_bare
  exact ⟨rfl, by decide, Store.regionLaw_reset bare.low, rfl, by decide, by decide, bare.jobLaw, bare.ownLaw,
    bare.storeLaw, fun p t => by rw [bare.port]; exact nofun⟩

/-! POWER_ON. -/

/-- The floor a power-on leaves, before SEATED is examined. -/
def State.poweredFloor (s : State) (pins : PinLevels) : Floor :=
  { Floor.reset with
    freeDraws := s.floor.freeDraws
    drives := #v[DriveLines.reset (pins.seated.getLsbD 0), DriveLines.reset (pins.seated.getLsbD 1),
      DriveLines.reset (pins.seated.getLsbD 2), DriveLines.reset (pins.seated.getLsbD 3),
      DriveLines.reset (pins.seated.getLsbD 4), DriveLines.reset (pins.seated.getLsbD 5),
      DriveLines.reset (pins.seated.getLsbD 6), DriveLines.reset (pins.seated.getLsbD 7)]
    line := { internal := false, recorded := pins.handlerHolds, handler := pins.handlerHolds } }

theorem State.powerOn_floor (s : State) (pins : PinLevels) : (s.powerOn pins).floor =
    if s.base.resetActive then s.poweredFloor pins else (s.poweredFloor pins).endReset := rfl

theorem State.poweredFloor_chan (s : State) (pins : PinLevels) (c : Chan) :
    (s.poweredFloor pins).chan c = Channel.reset := by
  simp [poweredFloor, Floor.chan, Floor.reset]

theorem State.poweredFloor_drive (s : State) (pins : PinLevels) (c : Chan) :
    (s.poweredFloor pins).drive c = DriveLines.reset (pins.seated.getLsbD c.val) := by
  fin_cases c <;> rfl

theorem State.powerOn_chan (s : State) (pins : PinLevels) (c : Chan) :
    (s.powerOn pins).floor.chan c = Channel.reset := by
  rw [powerOn_floor]
  split <;> exact s.poweredFloor_chan pins c

theorem State.powerOn_port (s : State) (pins : PinLevels) (p : PortId) :
    (s.powerOn pins).floor.port p = PortContext.reset := by
  rw [powerOn_floor]
  split <;> cases p <;> rfl

/-- A power-on with RESET active leaves the debounce timers unloaded. -/
theorem State.powerOn_drive (s : State) (pins : PinLevels) (c : Chan) : (s.powerOn pins).floor.drive c =
    { rawSeated := pins.seated.getLsbD c.val, seated := false
      debounce := if s.base.resetActive = false ∧ pins.seated.getLsbD c.val = true then some 20000 else none
      release := false, bin1 := false, bin0 := false } := by
  rw [powerOn_floor]
  cases active : s.base.resetActive with
  | true => rw [if_pos rfl, poweredFloor_drive, if_neg (by simp)]; rfl
  | false =>
    rw [if_neg (by simp), Floor.endReset_drive, poweredFloor_drive]
    cases pins.seated.getLsbD c.val <;> rfl

/-- Settles O15: the values place by place, the vectors by `State.powerOn_chan` and `State.powerOn_drive`. -/
theorem powerOnResetsThePart : Obligations.PowerOnResetsThePart := by
  unfold Obligations.PowerOnResetsThePart
  refine ⟨fun pins s => ⟨s.powerOn pins, rfl, rfl, rfl, rfl, rfl, rfl, rfl, rfl, rfl, fun f => ?_,
    Base.image_reset 0, rfl, rfl,
    rfl, ?_, rfl, rfl, rfl, rfl, rfl, rfl, rfl, rfl, ?_, ?_, ?_, s.powerOn_chan pins, ?_, s.powerOn_port pins,
    s.powerOn_drive pins, ?_⟩, rfl, rfl, rfl, rfl, rfl, rfl, rfl, rfl, rfl, fun k => rfl, fun raw => rfl⟩
  · simp [State.powerOn, Base.format, Base.reset]
  all_goals
    rw [State.powerOn_floor]
    split <;> rfl

end Sys2Proof.Machine

/-! SUPPORT. Reports byte for byte (sections 11.1, 11.2, 11.4 and 11.5): each report is a row of numbers packed in their
bytes, each flag byte a row of bits, each list of a report a row of entries of one length. -/

namespace Sys2Proof.Machine

/-! Numbers (R187). -/

theorem num_succ {bytes : List Byte} {i n : Nat} (h : i + n < bytes.length) :
    num bytes i (n + 1) = 256 * num bytes i n + (bytes.getD (i + n) 0).toNat := by
  have next : (bytes.drop i)[n]? = some bytes[i + n] := by
    rw [List.getElem?_drop, List.getElem?_eq_getElem h]
  rw [num, List.take_add_one, next, List.foldl_append, num, List.getD_eq_getElem _ _ h]
  simp [Nat.mul_comm]

theorem byte_mod (v : Nat) : (byte v).toNat = v % 256 := BitVec.toNat_ofNat v 8

theorem packed_append (xs ys : List (Nat × Nat)) : packed (xs ++ ys) = packed xs ++ packed ys := List.flatMap_append

theorem packed_length (l : List (Nat × Nat)) : (packed l).length = (l.map Prod.fst).sum := by
  simp only [packed, List.length_flatMap, be_length]

/-- A report of packed numbers shows each of them at its place. -/
theorem shows_of_packed {bytes : List Byte} {numbers : List (Nat × Nat)} (h : bytes = packed numbers)
    {fields : List (Nat × Nat × Nat)} (places : fields ⊆ fieldsFrom 0 numbers) : Shows bytes fields := by
  intro x hx
  have read := shows_packed [] [] numbers x (places hx)
  rwa [List.nil_append, List.append_nil, ← h] at read

/-- An entry of a report's list stands after what comes first and the entries before it. -/
theorem shows_entry {α : Type} {entry : α → List (Nat × Nat)} {len : Nat}
    (fixed : ∀ x, (packed (entry x)).length = len) (front back : List Byte) {l : List α} {i : Nat} {x : α}
    (hx : l[i]? = some x) :
    Shows (front ++ l.flatMap (fun x => packed (entry x)) ++ back) (fieldsFrom (front.length + len * i) (entry x)) := by
  obtain ⟨hi, rfl⟩ := List.getElem?_eq_some_iff.mp hx
  set g := fun x => packed (entry x)
  have split : l.flatMap g = (l.take i).flatMap g ++ (packed (entry l[i]) ++ (l.drop (i + 1)).flatMap g) := by
    rw [← List.flatMap_cons (f := g), ← List.flatMap_append, List.getElem_cons_drop hi, List.take_append_drop]
  have start : (front ++ (l.take i).flatMap g).length = front.length + len * i := by
    have lengths : (l.take i).map (fun x => (g x).length) = (l.take i).map fun _ => len :=
      List.map_congr_left fun x _ => fixed x
    rw [List.length_append, List.length_flatMap, lengths, List.map_const', List.sum_replicate, List.length_take,
      Nat.min_eq_left hi.le, smul_eq_mul, Nat.mul_comm]
  have read := shows_packed (front ++ (l.take i).flatMap g) ((l.drop (i + 1)).flatMap g ++ back) (entry l[i])
  rw [start] at read
  rw [split]
  simpa only [List.append_assoc] using read

theorem length_flatMap_packed {α : Type} {entry : α → List (Nat × Nat)} {len : Nat}
    (fixed : ∀ x, (packed (entry x)).length = len) (l : List α) :
    (l.flatMap fun x => packed (entry x)).length = len * l.length := by
  simp [List.length_flatMap, fixed, Nat.mul_comm]

/-! Flag bytes. -/

/-- Each bit of a number is the flag at its place. -/
def ShowsBits (v : Nat) (flags : List Bool) : Prop := ∀ i, v.testBit i = flags.getD i false

theorem flagBits_shows (flags : List Bool) : ShowsBits (flagBits flags) flags := by
  induction flags with
  | nil => exact fun i => Nat.zero_testBit i
  | cons v flags ih =>
    intro i
    cases i with
    | zero => cases v <;> simp [flagBits, Nat.testBit_zero, Nat.add_mod]
    | succ i =>
      have half : ((if v then 1 else 0) + 2 * flagBits flags) / 2 = flagBits flags := by
        split <;> omega
      rw [flagBits, Nat.testBit_succ, half, ih i]
      rfl

theorem flagBits_lt (flags : List Bool) : flagBits flags < 2 ^ flags.length := by
  induction flags with
  | nil => decide
  | cons v flags ih =>
    rw [flagBits, List.length_cons, Nat.pow_succ]
    cases v <;> simp <;> omega

theorem flagBits_mod {flags : List Bool} (few : flags.length ≤ 8) : flagBits flags % 256 = flagBits flags :=
  Nat.mod_eq_of_lt ((flagBits_lt flags).trans_le (Nat.pow_le_pow_right (by decide) few))

theorem showsBits_byte {flags : List Bool} (few : flags.length ≤ 8) : ShowsBits (byte (flagBits flags)).toNat flags := by
  rw [byte_mod, flagBits_mod few]
  exact flagBits_shows flags

theorem Shows.bits {bytes : List Byte} {at0 : Nat} {flags : List Bool} (h : Shows bytes [(at0, 1, flagBits flags)])
    (few : flags.length ≤ 8) : ShowsBits (num bytes at0 1) flags := by
  have read := h _ (List.mem_singleton.mpr rfl)
  simp only [Nat.pow_one, flagBits_mod few] at read
  rw [read]
  exact flagBits_shows flags

theorem Floor.lineFlags_shows (f : Floor) :
    let pulls := f.portA.lineHold || f.portB.lineHold || f.line.internal
    ShowsBits f.lineFlags.toNat [pulls || f.line.handler, f.portA.lineHold, f.portB.lineHold, f.line.internal, !pulls,
      !pulls && f.line.handler] := by
  intro pulls
  have free : (!pulls && (pulls || f.line.handler)) = (!pulls && f.line.handler) := by
    cases pulls <;> rfl
  have flags := showsBits_byte (flags := [pulls || f.line.handler, f.portA.lineHold, f.portB.lineHold, f.line.internal,
    !pulls, !pulls && (pulls || f.line.handler)]) (by simp)
  rw [free] at flags
  exact fun i => (congrArg (Nat.testBit · i) (by rw [Floor.lineFlags, Floor.lineHeld, Floor.partPulls, free])).trans (flags i)

theorem DriveLines.flags_shows (d : DriveLines) :
    ShowsBits d.flags.toNat [d.seated, d.debounce.isSome, d.release, d.bin0, d.bin1] := showsBits_byte (by simp)

/-! Request codes and lengths (section 11.1). -/

/-- The payload lengths of a request. -/
def admittedLengths : Request → List Nat
  | .readDevice | .portReset | .readEvents | .readLine | .readStoreMap | .readResult | .readRing => [0]
  | .setEventMask | .setDrive => [8]
  | .setLineHold | .readFormat | .removeFormat | .readData | .deleteImage | .readImage | .setStore
  | .startJob | .stopJob | .cancelJob | .removeJob | .readJob
  | .enableDrive | .disableDrive | .freezeDrive | .resumeDrive | .resetDrive | .readDrive
  | .setResultFollow => [1]
  | .defineFormat => [27, 30, 33, 36, 39, 42, 45, 48, 51]
  | .planQuery => [3, 7]
  | .openImage => [7]
  | .defineTrack | .finishImage => [5]
  | .setCursor => [6]
  | .writeData => List.range' 1 248
  | .readTrackEntry => [3]
  | .defineJob => [8, 20]

theorem admits_iff_mem (r : Request) (n : Nat) : r.admits n = true ↔ n ∈ admittedLengths r := by
  cases r with
  | defineFormat => 
    simp only [Request.admits, admittedLengths, Bool.and_eq_true, decide_eq_true_eq, beq_iff_eq, List.mem_cons,
      List.not_mem_nil, or_false]
    omega
  | writeData => 
    simp only [Request.admits, admittedLengths, Bool.and_eq_true, decide_eq_true_eq, List.mem_range'_1]
    omega
  | _ => simp [Request.admits, admittedLengths]

/-! Event sets (section 11.2). -/

theorem mem_allEvents (e : EventKind) : e ∈ allEvents := by cases e <;> decide

theorem EventKind.code_injective : Function.Injective EventKind.code := by
  intro e k
  cases e <;> cases k <;> decide

theorem allEvents_codes_ascend : (allEvents.map EventKind.code).Pairwise fun v w => v.toNat < w.toNat := by decide

theorem eventBytes_shows (set : List EventKind) :
    let bytes := eventBytes set
    let n := (allEvents.filter fun e => decide (e ∈ set)).length
    bytes.length = 8 ∧ num bytes 0 1 = n ∧ (∀ e, e.code ∈ (bytes.drop 1).take n ↔ e ∈ set) ∧
      ((bytes.drop 1).take n).Pairwise (fun v w => v.toNat < w.toNat) ∧ ∀ v ∈ bytes.drop (1 + n), v = 0 := by
  intro bytes n
  set kinds := allEvents.filter fun e => decide (e ∈ set) with hkinds
  have few : n ≤ 7 := List.length_filter_le _ allEvents
  have length : kinds.length = n := rfl
  have shape : bytes = byte n :: (kinds.map EventKind.code ++ List.replicate (7 - n) 0) := by
    simp only [bytes, eventBytes, List.length_map]
    rfl
  have codes : (bytes.drop 1).take n = kinds.map EventKind.code := by
    rw [shape]
    exact List.take_left' (List.length_map _)
  refine ⟨?_, ?_, fun e => ?_, ?_, fun v hv => ?_⟩
  · rw [shape]
    simp only [List.length_cons, List.length_append, List.length_map, List.length_replicate]
    omega
  · rw [shape, num_head, byte_toNat_of_lt (by omega)]
  · rw [codes, List.mem_map_of_injective EventKind.code_injective, hkinds]
    simp [mem_allEvents]
  · rw [codes]
    exact allEvents_codes_ascend.sublist (List.filter_sublist.map _)
  · rw [shape, Nat.add_comm, List.drop_succ_cons, List.drop_left' (List.length_map _)] at hv
    exact List.eq_of_mem_replicate hv

end Sys2Proof.Machine

/-! SUPPORT. The numbers of each report, in the order of its bytes. -/

namespace Sys2Proof.Machine

/-! Parts that several reports share. -/

/-- The number of a port (section 11.2). -/
def portNumber : PortId → Nat
  | .a => 0
  | .b => 1

theorem portCode_eq (p : PortId) : portCode p = byte (portNumber p) := by cases p <;> rfl

/-- The numbers of a capture record. -/
def Capture.numbers (cap : Capture) : List (Nat × Nat) :=
  [(1, (cap.held.map fun e => e.cause.code.toNat).getD 0), (1, (cap.held.map (·.cylinder)).getD 0),
    (1, (cap.held.map (·.head)).getD 0), (1, ((cap.held.bind CaptureEvent.sector).map BitVec.toNat).getD 0)]

theorem Capture.bytes_eq (cap : Capture) : cap.bytes = packed cap.numbers := by
  obtain ⟨held, second⟩ := cap
  cases held with
  | none => simp [bytes, packed, numbers, byte]
  | some e =>
    cases sector : e.sector with
    | none => simp [bytes, packed, numbers, sector, byte]
    | some v => simp [bytes, packed, numbers, sector]

/-- The numbers of a serial specification. -/
def SerialSpec.numbers (sp : SerialSpec) : List (Nat × Nat) :=
  [(1, sp.cylinder), (1, sp.head), (1, sp.index), (2, sp.offset),
    (1, match sp.encoding with | .ascii _ => 0 | .binary => 1),
    (1, match sp.encoding with | .ascii w => w | .binary => 0), (4, sp.start), (1, sp.step)]

theorem SerialSpec.bytes_eq (sp : SerialSpec) : sp.bytes = packed sp.numbers := by
  obtain ⟨cylinder, head, index, offset, encoding, start, step⟩ := sp
  cases encoding <;> simp [bytes, packed, numbers, byte]

/-! The image report, a track entry and a region (R40, R61, R62). -/

/-- Whether an entry is of kind DATA, FORMAT-ONLY, ERASE or SKIP. -/
def TrackEntry.isData : TrackEntry → Bool
  | .data _ _ _ => true | .formatOnly _ => false | .erase => false | .skip => false

def TrackEntry.isFormatOnly : TrackEntry → Bool
  | .data _ _ _ => false | .formatOnly _ => true | .erase => false | .skip => false

def TrackEntry.isErase : TrackEntry → Bool
  | .data _ _ _ => false | .formatOnly _ => false | .erase => true | .skip => false

def TrackEntry.isSkip : TrackEntry → Bool
  | .data _ _ _ => false | .formatOnly _ => false | .erase => false | .skip => true

theorem ImageSlot.count_code (im : ImageSlot) :
    im.count (fun e => e.code == 1) = (im.trackMap.filter TrackEntry.isData).length ∧
    im.count (fun e => e.code == 2) = (im.trackMap.filter TrackEntry.isFormatOnly).length ∧
    im.count (fun e => e.code == 3) = (im.trackMap.filter TrackEntry.isErase).length ∧
    im.count (fun e => e.code == 0) = (im.trackMap.filter TrackEntry.isSkip).length := by
  have same {test kind : TrackEntry → Bool} (h : ∀ e, test e = kind e) :
      im.count test = (im.trackMap.filter kind).length := by
    rw [ImageSlot.count, funext h]
  exact ⟨same fun e => by cases e <;> rfl, same fun e => by cases e <;> rfl, same fun e => by cases e <;> rfl,
    same fun e => by cases e <;> rfl⟩

/-- The numbers of an image report. -/
def Base.imageNumbers (b : Base) (slot : SlotId) (o : Opening) : List (Nat × Nat) :=
  let im := b.image slot
  [(1, slot.val), (1, im.state.code.toNat), (2, im.openNumber.toNat), (1, portNumber o.loader), (2, o.base),
    (2, o.length), (1, o.cylinders), (1, o.heads), (4, im.fillMark), (4, o.length * 4096 - im.fillMark),
    (1, (im.trackMap.filter TrackEntry.isData).length), (1, (im.trackMap.filter TrackEntry.isFormatOnly).length),
    (1, (im.trackMap.filter TrackEntry.isErase).length), (1, (im.trackMap.filter TrackEntry.isSkip).length),
    (2, im.overflow), (1, flagBits [im.expected.isSome, im.computed.isSome]),
    (4, (im.expected.map BitVec.toNat).getD 0), (4, (im.computed.map BitVec.toNat).getD 0), (1, im.refCount),
    (1, b.checkPosition slot), (4, b.checkBytes slot)]

theorem Base.imageReport_eq (b : Base) (slot : SlotId) (o : Opening) :
    b.imageReport slot o = packed (b.imageNumbers slot o) := by
  obtain ⟨data, formatOnly, erase, skip⟩ := (b.image slot).count_code
  rw [imageReport, data, formatOnly, erase, skip]
  simp [imageNumbers, packed, portCode_eq, ImageSlot.checkFlags, blockBytes]

/-- The numbers of a track entry's reply. -/
def TrackEntry.numbers (e : TrackEntry) : List (Nat × Nat) :=
  [(1, e.code.toNat), (1, (e.format?.map (·.val)).getD 0), (4, (e.span?.map Prod.fst).getD 0),
    (4, (e.span?.map Prod.snd).getD 0)]

theorem TrackEntry.reply_eq (e : TrackEntry) : e.reply = packed e.numbers := by
  simp [reply, numbers, packed]

/-- The owner byte of a region. -/
def ownerNumber : Option SlotId → Nat
  | some slot => slot.val
  | none => 0xFF

/-- The numbers of a region of the store map. -/
def Base.regionNumbers (b : Base) (r : Region) : List (Nat × Nat) :=
  [(2, r.base), (2, r.length), (1, ownerNumber r.owner),
    (1, if (r.owner.bind b.progress).isSome then 1 else 0), (2, (r.owner.bind b.progress).getD 0)]

theorem Base.regionReply_eq (b : Base) (r : Region) : b.regionReply r = packed (b.regionNumbers r) := by
  cases owner : r.owner with
  | none => simp [regionReply, regionNumbers, packed, byte_flag, owner, ownerNumber, byte]
  | some slot => simp [regionReply, regionNumbers, packed, byte_flag, owner, ownerNumber]

/-! The job report and the queue summary (R74). -/

/-- The numbers of a job report before its serial part. -/
def Job.headNumbers (j : Job) (place : Nat) : List (Nat × Nat) :=
  [(1, j.id), (1, j.slot.val), (2, j.target), (1, j.drives.toNat), (1, j.verifyEvery), (1, j.window.code.toNat),
    (1, j.retryLimit), (1, portNumber j.origin), (1, j.state.code.toNat), (1, (endCauseCode j.endCause).toNat),
    (1, place), (1, if j.issuable then 1 else 0), (1, j.inFlight), (4, j.issued), (4, j.passed), (4, j.failed),
    (4, j.aborted), (1, if j.serial.isSome then 1 else 0)]

/-- The numbers of a serial part after its present byte, but for the reclaim list. -/
def SerialState.numbers (st : SerialState) : List (Nat × Nat) :=
  st.spec.numbers ++ [(5, st.next), (1, st.reclaim.length)]

theorem Job.report_plain {j : Job} (place : Nat) (plain : j.serial = none) :
    j.report place = packed (j.headNumbers place) := by
  simp [report, serialReport, plain, headNumbers, packed, portCode_eq, byte_flag, byte]

theorem Job.report_serial {j : Job} {st : SerialState} (place : Nat) (serial : j.serial = some st) :
    j.report place = packed (j.headNumbers place ++ st.numbers) ++ st.reclaim.flatMap fun v => packed [(4, v)] := by
  simp [report, serialReport, serial, headNumbers, SerialState.numbers, SerialSpec.bytes_eq, packed, portCode_eq,
    byte_flag, byte]

/-- The numbers of a job and of a waiting channel in the queue summary. -/
def Job.entry (j : Job) : List (Nat × Nat) := [(1, j.id), (1, j.state.code.toNat), (1, j.inFlight)]

def Floor.waitingEntry (f : Floor) (c : Chan) : List (Nat × Nat) :=
  [(1, c.val), (1, if (f.chan c).frozen then 1 else 0)]

theorem Floor.queueSummary_eq (f : Floor) : f.queueSummary =
    packed [(1, f.jobs.length)] ++ (f.jobs.flatMap fun j => packed j.entry) ++
      (packed [(1, f.waiting.length)] ++ (f.waiting.flatMap fun c => packed (f.waitingEntry c)) ++
        packed [(1, if f.lineHeld then 1 else 0)]) := by
  simp [queueSummary, packed, Job.entry, waitingEntry, byte_flag]

/-! The drive report (R122). -/

/-- The numbers of the settings. -/
def Settings.numbers (x : Settings) : List (Nat × Nat) :=
  [(1, x.stepPeriod), (1, x.settleTime), (1, x.heads), (1, x.cylinderLimit), (1, x.spinupUnits),
    (1, x.failStreakLimit)]

/-- The numbers of four intervals, absent ones 0. -/
def intervalNumbers (xs : List Word32) : List (Nat × Nat) :=
  [(4, (xs[0]?.map BitVec.toNat).getD 0), (4, (xs[1]?.map BitVec.toNat).getD 0),
    (4, (xs[2]?.map BitVec.toNat).getD 0), (4, (xs[3]?.map BitVec.toNat).getD 0)]

theorem intervalBytes_eq {xs : List Word32} (few : xs.length ≤ 4) : intervalBytes xs = packed (intervalNumbers xs) := by
  match xs, few with
  | [], _ => rfl
  | [_], _ => rfl
  | [_, _], _ => rfl
  | [_, _, _], _ => rfl
  | [_, _, _, _], _ => rfl

/-- The numbers of a drive report, but for the disk's. -/
def driveNumbers (b : Base) (f : Floor) (c : Chan) : List (Nat × Nat) :=
  let x := f.chan c
  [(1, c.val), (1, x.state.code.toNat), (1, (phaseCode x.phase).toNat),
    (1, flagBits [x.resuming, x.frozen, x.removed, x.disk.isSome, decide (x.state = .fault) && x.fault.isSome,
      x.atSpeed b, f.waitsForRing c, x.cylinder.isNone]),
    (1, (faultCode x.fault).toNat), (1, x.failCount), (1, x.bin.code.toNat),
    (1, flagBits [(f.drive c).seated, b.wprot.getLsbD c.val, b.trk0.getLsbD c.val, x.motor, x.side, x.wgate,
      (f.drive c).release])] ++ x.settings.numbers ++
    [(1, x.cylinder.getD 0), (1, placeOf (fun d => decide (d = c)) f.waiting), (1, x.intervals.length)] ++
    intervalNumbers x.intervals ++ [(4, x.meanPeriod.getD 0)]

/-- The numbers of a disk's part of the drive report. -/
def Disk.numbers (k : Disk) : List (Nat × Nat) :=
  [(1, k.jobId), (1, k.slot.val),
    (1, flagBits [k.serial.isSome, k.verified, k.capture.held.isSome, (k.capture.held.bind CaptureEvent.sector).isSome,
      k.capture.second, (k.capture.held.map CaptureEvent.hard).getD false]), (1, k.window.code.toNat),
    (1, k.retryLimit), (4, (k.serial.map Prod.fst).getD 0), (1, k.cylinder), (1, k.head), (1, k.retries),
    (2, k.totalRetries), (1, k.softCount), (1, k.tracksWritten), (2, k.elapsed)] ++ k.capture.numbers ++
    (match k.serial with
      | some (_, sp) => sp.numbers
      | none => [(4, 0), (4, 0), (4, 0)]) ++ [(4, k.startTime.toNat)]

theorem Disk.report_eq (k : Disk) : k.report = packed k.numbers := by
  cases serial : k.serial with
  | none => simp [report, numbers, serial, packed, diskFlags, Capture.bytes_eq, be, byte]
  | some v =>
    obtain ⟨number, sp⟩ := v
    simp [report, numbers, serial, packed, diskFlags, Capture.bytes_eq, SerialSpec.bytes_eq]

theorem driveReport_noDisk {b : Base} {f : Floor} {c : Chan} (few : (f.chan c).intervals.length ≤ 4)
    (disk : (f.chan c).disk = none) : driveReport b f c = packed (driveNumbers b f c) := by
  simp [driveReport, driveNumbers, disk, intervalBytes_eq few, packed, driveFlags, driveLevels, Settings.bytes,
    Settings.numbers]

theorem driveReport_disk {b : Base} {f : Floor} {c : Chan} {k : Disk} (few : (f.chan c).intervals.length ≤ 4)
    (disk : (f.chan c).disk = some k) : driveReport b f c = packed (driveNumbers b f c ++ k.numbers) := by
  rw [packed_append, ← k.report_eq]
  simp [driveReport, driveNumbers, disk, intervalBytes_eq few, packed, driveFlags, driveLevels, Settings.bytes,
    Settings.numbers]

/-! The result record and READ RING (R148, R162). -/

/-- The numbers of a result record. -/
def ResultRecord.numbers (r : ResultRecord) : List (Nat × Nat) :=
  [(4, r.sequence.toNat), (1, r.body.jobId), (1, r.body.drive.val), (1, r.body.outcome.code.toNat),
    (1, flagBits [r.body.serial.isSome, r.body.verified, r.body.capture.held.isSome,
      (r.body.capture.held.bind CaptureEvent.sector).isSome, r.body.capture.second,
      (r.body.capture.held.map CaptureEvent.hard).getD false]),
    (4, r.body.serial.getD 0)] ++ r.body.capture.numbers ++
    [(1, r.body.softCount), (2, r.body.totalRetries), (1, r.body.tracksWritten), (2, r.elapsed)]

theorem ResultRecord.bytes_eq (r : ResultRecord) : r.bytes = packed r.numbers := by
  simp [bytes, numbers, packed, diskFlags, Capture.bytes_eq]

theorem Ring.oldest_eq (r : Ring) : r.oldest = (r.records.head?.map ResultRecord.sequence).getD r.writePos := by
  unfold oldest
  split <;> simp_all

/-- The numbers of READ RING before the waiters. -/
def Floor.ringNumbers (f : Floor) : List (Nat × Nat) :=
  [(1, f.ring.records.length), (4, ((f.ring.records.head?.map ResultRecord.sequence).getD f.ring.writePos).toNat),
    (4, if f.ring.records = [] then 0 else (f.ring.writePos - 1).toNat), (4, f.ring.writePos.toNat),
    (4, f.portA.resultCursor.toNat), (4, f.portB.resultCursor.toNat),
    (1, flagBits [!f.ring.records.isEmpty, f.portA.follow, f.portB.follow]), (2, f.ring.dropped),
    (1, f.ring.waiters.length)]

theorem Floor.ringReport_eq (f : Floor) :
    f.ringReport = packed f.ringNumbers ++ f.ring.waiters.flatMap fun c => packed [(1, c.val)] := by
  have newest : f.ring.newest.toNat = if f.ring.records = [] then 0 else (f.ring.writePos - 1).toNat := by
    simp only [Ring.newest, List.isEmpty_iff]
    split <;> rfl
  simp only [ringReport, Ring.oldest_eq, newest, ringNumbers, packed]
  simp [ringFlags, List.map_eq_flatMap]

end Sys2Proof.Machine

/-! SUPPORT. What each report shows, at the places of sections 11.1, 11.4 and 11.5. -/

namespace Sys2Proof.Machine

theorem Shows.subset {bytes : List Byte} {fields more : List (Nat × Nat × Nat)} (h : Shows bytes more)
    (sub : fields ⊆ more) : Shows bytes fields := fun x hx => h x (sub hx)

theorem Shows.congr {bytes : List Byte} {fields more : List (Nat × Nat × Nat)} (h : Shows bytes more)
    (same : fields = more) : Shows bytes fields := same ▸ h

/-- Numbers packed at the front of a report. -/
theorem shows_front {bytes back : List Byte} {numbers : List (Nat × Nat)} (h : bytes = packed numbers ++ back) :
    Shows bytes (fieldsFrom 0 numbers) := by
  rw [h]
  exact shows_packed [] back numbers

/-! The image report (R61). -/

theorem Base.checkPosition_under {b : Base} {slot : SlotId} {k : ImageCheck} (check : b.check = some k)
    (same : k.slot = slot) : b.checkPosition slot = 0xFF ∧ b.checkBytes slot = k.bytesRead := by
  simp [checkPosition, checkBytes, check, same]

theorem Base.checkPosition_waits {b : Base} {slot : SlotId} (other : b.check.map ImageCheck.slot ≠ some slot) :
    b.checkPosition slot = placeOf (fun k => decide (k = slot)) b.checkList ∧ b.checkBytes slot = 0 := by
  refine ⟨if_neg other, ?_⟩
  unfold checkBytes
  split
  · next k check =>
    rw [check] at other
    exact if_neg fun same => other (congrArg some same)
  · rfl

theorem Base.imageReport_fields (b : Base) (slot : SlotId) (o : Opening) :
    Shows (b.imageReport slot o) (fieldsFrom 0 (b.imageNumbers slot o)) :=
  shows_of_packed (b.imageReport_eq slot o) (List.Subset.refl _)

theorem Base.imageReport_length (b : Base) (slot : SlotId) (o : Opening) : (b.imageReport slot o).length = 40 := by
  rw [imageReport_eq]
  simp [packed_length, imageNumbers]

theorem Base.imageReport_shows (b : Base) (slot : SlotId) (o : Opening) :
    let im := b.image slot
    Shows (b.imageReport slot o) [(0, 1, slot.val), (1, 1, im.state.code.toNat), (2, 2, im.openNumber.toNat),
      (4, 1, portNumber o.loader), (5, 2, o.base), (7, 2, o.length), (9, 1, o.cylinders), (10, 1, o.heads),
      (11, 4, im.fillMark), (15, 4, o.length * 4096 - im.fillMark),
      (19, 1, (im.trackMap.filter TrackEntry.isData).length),
      (20, 1, (im.trackMap.filter TrackEntry.isFormatOnly).length),
      (21, 1, (im.trackMap.filter TrackEntry.isErase).length),
      (22, 1, (im.trackMap.filter TrackEntry.isSkip).length), (23, 2, im.overflow),
      (26, 4, (im.expected.map BitVec.toNat).getD 0), (30, 4, (im.computed.map BitVec.toNat).getD 0),
      (34, 1, im.refCount)] :=
  (b.imageReport_fields slot o).subset (by simp [fieldsFrom, imageNumbers])

theorem Base.imageReport_check (b : Base) (slot : SlotId) (o : Opening) :
    Shows (b.imageReport slot o) [(35, 1, b.checkPosition slot), (36, 4, b.checkBytes slot)] :=
  (b.imageReport_fields slot o).subset (by simp [fieldsFrom, imageNumbers])

theorem Base.imageReport_flags (b : Base) (slot : SlotId) (o : Opening) :
    ShowsBits (num (b.imageReport slot o) 25 1) [(b.image slot).expected.isSome, (b.image slot).computed.isSome] :=
  ((b.imageReport_fields slot o).subset (by simp [fieldsFrom, imageNumbers])).bits (by simp)

/-! A region of the store map (R40). -/

theorem Base.progress_none {b : Base} {r : Region}
    (h : r.owner = none ∨ ∀ w ∈ b.store.clearing, some w.slot ≠ r.owner) : r.owner.bind b.progress = none := by
  cases owner : r.owner with
  | none => rfl
  | some slot =>
    have others := h.resolve_left (by rw [owner]; exact nofun)
    rw [owner] at others
    simpa [progress] using fun w hw same => others w hw (congrArg some same)

theorem Base.progress_some {b : Base} {front back : List Clearing} {w : Clearing} {r : Region}
    (split : b.store.clearing = front ++ w :: back) (owner : r.owner = some w.slot)
    (first : ∀ v ∈ front, v.slot ≠ w.slot) : r.owner.bind b.progress = some (w.bytes / 4096) := by
  have found : b.store.clearing.find? (fun v => decide (v.slot = w.slot)) = some w := by
    rw [split, List.find?_eq_some_iff_append]
    exact ⟨by simp, front, back, rfl, by simpa using first⟩
  rw [owner, Option.bind_some, progress, found]
  rfl

theorem Base.regionReply_fields (b : Base) (r : Region) : Shows (b.regionReply r) (fieldsFrom 0 (b.regionNumbers r)) :=
  shows_of_packed (b.regionReply_eq r) (List.Subset.refl _)

theorem Base.regionReply_place (b : Base) (r : Region) :
    Shows (b.regionReply r) [(0, 2, r.base), (2, 2, r.length), (4, 1, ownerNumber r.owner)] :=
  (b.regionReply_fields r).subset (by simp [fieldsFrom, regionNumbers])

theorem freeLengths_eq (list : List Region) :
    freeLengths list = (list.filter fun r => decide (r.owner = none)).map Region.length := by
  rw [freeLengths, ← List.filterMap_eq_map, ← List.filterMap_eq_filter, List.filterMap_filterMap]
  refine List.filterMap_congr fun r _ => ?_
  by_cases free : r.owner = none <;> simp [free, Option.guard]

/-! The queue summary (R74). -/

theorem Floor.queueSummary_jobs (f : Floor) {i : Nat} {j : Job} (hj : f.jobs[i]? = some j) :
    Shows f.queueSummary
      [(1 + 3 * i, 1, j.id), (2 + 3 * i, 1, j.state.code.toNat), (3 + 3 * i, 1, j.inFlight)] := by
  have read := shows_entry (entry := Job.entry) (len := 3) (fun j => by simp [packed, Job.entry])
    (packed [(1, f.jobs.length)])
    (packed [(1, f.waiting.length)] ++ (f.waiting.flatMap fun c => packed (f.waitingEntry c)) ++
      packed [(1, if f.lineHeld then 1 else 0)]) hj
  rw [← queueSummary_eq] at read
  refine read.congr ?_
  simp [packed_length, fieldsFrom, Job.entry]
  omega

theorem Floor.queueSummary_waiting (f : Floor) {i : Nat} {c : Chan} (hc : f.waiting[i]? = some c) :
    let rest := 1 + 3 * f.jobs.length
    Shows f.queueSummary
      [(rest + 1 + 2 * i, 1, c.val), (rest + 2 + 2 * i, 1, if (f.chan c).frozen then 1 else 0)] := by
  intro rest
  have jobs : (f.jobs.flatMap fun j => packed j.entry).length = 3 * f.jobs.length :=
    length_flatMap_packed (fun j => by simp [packed, Job.entry]) f.jobs
  have read := shows_entry (entry := f.waitingEntry) (len := 2) (fun c => by simp [packed, waitingEntry])
    (packed [(1, f.jobs.length)] ++ (f.jobs.flatMap fun j => packed j.entry) ++ packed [(1, f.waiting.length)])
    (packed [(1, if f.lineHeld then 1 else 0)]) hc
  have summary := f.queueSummary_eq
  simp only [← List.append_assoc] at summary
  rw [← summary] at read
  refine read.congr ?_
  simp [packed_length, fieldsFrom, waitingEntry, jobs, rest]
  omega

theorem Floor.queueSummary_edges (f : Floor) :
    let rest := 1 + 3 * f.jobs.length
    let last := rest + 1 + 2 * f.waiting.length
    f.queueSummary.length = last + 1 ∧ Shows f.queueSummary
      [(0, 1, f.jobs.length), (rest, 1, f.waiting.length), (last, 1, if f.lineHeld then 1 else 0)] := by
  intro rest last
  have jobs : (f.jobs.flatMap fun j => packed j.entry).length = 3 * f.jobs.length :=
    length_flatMap_packed (fun j => by simp [packed, Job.entry]) f.jobs
  have waiting : (f.waiting.flatMap fun c => packed (f.waitingEntry c)).length = 2 * f.waiting.length :=
    length_flatMap_packed (fun c => by simp [packed, waitingEntry]) f.waiting
  have summary := f.queueSummary_eq
  refine ⟨by rw [summary]; simp [packed_length, jobs, waiting, last, rest]; omega, ?_⟩
  have first := shows_packed [] ((f.jobs.flatMap fun j => packed j.entry) ++
    (packed [(1, f.waiting.length)] ++ (f.waiting.flatMap fun c => packed (f.waitingEntry c)) ++
      packed [(1, if f.lineHeld then 1 else 0)])) [(1, f.jobs.length)]
  rw [List.nil_append, ← List.append_assoc (packed [(1, f.jobs.length)]), ← summary] at first
  have middle := shows_packed (packed [(1, f.jobs.length)] ++ f.jobs.flatMap fun j => packed j.entry)
    ((f.waiting.flatMap fun c => packed (f.waitingEntry c)) ++ packed [(1, if f.lineHeld then 1 else 0)])
    [(1, f.waiting.length)]
  have ending := shows_packed (packed [(1, f.jobs.length)] ++ (f.jobs.flatMap fun j => packed j.entry) ++
    (packed [(1, f.waiting.length)] ++ f.waiting.flatMap fun c => packed (f.waitingEntry c))) []
    [(1, if f.lineHeld then 1 else 0)]
  rw [List.append_assoc _ (packed [(1, f.waiting.length)]), ← List.append_assoc (packed [(1, f.waiting.length)]),
    ← summary] at middle
  rw [List.append_nil, List.append_assoc _ _ (packed [(1, if f.lineHeld then 1 else 0)]), ← summary] at ending
  refine (first.append (middle.append ending)).congr ?_
  simp [packed_length, fieldsFrom, jobs, waiting, rest, last]
  omega

/-! The job report (R74). -/

theorem Job.report_head (j : Job) (place : Nat) : Shows (j.report place) (fieldsFrom 0 (j.headNumbers place)) := by
  cases serial : j.serial with
  | none => exact shows_of_packed (Job.report_plain place serial) (List.Subset.refl _)
  | some st =>
    refine shows_front (back := packed st.numbers ++ st.reclaim.flatMap fun v => packed [(4, v)]) ?_
    rw [Job.report_serial place serial, packed_append, List.append_assoc]

theorem Job.report_shows (j : Job) (place : Nat) : Shows (j.report place)
    [(0, 1, j.id), (1, 1, j.slot.val), (2, 2, j.target), (4, 1, j.drives.toNat), (5, 1, j.verifyEvery),
      (6, 1, j.window.code.toNat), (7, 1, j.retryLimit), (8, 1, portNumber j.origin), (9, 1, j.state.code.toNat),
      (10, 1, (endCauseCode j.endCause).toNat), (11, 1, place), (12, 1, if j.issuable then 1 else 0), (13, 1, j.inFlight),
      (14, 4, j.issued), (18, 4, j.passed), (22, 4, j.failed), (26, 4, j.aborted),
      (30, 1, if j.serial.isSome then 1 else 0)] :=
  j.report_head place

theorem Job.report_length_plain {j : Job} (place : Nat) (plain : j.serial = none) : (j.report place).length = 31 := by
  rw [Job.report_plain place plain, packed_length]
  simp [Job.headNumbers]

theorem Job.report_serial_shows {j : Job} {st : SerialState} (place : Nat) (serial : j.serial = some st) :
    (j.report place).length = 49 + 4 * st.reclaim.length ∧ Shows (j.report place) (fieldsFrom 31 st.numbers) ∧
      ∀ i v, st.reclaim[i]? = some v → Shows (j.report place) [(49 + 4 * i, 4, v)] := by
  have report := Job.report_serial place serial
  have head : (packed (j.headNumbers place)).length = 31 := by simp [packed_length, Job.headNumbers]
  have numbers : (packed (j.headNumbers place ++ st.numbers)).length = 49 := by
    simp [packed_length, Job.headNumbers, SerialState.numbers, SerialSpec.numbers]
  have entries : (st.reclaim.flatMap fun v => packed [(4, v)]).length = 4 * st.reclaim.length :=
    length_flatMap_packed (fun v => by simp [packed]) st.reclaim
  refine ⟨by rw [report, List.length_append, numbers, entries], ?_, fun i v hv => ?_⟩
  · have read := shows_packed (packed (j.headNumbers place)) (st.reclaim.flatMap fun v => packed [(4, v)]) st.numbers
    rwa [head, ← packed_append, ← report] at read
  · have read := shows_entry (entry := fun v => [(4, v)]) (len := 4) (fun v => by simp [packed])
      (packed (j.headNumbers place ++ st.numbers)) [] hv
    rwa [List.append_nil, ← report, numbers] at read

/-! READ RING (R162). -/

theorem Floor.ringReport_shows (f : Floor) : f.ringReport.length = 25 + f.ring.waiters.length ∧
    Shows f.ringReport (fieldsFrom 0 f.ringNumbers) ∧
      ∀ i c, f.ring.waiters[i]? = some c → Shows f.ringReport [(25 + i, 1, c.val)] := by
  have report := f.ringReport_eq
  have head : (packed f.ringNumbers).length = 25 := by simp [packed_length, Floor.ringNumbers]
  have entries : (f.ring.waiters.flatMap fun c => packed [(1, c.val)]).length = 1 * f.ring.waiters.length :=
    length_flatMap_packed (fun c => by simp [packed]) f.ring.waiters
  refine ⟨by rw [report, List.length_append, head, entries, Nat.one_mul], shows_front report, fun i c hc => ?_⟩
  have read := shows_entry (entry := fun c : Chan => [(1, c.val)]) (len := 1) (fun c => by simp [packed])
    (packed f.ringNumbers) [] hc
  rw [List.append_nil, ← report, head, Nat.one_mul] at read
  exact read

/-! The drive report (R122). -/

theorem driveReport_head {b : Base} {f : Floor} {c : Chan} (few : (f.chan c).intervals.length ≤ 4) :
    Shows (driveReport b f c) (fieldsFrom 0 (driveNumbers b f c)) := by
  cases disk : (f.chan c).disk with
  | none => exact shows_of_packed (driveReport_noDisk few disk) (List.Subset.refl _)
  | some k =>
    refine shows_front (back := packed k.numbers) ?_
    rw [driveReport_disk few disk, packed_append]

theorem driveNumbers_length (b : Base) (f : Floor) (c : Chan) : (packed (driveNumbers b f c)).length = 37 := by
  simp [packed_length, driveNumbers, Settings.numbers, intervalNumbers]

theorem Disk.numbers_length (k : Disk) : (packed k.numbers).length = 38 := by
  cases serial : k.serial <;> simp [packed_length, Disk.numbers, serial, Capture.numbers, SerialSpec.numbers]

theorem driveReport_diskPart {b : Base} {f : Floor} {c : Chan} {k : Disk} (few : (f.chan c).intervals.length ≤ 4)
    (disk : (f.chan c).disk = some k) : (driveReport b f c).length = 75 ∧
      Shows (driveReport b f c) (fieldsFrom 37 k.numbers) := by
  have report := driveReport_disk (b := b) few disk
  refine ⟨by rw [report, packed_append, List.length_append, driveNumbers_length, k.numbers_length], ?_⟩
  have read := shows_packed (packed (driveNumbers b f c)) [] k.numbers
  rwa [driveNumbers_length, List.append_nil, ← packed_append, ← report] at read

theorem requests_table {l : List (Request × Byte × List Nat)}
    (h : ∀ x ∈ l, x.1.code = x.2.1 ∧ Request.ofCode x.2.1 = some x.1 ∧ admittedLengths x.1 = x.2.2) :
    ∀ x ∈ l, x.1.code = x.2.1 ∧ Request.ofCode x.2.1 = some x.1 ∧ ∀ n, x.1.admits n = true ↔ n ∈ x.2.2 := by
  intro x hx
  obtain ⟨code, request, lengths⟩ := h x hx
  exact ⟨code, request, fun n => lengths ▸ admits_iff_mem x.1 n⟩

theorem Channel.meanPeriod_number (x : Channel) : x.meanPeriod.getD 0 =
    if x.intervals.length = 4 then (x.intervals.map BitVec.toNat).sum / 4 else 0 := by
  unfold meanPeriod
  split <;> rfl

section

variable {b : Base} {f : Floor} {c : Chan} (few : (f.chan c).intervals.length ≤ 4)

include few

theorem driveReport_shows :
    let x := f.chan c
    Shows (driveReport b f c) [(0, 1, c.val), (1, 1, x.state.code.toNat), (2, 1, (phaseCode x.phase).toNat),
      (4, 1, (faultCode x.fault).toNat), (5, 1, x.failCount), (6, 1, x.bin.code.toNat), (8, 1, x.settings.stepPeriod),
      (9, 1, x.settings.settleTime), (10, 1, x.settings.heads), (11, 1, x.settings.cylinderLimit),
      (12, 1, x.settings.spinupUnits), (13, 1, x.settings.failStreakLimit), (14, 1, x.cylinder.getD 0),
      (16, 1, x.intervals.length), (17, 4, (x.intervals[0]?.map BitVec.toNat).getD 0),
      (21, 4, (x.intervals[1]?.map BitVec.toNat).getD 0), (25, 4, (x.intervals[2]?.map BitVec.toNat).getD 0),
      (29, 4, (x.intervals[3]?.map BitVec.toNat).getD 0),
      (33, 4, if x.intervals.length = 4 then (x.intervals.map BitVec.toNat).sum / 4 else 0)] := by
  intro x
  rw [← x.meanPeriod_number]
  exact (driveReport_head few).subset (by simp [fieldsFrom, driveNumbers, Settings.numbers, intervalNumbers, x])

theorem driveReport_flags :
    let x := f.chan c
    ShowsBits (num (driveReport b f c) 3 1) [x.resuming, x.frozen, x.removed, x.disk.isSome,
      decide (x.state = .fault ∧ x.fault ≠ none), x.atSpeed b, decide (c ∈ f.ring.waiters), x.cylinder.isNone] := by
  intro x
  have pending : (decide (x.state = .fault) && x.fault.isSome) = decide (x.state = .fault ∧ x.fault ≠ none) := by
    cases x.fault <;> simp
  rw [← pending]
  exact ((driveReport_head (b := b) few).subset (by simp [fieldsFrom, driveNumbers, Floor.waitsForRing, x])).bits (by simp)

theorem driveReport_levels :
    ShowsBits (num (driveReport b f c) 7 1) [(f.drive c).seated, b.wprot.getLsbD c.val, b.trk0.getLsbD c.val,
      (f.chan c).motor, (f.chan c).side, (f.chan c).wgate, (f.drive c).release] :=
  ((driveReport_head (b := b) few).subset (by simp [fieldsFrom, driveNumbers])).bits (by simp)

theorem driveReport_place :
    Shows (driveReport b f c) [(15, 1, placeOf (fun d => decide (d = c)) f.waiting)] :=
  (driveReport_head few).subset (by simp [fieldsFrom, driveNumbers, Settings.numbers])

end

theorem Disk.fields_shown (k : Disk) : [(37, 1, k.jobId), (38, 1, k.slot.val), (40, 1, k.window.code.toNat),
      (41, 1, k.retryLimit), (42, 4, (k.serial.map Prod.fst).getD 0), (46, 1, k.cylinder), (47, 1, k.head),
      (48, 1, k.retries), (49, 2, k.totalRetries), (51, 1, k.softCount), (52, 1, k.tracksWritten), (53, 2, k.elapsed),
      (71, 4, k.startTime.toNat)] ++ fieldsFrom 55 k.capture.numbers ⊆ fieldsFrom 37 k.numbers := by
  cases serial : k.serial <;> simp [fieldsFrom, Disk.numbers, Capture.numbers, SerialSpec.numbers, serial]

end Sys2Proof.Machine

/-! SUPPORT. The disk's part of the drive report, the result record, and the layouts together (R74, R122, R148). -/

namespace Sys2Proof.Machine

theorem Disk.flags_shown (k : Disk) : [(39, 1, flagBits [k.serial.isSome, k.verified, k.capture.held.isSome,
    (k.capture.held.bind CaptureEvent.sector).isSome, k.capture.second,
    (k.capture.held.map CaptureEvent.hard).getD false])] ⊆ fieldsFrom 37 k.numbers := by
  simp [fieldsFrom, Disk.numbers]

theorem Disk.serial_shown (k : Disk) : fieldsFrom 59 (match k.serial with
    | some (_, sp) => sp.numbers
    | none => [(4, 0), (4, 0), (4, 0)]) ⊆ fieldsFrom 37 k.numbers := by
  cases serial : k.serial <;> simp [fieldsFrom, Disk.numbers, Capture.numbers, SerialSpec.numbers, serial]

theorem ResultRecord.bytes_shows (r : ResultRecord) : r.bytes.length = 22 ∧
    ShowsBits (num r.bytes 7 1) [r.body.serial.isSome, r.body.verified, r.body.capture.held.isSome,
      (r.body.capture.held.bind CaptureEvent.sector).isSome, r.body.capture.second,
      (r.body.capture.held.map CaptureEvent.hard).getD false] ∧
    Shows r.bytes ([(0, 4, r.sequence.toNat), (4, 1, r.body.jobId), (5, 1, r.body.drive.val),
      (6, 1, r.body.outcome.code.toNat), (8, 4, r.body.serial.getD 0), (16, 1, r.body.softCount),
      (17, 2, r.body.totalRetries), (19, 1, r.body.tracksWritten), (20, 2, r.elapsed)] ++
      fieldsFrom 12 r.body.capture.numbers) := by
  have fields := shows_of_packed r.bytes_eq (List.Subset.refl _)
  refine ⟨by rw [r.bytes_eq]; simp [packed_length, numbers, Capture.numbers], Shows.bits (fields.subset ?_) (by simp),
    fields.subset ?_⟩
  · simp [fieldsFrom, numbers]
  · simp [fieldsFrom, numbers, Capture.numbers]

theorem Floor.ringReport_fields (f : Floor) :
    Shows f.ringReport [(0, 1, f.ring.records.length),
      (1, 4, ((f.ring.records.head?.map ResultRecord.sequence).getD f.ring.writePos).toNat),
      (5, 4, if f.ring.records = [] then 0 else (f.ring.writePos - 1).toNat), (9, 4, f.ring.writePos.toNat),
      (13, 4, f.portA.resultCursor.toNat), (17, 4, f.portB.resultCursor.toNat), (22, 2, f.ring.dropped),
      (24, 1, f.ring.waiters.length)] ∧
    ShowsBits (num f.ringReport 21 1) [!f.ring.records.isEmpty, f.portA.follow, f.portB.follow] := by
  obtain ⟨-, fields, -⟩ := f.ringReport_shows
  refine ⟨fields.subset ?_, Shows.bits (fields.subset ?_) (by simp)⟩
  · simp [fieldsFrom, ringNumbers]
  · simp [fieldsFrom, ringNumbers]

/-- Settles O35: the codes and lengths case by case, and each report by its packed numbers. -/
theorem reportsHoldTheirLayouts : Obligations.ReportsHoldTheirLayouts := by
  unfold Obligations.ReportsHoldTheirLayouts
  intro shows flag port bits part disk captured spec
  refine ⟨?codes, fun x => by cases x <;> rfl, fun x => by cases x <;> rfl, fun x => by cases x <;> rfl,
    ?endCause, fun x => by cases x <;> rfl, ?phase, ?fault, fun x => by cases x <;> rfl,
    fun x => by cases x <;> rfl, fun x => by cases x <;> rfl, fun x => by cases x <;> rfl, fun x => by cases x <;> rfl,
    fun x => by cases x <;> rfl, fun x => by cases x <;> rfl, fun x => by cases x <;> rfl, eventBytes_shows,
    ?image, ?entry, ?region, freeLengths_eq, ?job, ?queue, ?drive, ?record, ?ring, Floor.lineFlags_shows,
    DriveLines.flags_shows, fun bytes i n => ⟨rfl, num_succ⟩, fun n v => ⟨be_length n v, num_be_all n v, byte_mod v⟩⟩
  case codes =>
    refine requests_table ?_
    simp only [List.forall_mem_cons, List.not_mem_nil, false_imp_iff, implies_true, and_true]
    and_intros <;> exact rfl
  case endCause => rintro (_ | x) <;> [rfl; cases x <;> rfl]
  case phase => rintro (_ | x) <;> [rfl; cases x <;> rfl]
  case fault => rintro (_ | x) <;> [rfl; cases x <;> rfl]
  case image =>
    intro b slot o im bytes entries
    have check := b.imageReport_check slot o
    refine ⟨b.imageReport_length slot o, b.imageReport_flags slot o, b.imageReport_shows slot o, fun k under same => ?_,
      fun other => ⟨?_, fun absent => ?_, fun front back list first => ?_⟩⟩
    · obtain ⟨position, read⟩ := Base.checkPosition_under under same
      rw [position, read] at check
      exact check
    all_goals
      obtain ⟨position, read⟩ := Base.checkPosition_waits other
      rw [position, read] at check
    · exact check (36, 4, 0) (by simp)
    · have place : placeOf (fun k => decide (k = slot)) b.checkList = 0 :=
        placeOf_none fun k hk => decide_eq_false fun same => absent (same ▸ hk)
      rw [place] at check
      exact check (35, 1, 0) (by simp)
    · have place : placeOf (fun k => decide (k = slot)) (front ++ slot :: back) = front.length + 1 :=
        placeOf_append back (decide_eq_true rfl) fun k hk => decide_eq_false fun same => first (same ▸ hk)
      rw [list, place] at check
      exact check.subset (by simp)
  case entry =>
    intro e
    have fields := shows_of_packed e.reply_eq (List.Subset.refl _)
    exact ⟨by rw [e.reply_eq]; simp [packed_length, TrackEntry.numbers], by cases e <;> exact fields⟩
  case region =>
    intro b r
    have fields := b.regionReply_fields r
    refine ⟨by rw [b.regionReply_eq]; simp [packed_length, Base.regionNumbers], b.regionReply_place r, fun idle => ?_,
      fun front w back list owner first => ?_⟩
    · exact fields.subset (by simp [fieldsFrom, Base.regionNumbers, Base.progress_none idle])
    · exact fields.subset (by simp [fieldsFrom, Base.regionNumbers, Base.progress_some list owner first])
  case job =>
    intro j place bytes
    refine ⟨j.report_shows place, fun plain => Job.report_length_plain place plain, fun st serial => ?_⟩
    obtain ⟨length, numbers, reclaim⟩ := Job.report_serial_shows place serial
    exact ⟨length, numbers.subset (List.subset_append_left (fieldsFrom 31 st.spec.numbers) _),
      numbers.subset (List.subset_append_right (fieldsFrom 31 st.spec.numbers) _), reclaim⟩
  case queue =>
    exact fun f => ⟨f.queueSummary_edges.1, f.queueSummary_edges.2, fun i j => f.queueSummary_jobs,
      fun i c => f.queueSummary_waiting⟩
  case drive =>
    intro b f c few x bytes
    have place := driveReport_place (b := b) few
    refine ⟨driveReport_shows few, driveReport_flags few, driveReport_levels few, fun absent => ?_,
      fun front back list first => ?_, fun noDisk => ?_, fun k held => ?_⟩
    · have zero : placeOf (fun d => decide (d = c)) f.waiting = 0 :=
        placeOf_none fun d hd => decide_eq_false fun same => absent (same ▸ hd)
      rw [zero] at place
      exact place (15, 1, 0) (by simp)
    · have at0 : placeOf (fun d => decide (d = c)) (front ++ c :: back) = front.length + 1 :=
        placeOf_append back (decide_eq_true rfl) fun d hd => decide_eq_false fun same => first (same ▸ hd)
      rwa [list, at0] at place
    · rw [show bytes = _ from driveReport_noDisk few noDisk, driveNumbers_length]
    · obtain ⟨length, numbers⟩ := driveReport_diskPart (b := b) few held
      have serial := numbers.subset k.serial_shown
      refine ⟨length, (numbers.subset k.flags_shown).bits (by simp), numbers.subset k.fields_shown, fun plain => ?_,
        fun v sp carried => ?_⟩
      · rw [plain] at serial
        exact serial
      · rw [carried] at serial
        exact serial
  case record => exact ResultRecord.bytes_shows
  case ring =>
    intro f bytes
    obtain ⟨length, -, waiters⟩ := f.ringReport_shows
    exact ⟨length, f.ringReport_fields.1, f.ringReport_fields.2, waiters⟩

end Sys2Proof.Machine

/-! SUPPORT. The books of one job, said of the job and of the list of numbers that its disks in flight carry: what
issuing a disk (R80, R89) and accounting a posted one (R83, R90) do to them. -/

namespace Sys2Proof.Machine

/-! The numbers that disks carry. -/

/-- The part of a disk that the Job Queue accounts for: its job, its image and its number. -/
structure DiskTag where
  jobId : Nat
  slot : SlotId
  serial : Option (Nat × SerialSpec)

/-- The tag of a disk. -/
def Disk.tag (k : Disk) : DiskTag := { jobId := k.jobId, slot := k.slot, serial := k.serial }

/-- The numbers among what disks carry. -/
def numbersOf (held : List (Option (Nat × SerialSpec))) : List Nat := held.filterMap (Option.map Prod.fst)

@[simp] theorem numbersOf_cons_some (v : Nat) (sp : SerialSpec) (held : List (Option (Nat × SerialSpec))) :
    numbersOf (some (v, sp) :: held) = v :: numbersOf held := rfl

@[simp] theorem numbersOf_nil : numbersOf [] = [] := rfl

/-- What a disk of a job carries, where the tag is one of the job's. -/
def DiskTag.carriedFor (id : Nat) (k : DiskTag) : Option (Option (Nat × SerialSpec)) :=
  if k.jobId = id then some k.serial else none

/-- What the disks of a job carry, channel by channel. -/
def carriedOf (tags : Chan → Option DiskTag) (id : Nat) : List (Option (Nat × SerialSpec)) :=
  allChannels.filterMap fun c => (tags c).bind (DiskTag.carriedFor id)

theorem mem_carriedOf {tags : Chan → Option DiskTag} {id : Nat} {s : Option (Nat × SerialSpec)} :
    s ∈ carriedOf tags id ↔ ∃ c k, tags c = some k ∧ k.jobId = id ∧ k.serial = s := by
  simp only [carriedOf, List.mem_filterMap, mem_allChannels, true_and, Option.bind_eq_some_iff,
    DiskTag.carriedFor, Option.ite_none_right_eq_some, Option.some.injEq]

theorem carriedOf_congr {tags tags' : Chan → Option DiskTag} {id : Nat}
    (same : ∀ c, (tags' c).bind (DiskTag.carriedFor id) = (tags c).bind (DiskTag.carriedFor id)) :
    carriedOf tags' id = carriedOf tags id := by
  unfold carriedOf
  exact congrArg (List.filterMap · allChannels) (funext same)

/-- A disk set down leaves the rest of its job's. -/
theorem carriedOf_perm {tags tags' : Chan → Option DiskTag} {c : Chan} {k : DiskTag} (held : tags c = some k)
    (gone : tags' c = none) (others : ∀ d, d ≠ c → tags' d = tags d) :
    (carriedOf tags k.jobId).Perm (k.serial :: carriedOf tags' k.jobId) := by
  have split : allChannels.Perm (c :: allChannels.erase c) := List.perm_cons_erase (mem_allChannels c)
  have nodup : allChannels.Nodup := by decide
  have rest : (allChannels.erase c).filterMap (fun d => (tags d).bind (DiskTag.carriedFor k.jobId)) =
      (allChannels.erase c).filterMap fun d => (tags' d).bind (DiskTag.carriedFor k.jobId) :=
    List.filterMap_congr fun d hd => by rw [others d (nodup.mem_erase_iff.mp hd).1]
  have before := split.filterMap fun d => (tags d).bind (DiskTag.carriedFor k.jobId)
  have after := split.filterMap fun d => (tags' d).bind (DiskTag.carriedFor k.jobId)
  rw [List.filterMap_cons_some (b := k.serial) (by simp [held, DiskTag.carriedFor]), rest] at before
  rw [List.filterMap_cons_none (by simp [gone])] at after
  exact before.trans (after.symm.cons _)

/-- No job has more disks in flight than there are channels. -/
theorem carriedOf_length_le (tags : Chan → Option DiskTag) (id : Nat) : (carriedOf tags id).length ≤ 8 :=
  List.length_filterMap_le _ allChannels

/-! The books of a job. -/

/-- The books of a serialised job's numbers (R86, R88 to R93), over what its disks carry. -/
structure SerialBooks (held : List (Option (Nat × SerialSpec))) (j : Job) (st : SerialState) : Prop where
  step : 1 ≤ st.spec.step ∧ st.spec.step ≤ 255
  ascending : st.reclaim.Pairwise (· < ·)
  few : st.reclaim.length + j.inFlight ≤ 8
  next : st.next = st.spec.start + st.spec.step * (j.passed + st.reclaim.length + j.inFlight)
  bound : st.next ≤ st.spec.encoding.maximum + st.spec.step
  carried : ∀ s ∈ held, ∃ v, s = some (v, st.spec)
  once : (st.reclaim ++ numbersOf held).Nodup
  issued : ∀ v ∈ st.reclaim ++ numbersOf held, v < st.next ∧ v ≤ st.spec.encoding.maximum ∧
    ∃ i, v = st.spec.start + st.spec.step * i

/-- The books of a job (R65, R72, R75, R86), over what its disks carry. -/
structure JobBooks (held : List (Option (Nat × SerialSpec))) (j : Job) : Prop where
  counts : j.countLaw
  targets : j.targetLaw
  inFlight : j.inFlight = held.length
  numbers : ∀ st, j.serial = some st → SerialBooks held j st
  plain : j.serial = none → ∀ s ∈ held, s = none

theorem JobBooks.perm {held held' : List (Option (Nat × SerialSpec))} {j : Job} (books : JobBooks held j)
    (same : held.Perm held') : JobBooks held' j where
  counts := books.counts
  targets := books.targets
  inFlight := books.inFlight.trans same.length_eq
  plain h s hs := books.plain h s (same.mem_iff.mpr hs)
  numbers st h := by
    have law := books.numbers st h
    have numbers : (st.reclaim ++ numbersOf held).Perm (st.reclaim ++ numbersOf held') :=
      (same.filterMap _).append_left _
    exact {
      law with
      carried := fun s hs => law.carried s (same.mem_iff.mpr hs)
      once := numbers.nodup_iff.mp law.once
      issued := fun v hv => law.issued v (numbers.mem_iff.mpr hv) }

/-- A job's books do not look at its state and its end. -/
theorem JobBooks.restate {held : List (Option (Nat × SerialSpec))} {j : Job} (books : JobBooks held j)
    (state : JobState) (cause : Option EndCause) : JobBooks held { j with state := state, endCause := cause } :=
  { counts := books.counts, targets := books.targets, inFlight := books.inFlight, plain := books.plain
    numbers := fun st h => { books.numbers st h with } }

theorem JobBooks.afterEndTest {held : List (Option (Nat × SerialSpec))} {j : Job} (books : JobBooks held j) :
    JobBooks held j.afterEndTest := by
  unfold Job.afterEndTest
  split
  · exact books.restate _ _
  · exact books

/-! Issuing a disk (R80, R89). -/

theorem Job.issuable_target {j : Job} (h : j.issuable = true) : j.target ≠ 0 → j.passed + j.inFlight < j.target := by
  intro target
  simp only [Job.issuable, Bool.and_eq_true, Bool.or_eq_true, beq_iff_eq, decide_eq_true_eq] at h
  obtain ⟨⟨⟨-, room⟩, -⟩, -⟩ := h
  exact room.resolve_left target

theorem Job.issuable_next {j : Job} {st : SerialState} (h : j.issuable = true) (serial : j.serial = some st)
    (none : st.reclaim = []) : st.next ≤ st.spec.encoding.maximum := by
  simp only [Job.issuable, Bool.and_eq_true, Job.hasSerial, serial, none, List.isEmpty_nil, Bool.not_true,
    Bool.false_or, decide_eq_true_eq] at h
  exact h.1.2

/-- A number reclaimed is drawn again (R89): it moves from the list to the disk. -/
theorem SerialBooks.reissue {held : List (Option (Nat × SerialSpec))} {j : Job} {st : SerialState} {r : Nat}
    {rest : List Nat} (books : SerialBooks held j st) (reclaim : st.reclaim = r :: rest) :
    SerialBooks (some (r, st.spec) :: held) j.afterIssue { st with reclaim := rest } := by
  have moved : (rest ++ r :: numbersOf held).Perm (st.reclaim ++ numbersOf held) := by
    rw [reclaim]
    exact List.perm_middle
  have few := books.few
  have next := books.next
  have ascending := books.ascending
  simp only [reclaim, List.length_cons, List.pairwise_cons] at few next ascending
  exact {
    step := books.step
    bound := books.bound
    ascending := ascending.2
    few := by simp only [Job.afterIssue]; omega
    next := by
      simp only [Job.afterIssue]
      rw [next]
      congr 2
      omega
    carried := fun s hs => by
      rcases List.mem_cons.mp hs with rfl | hs
      · exact ⟨r, rfl⟩
      · exact books.carried s hs
    once := moved.nodup_iff.mpr books.once
    issued := fun v hv => books.issued v (moved.mem_iff.mp hv) }

/-- With none to reissue the counter's next is drawn (R89). -/
theorem SerialBooks.issueNext {held : List (Option (Nat × SerialSpec))} {j : Job} {st : SerialState}
    (books : SerialBooks held j st) (reclaim : st.reclaim = []) (free : j.inFlight < 8)
    (below : st.next ≤ st.spec.encoding.maximum) :
    SerialBooks (some (st.next, st.spec) :: held) j.afterIssue { st with next := st.next + st.spec.step } := by
  have issued := books.issued
  have once := books.once
  have next := books.next
  simp only [reclaim, List.nil_append, List.length_nil, Nat.add_zero] at issued once next
  exact {
    step := books.step
    ascending := books.ascending
    few := by simp only [Job.afterIssue, reclaim, List.length_nil]; omega
    bound := Nat.add_le_add_right below _
    next := by
      simp only [Job.afterIssue, reclaim, List.length_nil, Nat.add_zero]
      rw [next]
      ring
    carried := fun s hs => by
      rcases List.mem_cons.mp hs with rfl | hs
      · exact ⟨_, rfl⟩
      · exact books.carried s hs
    once := by
      simp only [reclaim, List.nil_append, numbersOf_cons_some, List.nodup_cons]
      exact ⟨fun h => absurd (issued _ h).1 (lt_irrefl _), once⟩
    issued := fun v hv => by
      simp only [reclaim, List.nil_append, numbersOf_cons_some, List.mem_cons] at hv
      have step := books.step.1
      rcases hv with rfl | hv
      · exact ⟨by simp only; omega, below, _, next⟩
      · obtain ⟨low, high, drawn⟩ := issued v hv
        exact ⟨by simp only; omega, high, drawn⟩ }

theorem JobBooks.afterIssue {held : List (Option (Nat × SerialSpec))} {j : Job} (books : JobBooks held j)
    (issuable : j.issuable = true) (free : held.length < 8) : JobBooks (j.drawn :: held) j.afterIssue where
  counts := by
    have counts := books.counts
    simp only [Job.countLaw, Job.afterIssue] at counts ⊢
    omega
  targets := fun target => by
    have room := Job.issuable_target issuable target
    simp only [Job.afterIssue]
    omega
  inFlight := by
    simp only [Job.afterIssue, List.length_cons, books.inFlight]
  plain := fun h s hs => by
    have none : j.serial = none := Option.map_eq_none_iff.mp h
    rcases List.mem_cons.mp hs with rfl | hs
    · exact Option.map_eq_none_iff.mpr none
    · exact books.plain none s hs
  numbers := fun st' h => by
    obtain ⟨st, serial, rfl⟩ := Option.map_eq_some_iff.mp h
    have law := books.numbers st serial
    have drawn : j.drawn = some (st.draw.1, st.spec) := by rw [Job.drawn, serial]; rfl
    rw [drawn]
    cases reclaim : st.reclaim with
    | cons r rest =>
      have draw : st.draw = (r, { st with reclaim := rest }) := by simp only [SerialState.draw, reclaim]
      rw [draw]
      exact law.reissue reclaim
    | nil =>
      have draw : st.draw = (st.next, { st with next := st.next + st.spec.step }) := by
        simp only [SerialState.draw, reclaim]
      rw [draw]
      exact law.issueNext reclaim (books.inFlight ▸ free) (Job.issuable_next issuable serial reclaim)

/-! Accounting a posted disk (R83, R90). -/

theorem insertSerial_perm (v : Nat) (l : List Nat) : (insertSerial v l).Perm (v :: l) := by
  induction l with
  | nil => exact .refl _
  | cons w rest ih =>
    rw [insertSerial]
    split
    · exact .refl _
    · exact (ih.cons w).trans (.swap v w rest)

theorem insertSerial_ascending {v : Nat} {l : List Nat} (ascending : l.Pairwise (· < ·)) (new : v ∉ l) :
    (insertSerial v l).Pairwise (· < ·) := by
  induction l with
  | nil => exact List.pairwise_singleton _ v
  | cons w rest ih =>
    simp only [List.pairwise_cons, List.mem_cons, not_or] at ascending new
    rw [insertSerial]
    split
    · next less =>
      simp only [List.pairwise_cons, List.mem_cons, forall_eq_or_imp]
      exact ⟨⟨less, fun x hx => less.trans (ascending.1 x hx)⟩, ascending⟩
    · next more =>
      rw [List.pairwise_cons]
      refine ⟨fun x hx => ?_, ih ascending.2 new.2⟩
      rcases List.mem_cons.mp ((insertSerial_perm v rest).mem_iff.mp hx) with rfl | hx
      · omega
      · exact ascending.1 x hx

/-- A number stays retired with its good record (R92). -/
theorem SerialBooks.retire {held : List (Option (Nat × SerialSpec))} {j j' : Job} {st : SerialState} {v : Nat}
    (books : SerialBooks (some (v, st.spec) :: held) j st) (inFlight : j'.inFlight + 1 = j.inFlight)
    (passed : j'.passed = j.passed + 1) : SerialBooks held j' st where
  step := books.step
  bound := books.bound
  ascending := books.ascending
  few := by have few := books.few; omega
  next := by
    rw [books.next]
    congr 2
    omega
  carried := fun s hs => books.carried s (List.mem_cons_of_mem _ hs)
  once := books.once.sublist ((List.sublist_cons_self v (numbersOf held)).append_left _)
  issued := fun u hu => books.issued u <| by
    rcases List.mem_append.mp hu with hu | hu
    · exact List.mem_append_left _ hu
    · exact List.mem_append_right _ (List.mem_cons_of_mem _ hu)

/-- A number not used goes back to the reclaim list (R90). -/
theorem SerialBooks.reclaimed {held : List (Option (Nat × SerialSpec))} {j j' : Job} {st : SerialState} {v : Nat}
    (books : SerialBooks (some (v, st.spec) :: held) j st) (inFlight : j'.inFlight + 1 = j.inFlight)
    (passed : j'.passed = j.passed) : SerialBooks held j' { st with reclaim := insertSerial v st.reclaim } := by
  have inserted := insertSerial_perm v st.reclaim
  have moved : (insertSerial v st.reclaim ++ numbersOf held).Perm (st.reclaim ++ v :: numbersOf held) :=
    (inserted.append_right _).trans List.perm_middle.symm
  have new : v ∉ st.reclaim := fun h =>
    List.disjoint_of_nodup_append books.once h (List.mem_cons_self (l := numbersOf held))
  exact {
    step := books.step
    bound := books.bound
    ascending := insertSerial_ascending books.ascending new
    few := by
      have few := books.few
      simp only [inserted.length_eq, List.length_cons]
      omega
    next := by
      simp only [inserted.length_eq, List.length_cons]
      rw [books.next]
      congr 2
      omega
    carried := fun s hs => books.carried s (List.mem_cons_of_mem _ hs)
    once := moved.nodup_iff.mpr books.once
    issued := fun u hu => books.issued u (moved.mem_iff.mp hu) }

theorem JobBooks.account {held : List (Option (Nat × SerialSpec))} {j : Job} {s : Option (Nat × SerialSpec)}
    (books : JobBooks (s :: held) j) (outcome : DiskOutcome) : JobBooks held (j.account outcome (s.map Prod.fst)) := by
  have inFlight : j.inFlight = held.length + 1 := books.inFlight
  have left : j.inFlight - 1 + 1 = j.inFlight := by omega
  exact {
    counts := by
      have counts := books.counts
      simp only [Job.countLaw, Job.account] at counts ⊢
      cases outcome <;> simp only <;> omega
    targets := fun target => by
      have targets := books.targets target
      simp only [Job.account]
      cases outcome <;> simp only <;> omega
    inFlight := by simp only [Job.account]; omega
    plain := fun h t ht => books.plain (Option.map_eq_none_iff.mp h) t (List.mem_cons_of_mem _ ht)
    numbers := fun st' h => by
      obtain ⟨st, serial, rfl⟩ := Option.map_eq_some_iff.mp h
      have law := books.numbers st serial
      obtain ⟨v, rfl⟩ := law.carried s List.mem_cons_self
      cases outcome with
      | pass => exact law.retire left rfl
      | passSoft => exact law.retire left rfl
      | fail => exact law.reclaimed left rfl
      | aborted => exact law.reclaimed left rfl }

end Sys2Proof.Machine

/-! SUPPORT. What the Job Queue, the waiting list, the Layout Engine and the eight channels know of one another, and
what a change of one channel leaves of it. The rest of the floor has no part in it. -/

namespace Sys2Proof.Machine

/-! The parts of the floor that the laws speak of. -/

/-- What the laws see of a channel. -/
structure Gist where
  state : ChannelState
  phase : Option Phase
  disk : Option DiskTag
  record : Option (Nat × Option Nat)
  seekTarget : Option Nat
  fetch : List FetchItem
  plan : Option TrackPlan

/-- The job and the number that a record names. -/
def RecordBody.names (r : RecordBody) : Nat × Option Nat := (r.jobId, r.serial)

def Channel.gist (x : Channel) : Gist :=
  { state := x.state, phase := x.phase, disk := x.disk.map Disk.tag, record := x.record.map RecordBody.names
    seekTarget := x.seekTarget, fetch := x.fetch, plan := x.attempt.plan }

/-- Whether a disk is held in a state (R99). -/
def ChannelState.holds : ChannelState → Bool
  | .spinup | .recal | .producing | .paused | .posting => true
  | .disabled | .empty | .loaded | .unloading | .fault => false

theorem Channel.holdsDisk_eq (x : Channel) : x.holdsDisk = x.state.holds := by
  unfold holdsDisk ChannelState.holds
  cases x.state <;> rfl

/-- The channel waits for a plan (R124). -/
def Gist.Planning (g : Gist) : Prop := g.state = .producing ∧ g.phase = some .plan

/-- What the laws see of the floor. -/
structure Works where
  jobs : List Job
  waiting : List Chan
  engine : LayoutEngine
  chans : Chan → Gist

def Floor.works (f : Floor) : Works :=
  { jobs := f.jobs, waiting := f.waiting, engine := f.engine, chans := fun c => (f.chan c).gist }

namespace Works

/-- The works with another channel at a place. -/
def set (w : Works) (c : Chan) (g : Gist) : Works := { w with chans := Function.update w.chans c g }

/-- The tags of the disks that the channels hold. -/
def tags (w : Works) : Chan → Option DiskTag := fun c => (w.chans c).disk

@[simp] theorem set_same (w : Works) (c : Chan) (g : Gist) : (w.set c g).chans c = g := by
  simp only [set, Function.update_self]

theorem set_other (w : Works) {c d : Chan} (g : Gist) (h : d ≠ c) : (w.set c g).chans d = w.chans d := by
  simp only [set, Function.update_of_ne h]

@[simp] theorem set_set (w : Works) (c : Chan) (g h : Gist) : (w.set c g).set c h = w.set c h := by
  simp only [set, Function.update_idem]

@[simp] theorem set_own (w : Works) (c : Chan) : w.set c (w.chans c) = w := by
  simp only [set, Function.update_eq_self]

end Works

namespace Floor

@[simp] theorem works_engine (f : Floor) : f.works.engine = f.engine := rfl

@[simp] theorem works_chans (f : Floor) (c : Chan) : f.works.chans c = (f.chan c).gist := rfl

@[simp] theorem works_setChan (f : Floor) (c : Chan) (x : Channel) : (f.setChan c x).works = f.works.set c x.gist := by
  simp only [works, Works.set, setChan_jobs, setChan_waiting, setChan_engine, Works.mk.injEq, true_and]
  funext d
  by_cases h : d = c
  · subst h
    rw [Function.update_self, chan_setChan_same]
  · rw [Function.update_of_ne h, chan_setChan_other f c d x h]

@[simp] theorem works_modChan (f : Floor) (c : Chan) (g : Channel → Channel) :
    (f.modChan c g).works = f.works.set c (g (f.chan c)).gist := f.works_setChan c _

@[simp] theorem works_post (f : Floor) (e : EventKind) : (f.post e).works = f.works := rfl

@[simp] theorem works_setPort (f : Floor) (p : PortId) (x : PortContext) : (f.setPort p x).works = f.works := by
  cases p <;> rfl

@[simp] theorem works_answer (f : Floor) (p : PortId) (r : Reply) : (f.answer p r).works = f.works :=
  f.works_setPort p _

@[simp] theorem works_modDrive (f : Floor) (c : Chan) (g : DriveLines → DriveLines) :
    (f.modDrive c g).works = f.works := rfl

@[simp] theorem works_orphanBurst (f : Floor) (mine : BurstWork → Bool) : (f.orphanBurst mine).works = f.works := by
  rw [orphanBurst_eq]
  rfl

/-- A change of a channel that the laws do not see. -/
theorem works_modChan_unseen (f : Floor) (c : Chan) {g : Channel → Channel}
    (unseen : (g (f.chan c)).gist = (f.chan c).gist) : (f.modChan c g).works = f.works := by
  rw [works_modChan, unseen]
  exact f.works.set_own c

end Floor

/-! The laws. -/

/-- What one channel obeys: a disk and a record just in the states that have them, one naming the other (R99, R117,
R149); a seek only in its phase (R102); image bytes to fetch within the region of the disk's image (R127). -/
structure Gist.Sound (b : Base) (g : Gist) : Prop where
  held : g.disk.isSome = g.state.holds
  posting : g.record.isSome = decide (g.state = .posting)
  record : ∀ r, g.record = some r → g.disk.map (fun k => (k.jobId, k.serial.map Prod.fst)) = some r
  seek : g.seekTarget.isSome = true → g.state = .producing ∧ g.phase = some .seek
  idle : g.disk = none ∨ g.state = .posting → g.fetch = [] ∧ g.plan = none
  fetch : ∀ k, g.disk = some k → ∀ i ∈ g.fetch, b.fits k.slot i.offset i.remaining
  plan : ∀ k p, g.disk = some k → g.plan = some p → ∀ x ∈ p.slots, ∀ offset, x.source = .image offset →
    b.fits k.slot offset p.layout.sectorSize

/-- The Job Queue's books over the tags of the disks held. -/
structure Books (jobs : List Job) (tags : Chan → Option DiskTag) : Prop where
  few : jobs.length ≤ 8
  distinct : (jobs.map (·.id)).Nodup
  each : ∀ j ∈ jobs, JobBooks (carriedOf tags j.id) j
  owned : ∀ c k, tags c = some k → ∃ j ∈ jobs, j.id = k.jobId ∧ j.slot = k.slot

/-- The waiting list's law over the channels (R76). -/
def WaitingLaw (waiting : List Chan) (chans : Chan → Gist) : Prop :=
  waiting.Nodup ∧ ∀ c, c ∈ waiting ↔ (chans c).state = .loaded

/-- The channels whose requests the Layout Engine holds and that still want them. -/
def LayoutEngine.wants (e : LayoutEngine) : List Chan :=
  e.queue.map (·.channel) ++ ((e.building.filter fun w => !w.discarded).map (·.request.channel)).toList

/-- The Layout Engine's law over the channels (R22, R25, R124). -/
structure EngineLaw (b : Base) (e : LayoutEngine) (chans : Chan → Gist) : Prop where
  queued : ∀ r ∈ e.queue, (chans r.channel).Planning ∧ ∀ slot offset, r.data = some (slot, offset) →
    (chans r.channel).disk.map (·.slot) = some slot ∧
      ∃ len, TrackEntry.data r.format offset len ∈ (b.image slot).trackMap
  built : ∀ w, e.building = some w → w.discarded = false → (chans w.request.channel).Planning ∧
    ∀ slot offset, w.request.data = some (slot, offset) →
      (chans w.request.channel).disk.map (·.slot) = some slot ∧ b.fits slot offset w.layout.spanLen
  once : e.wants.Nodup

/-- The laws of the works. -/
structure Works.Law (b : Base) (w : Works) : Prop where
  sound : ∀ c, (w.chans c).Sound b
  books : Books w.jobs w.tags
  waiting : WaitingLaw w.waiting w.chans
  engine : EngineLaw b w.engine w.chans
  /-- The reference counts are the jobs that name a slot (R60). -/
  references : ∀ k, (b.image k).refCount = (w.jobs.map (·.slot)).count k

/-! What a channel's state says. -/

namespace Gist.Sound

variable {b : Base} {g : Gist}

theorem disk_none (h : g.Sound b) (state : g.state.holds = false) : g.disk = none := by
  have held := h.held
  rwa [state, Option.isSome_eq_false_iff, Option.isNone_iff_eq_none] at held

theorem record_none (h : g.Sound b) (state : g.state ≠ .posting) : g.record = none := by
  have posting := h.posting
  rwa [decide_eq_false state, Option.isSome_eq_false_iff, Option.isNone_iff_eq_none] at posting

theorem not_seeking (h : g.Sound b) (other : g.state ≠ .producing ∨ g.phase ≠ some .seek) : g.seekTarget = none := by
  by_contra seeking
  obtain ⟨state, phase⟩ := h.seek (Option.isSome_iff_ne_none.mpr seeking)
  exact other.elim (· state) (· phase)

/-- A channel at rest: no disk, no record, nothing to fetch. -/
theorem rest {state : ChannelState} {phase : Option Phase} (holds : state.holds = false) :
    Gist.Sound b { state := state, phase := phase, disk := none, record := none, seekTarget := none, fetch := []
                   plan := none } where
  held := by rw [holds]; rfl
  posting := by
    have other : state ≠ .posting := fun h => by rw [h] at holds; cases holds
    rw [decide_eq_false other]
    rfl
  record := fun r h => by cases h
  seek := fun h => by cases h
  idle := fun _ => ⟨rfl, rfl⟩
  fetch := fun k h => by cases h
  plan := fun k p h => by cases h

end Gist.Sound

/-! What a change of one channel leaves of each law. -/

theorem EngineLaw.planning {b : Base} {e : LayoutEngine} {chans : Chan → Gist} (h : EngineLaw b e chans) {c : Chan}
    (wanted : c ∈ e.wants) : (chans c).Planning := by
  rcases List.mem_append.mp wanted with queued | built
  · obtain ⟨r, hr, rfl⟩ := List.mem_map.mp queued
    exact (h.queued r hr).1
  · obtain ⟨w, hw, rfl⟩ := Option.map_eq_some_iff.mp (Option.mem_toList.mp built)
    obtain ⟨building, live⟩ := Option.filter_eq_some_iff.mp hw
    exact (h.built w building (by simpa using live)).1

theorem LayoutEngine.mem_wants_of_queue {e : LayoutEngine} {r : PlanRequest} (h : r ∈ e.queue) :
    r.channel ∈ e.wants := List.mem_append_left _ (List.mem_map_of_mem h)

theorem LayoutEngine.mem_wants_of_building {e : LayoutEngine} {w : PlanBuild} (h : e.building = some w)
    (live : w.discarded = false) : w.request.channel ∈ e.wants := by
  refine List.mem_append_right _ (Option.mem_toList.mpr ?_)
  rw [h, Option.filter_some_pos (by simp [live])]
  rfl

/-- The engine looks at the channels that it works for only, at their state, phase and image. -/
theorem EngineLaw.congr {b : Base} {e : LayoutEngine} {chans chans' : Chan → Gist} (h : EngineLaw b e chans)
    (same : ∀ c ∈ e.wants, (chans' c).Planning ∧ (chans' c).disk = (chans c).disk) : EngineLaw b e chans' where
  once := h.once
  queued r hr := by
    obtain ⟨planning, disk⟩ := same _ (LayoutEngine.mem_wants_of_queue hr)
    exact ⟨planning, disk ▸ (h.queued r hr).2⟩
  built w hw live := by
    obtain ⟨planning, disk⟩ := same _ (LayoutEngine.mem_wants_of_building hw live)
    exact ⟨planning, disk ▸ (h.built w hw live).2⟩

theorem EngineLaw.update {b : Base} {e : LayoutEngine} {chans : Chan → Gist} (h : EngineLaw b e chans) {c : Chan}
    {g : Gist} (same : c ∈ e.wants → g.Planning ∧ g.disk = (chans c).disk) :
    EngineLaw b e (Function.update chans c g) := by
  refine h.congr fun d wanted => ?_
  by_cases hd : d = c
  · subst hd
    rw [Function.update_self]
    exact same wanted
  · rw [Function.update_of_ne hd]
    exact ⟨h.planning wanted, rfl⟩

theorem WaitingLaw.stand {waiting : List Chan} {chans : Chan → Gist} (h : WaitingLaw waiting chans) {c : Chan} {g : Gist}
    (same : g.state = .loaded ↔ (chans c).state = .loaded) : WaitingLaw waiting (Function.update chans c g) := by
  refine ⟨h.1, fun d => ?_⟩
  by_cases hd : d = c
  · subst hd
    rw [Function.update_self, same, h.2]
  · rw [Function.update_of_ne hd, h.2]

theorem WaitingLaw.join {waiting : List Chan} {chans : Chan → Gist} (h : WaitingLaw waiting chans) {c : Chan} {g : Gist}
    (before : (chans c).state ≠ .loaded) (after : g.state = .loaded) :
    WaitingLaw (waiting ++ [c]) (Function.update chans c g) := by
  have new : c ∉ waiting := fun hc => before ((h.2 c).mp hc)
  refine ⟨List.nodup_append.mpr ⟨h.1, List.nodup_singleton c, fun d hd e he => ?_⟩, fun d => ?_⟩
  · rw [List.mem_singleton.mp he]
    exact fun same => new (same ▸ hd)
  · by_cases hd : d = c
    · subst hd
      simp only [List.mem_append, List.mem_singleton, or_true, Function.update_self, after]
    · rw [Function.update_of_ne hd, List.mem_append, List.mem_singleton, h.2]
      simp only [hd, or_false]

theorem WaitingLaw.leave {waiting : List Chan} {chans : Chan → Gist} (h : WaitingLaw waiting chans) {c : Chan} {g : Gist}
    (after : g.state ≠ .loaded) :
    WaitingLaw (waiting.filter fun d => decide (d ≠ c)) (Function.update chans c g) := by
  refine ⟨h.1.filter _, fun d => ?_⟩
  rw [List.mem_filter, decide_eq_true_eq, h.2]
  by_cases hd : d = c
  · subst hd
    simp only [ne_eq, not_true_eq_false, and_false, Function.update_self, after]
  · rw [Function.update_of_ne hd]
    exact and_iff_left hd

/-- A job of the queue changed and the disks of that job with it. -/
def putIn (j : Job) (jobs : List Job) : List Job := jobs.map fun k => if k.id == j.id then j else k

theorem mem_putIn {j k : Job} {jobs : List Job} (h : k ∈ putIn j jobs) : k = j ∨ k ∈ jobs ∧ k.id ≠ j.id := by
  obtain ⟨m, hm, rfl⟩ := List.mem_map.mp h
  by_cases same : m.id = j.id
  · simp [same]
  · simp [same, hm]

theorem putIn_ids (j : Job) (jobs : List Job) : (putIn j jobs).map (·.id) = jobs.map (·.id) := by
  rw [putIn, List.map_map]
  refine List.map_congr_left fun k _ => ?_
  by_cases same : k.id = j.id <;> simp [same]

theorem mem_putIn_self {i j : Job} {jobs : List Job} (mem : i ∈ jobs) (id : j.id = i.id) : j ∈ putIn j jobs :=
  List.mem_map.mpr ⟨i, mem, by simp [id]⟩

theorem mem_putIn_of_ne {j k : Job} {jobs : List Job} (mem : k ∈ jobs) (id : k.id ≠ j.id) : k ∈ putIn j jobs :=
  List.mem_map.mpr ⟨k, mem, by simp [id]⟩

/-- The test of R84 changes a job's state and end only. -/
theorem Job.afterEndTest_same (j : Job) : j.afterEndTest.id = j.id ∧ j.afterEndTest.slot = j.slot := by
  unfold afterEndTest
  split <;> exact ⟨rfl, rfl⟩

namespace Books

variable {jobs : List Job} {tags tags' : Chan → Option DiskTag}

/-- Two records of the queue with one id are one. -/
theorem eq_of_id (h : Books jobs tags) {i j : Job} (hi : i ∈ jobs) (hj : j ∈ jobs) (id : i.id = j.id) : i = j :=
  List.inj_on_of_nodup_map h.distinct hi hj id

/-- A job that changes names the image that it named. -/
theorem putIn_slots (h : Books jobs tags) {i j : Job} (mem : i ∈ jobs) (id : j.id = i.id) (slot : j.slot = i.slot) :
    (putIn j jobs).map (·.slot) = jobs.map (·.slot) := by
  rw [putIn, List.map_map]
  refine List.map_congr_left fun k hk => ?_
  by_cases same : k.id = j.id
  · rw [h.eq_of_id hk mem (same.trans id)]
    simp [id, slot]
  · simp [same]

/-- A job changes and its disks with it; the disks of the others stand. -/
theorem put (h : Books jobs tags) {i j : Job} (mem : i ∈ jobs) (id : j.id = i.id) (slot : j.slot = i.slot)
    (own : JobBooks (carriedOf tags' j.id) j) (others : ∀ k ∈ jobs, k.id ≠ j.id → carriedOf tags' k.id = carriedOf tags k.id)
    (disks : ∀ c k, tags' c = some k → tags c = some k ∨ k.jobId = j.id ∧ k.slot = j.slot) :
    Books (putIn j jobs) tags' where
  few := by rw [putIn, List.length_map]; exact h.few
  distinct := by rw [putIn_ids]; exact h.distinct
  each k hk := by
    rcases mem_putIn hk with rfl | ⟨hk, ne⟩
    · exact own
    · rw [others k hk ne]
      exact h.each k hk
  owned c k hk := by
    have ofJob (idk : k.jobId = j.id) (slotk : k.slot = j.slot) : ∃ m ∈ putIn j jobs, m.id = k.jobId ∧ m.slot = k.slot :=
      ⟨j, mem_putIn_self mem id, idk.symm, slotk.symm⟩
    rcases disks c k hk with before | ⟨idk, slotk⟩
    · obtain ⟨m, hm, idm, slotm⟩ := h.owned c k before
      by_cases same : m.id = j.id
      · have eq := h.eq_of_id hm mem (same.trans id)
        subst eq
        exact ofJob (idm.symm.trans same) (slotm.symm.trans slot.symm)
      · exact ⟨m, mem_putIn_of_ne hm same, idm, slotm⟩
    · exact ofJob idk slotk

/-- A job's state and end change. -/
theorem restate (h : Books jobs tags) {j : Job} (mem : j ∈ jobs) (state : JobState) (cause : Option EndCause) :
    Books (putIn { j with state := state, endCause := cause } jobs) tags :=
  h.put mem rfl rfl ((h.each j mem).restate state cause) (fun _ _ _ => rfl) fun _ _ hk => .inl hk

/-- A disk of a job is set down, or taken up: the disks of the other jobs stand. -/
theorem others_stand {c : Chan} {id : Nat} (gone : ∀ k, tags c = some k → k.jobId = id)
    (come : ∀ k, tags' c = some k → k.jobId = id) (same : ∀ d, d ≠ c → tags' d = tags d) {i : Nat} (ne : i ≠ id) :
    carriedOf tags' i = carriedOf tags i := by
  have unseen (o : Option DiskTag) (h : ∀ k, o = some k → k.jobId = id) : o.bind (DiskTag.carriedFor i) = none := by
    rw [Option.bind_eq_none_iff]
    intro k hk
    rw [DiskTag.carriedFor, if_neg]
    exact fun eq => ne (eq.symm.trans (h k hk))
  refine carriedOf_congr fun d => ?_
  by_cases hd : d = c
  · subst hd
    rw [unseen _ gone, unseen _ come]
  · rw [same d hd]

/-- A disk of a job is issued to a channel that holds none (R80). -/
theorem issue (h : Books jobs tags) {c : Chan} {j : Job} {k : DiskTag} (mem : j ∈ jobs) (issuable : j.issuable = true)
    (free : tags c = none) (come : tags' c = some k) (same : ∀ d, d ≠ c → tags' d = tags d) (id : k.jobId = j.id)
    (slot : k.slot = j.slot) (serial : k.serial = j.drawn) : Books (putIn j.afterIssue jobs) tags' := by
  have perm := carriedOf_perm come free fun d hd => (same d hd).symm
  rw [id, serial] at perm
  have room : (carriedOf tags j.id).length < 8 := by
    have most := carriedOf_length_le tags' j.id
    rw [perm.length_eq] at most
    exact most
  refine h.put (j := j.afterIssue) mem rfl rfl (((h.each j mem).afterIssue issuable room).perm perm.symm) ?_ ?_
  · intro m _ ne
    refine others_stand (c := c) (fun _ hk => ?_) (fun _ hk => ?_) same ne
    · rw [free] at hk
      cases hk
    · rw [come] at hk
      cases hk
      exact id
  · intro d m hm
    by_cases hd : d = c
    · subst hd
      rw [come] at hm
      cases hm
      exact .inr ⟨id, slot⟩
    · exact .inl (same d hd ▸ hm)

/-- The record of a channel's disk is accounted to its job, and the disk gone (R83, R84, R90). -/
theorem account (h : Books jobs tags) {c : Chan} {j : Job} {k : DiskTag} (mem : j ∈ jobs) (held : tags c = some k)
    (gone : tags' c = none) (same : ∀ d, d ≠ c → tags' d = tags d) (id : j.id = k.jobId) (outcome : DiskOutcome) :
    Books (putIn (j.account outcome (k.serial.map Prod.fst)).afterEndTest jobs) tags' := by
  obtain ⟨sameId, sameSlot⟩ := (j.account outcome (k.serial.map Prod.fst)).afterEndTest_same
  have jobId : (j.account outcome (k.serial.map Prod.fst)).afterEndTest.id = j.id := sameId
  have perm := carriedOf_perm held gone same
  rw [← id] at perm
  refine h.put (j := (j.account outcome (k.serial.map Prod.fst)).afterEndTest) mem sameId sameSlot ?_ ?_ ?_
  · rw [jobId]
    exact (((h.each j mem).perm perm).account outcome).afterEndTest
  · intro m _ ne
    rw [jobId] at ne
    refine others_stand (c := c) (fun _ hk => ?_) (fun _ hk => ?_) same ne
    · rw [held] at hk
      cases hk
      exact id.symm
    · rw [gone] at hk
      cases hk
  · intro d m hm
    by_cases hd : d = c
    · subst hd
      rw [gone] at hm
      cases hm
    · exact .inl (same d hd ▸ hm)

/-- A new job has no disks yet (R67). -/
theorem add (h : Books jobs tags) {j : Job} (room : jobs.length < 8) (new : ∀ i ∈ jobs, i.id ≠ j.id)
    (own : JobBooks [] j) : Books (jobs ++ [j]) tags where
  few := by rw [List.length_append]; exact room
  distinct := by
    rw [List.map_append, List.nodup_append]
    refine ⟨h.distinct, List.nodup_singleton _, fun x hx y hy => ?_⟩
    obtain ⟨i, hi, rfl⟩ := List.mem_map.mp hx
    rw [List.mem_singleton.mp hy]
    exact new i hi
  each i hi := by
    rcases List.mem_append.mp hi with hi | hi
    · exact h.each i hi
    · rw [List.mem_singleton.mp hi]
      have none : carriedOf tags j.id = [] := List.eq_nil_iff_forall_not_mem.mpr fun s hs => by
        obtain ⟨c, k, hk, id, -⟩ := mem_carriedOf.mp hs
        obtain ⟨i, hi, idi, -⟩ := h.owned c k hk
        exact new i hi (idi.trans id)
      rw [none]
      exact own
  owned c k hk := by
    obtain ⟨i, hi, same⟩ := h.owned c k hk
    exact ⟨i, List.mem_append_left _ hi, same⟩

/-- A job without a disk in flight leaves (R73). -/
theorem drop (h : Books jobs tags) {j : Job} (mem : j ∈ jobs) (idle : j.inFlight = 0) :
    Books (jobs.filter fun i => i.id != j.id) tags where
  few := (List.length_filter_le _ _).trans h.few
  distinct := h.distinct.sublist (List.filter_sublist.map _)
  each i hi := h.each i (List.mem_of_mem_filter hi)
  owned c k hk := by
    obtain ⟨i, hi, id, slot⟩ := h.owned c k hk
    refine ⟨i, List.mem_filter.mpr ⟨hi, ?_⟩, id, slot⟩
    rw [bne_iff_ne]
    intro same
    have carries : k.serial ∈ carriedOf tags j.id := mem_carriedOf.mpr ⟨c, k, hk, id.symm.trans same, rfl⟩
    have none := (h.each j mem).inFlight
    rw [idle] at none
    rw [List.eq_nil_of_length_eq_zero none.symm] at carries
    cases carries

end Books

namespace Works.Law

variable {b : Base} {w : Works} {c : Chan} {g : Gist}

theorem sound_set (h : w.Law b) (sound : g.Sound b) (d : Chan) : ((w.set c g).chans d).Sound b := by
  by_cases hd : d = c
  · subst hd
    rw [set_same]
    exact sound
  · rw [set_other w g hd]
    exact h.sound d

theorem tags_set (w : Works) (disk : g.disk = (w.chans c).disk) : (w.set c g).tags = w.tags := by
  funext d
  unfold Works.tags
  by_cases hd : d = c
  · subst hd
    rw [set_same, disk]
  · rw [set_other w g hd]

theorem not_wanted (h : w.Law b) (other : ¬ (w.chans c).Planning) : c ∉ w.engine.wants :=
  fun wanted => other (h.engine.planning wanted)

/-- A channel changes with its disk, its place in the waiting list and its request, if it has one, as they were. -/
theorem set (h : w.Law b) (sound : g.Sound b) (disk : g.disk = (w.chans c).disk)
    (loaded : g.state = .loaded ↔ (w.chans c).state = .loaded) (wanted : c ∈ w.engine.wants → g.Planning) :
    (w.set c g).Law b where
  sound := h.sound_set sound
  books := (tags_set w disk).symm ▸ h.books
  waiting := h.waiting.stand loaded
  engine := h.engine.update fun hc => ⟨wanted hc, disk⟩
  references := h.references

/-- A channel without a disk enters LOADED (R76). -/
theorem join (h : w.Law b) (sound : g.Sound b) (disk : g.disk = (w.chans c).disk) (before : (w.chans c).state ≠ .loaded)
    (after : g.state = .loaded) (unwanted : c ∉ w.engine.wants) :
    Works.Law b { w.set c g with waiting := w.waiting ++ [c] } where
  sound := h.sound_set sound
  books := show Books w.jobs (w.set c g).tags from (tags_set w disk).symm ▸ h.books
  waiting := h.waiting.join before after
  engine := h.engine.update fun hc => absurd hc unwanted
  references := h.references

/-- A channel without a disk is in LOADED no more (R76). -/
theorem leave (h : w.Law b) (sound : g.Sound b) (disk : g.disk = (w.chans c).disk) (after : g.state ≠ .loaded)
    (unwanted : c ∉ w.engine.wants) :
    Works.Law b { w.set c g with waiting := w.waiting.filter fun d => decide (d ≠ c) } where
  sound := h.sound_set sound
  books := show Books w.jobs (w.set c g).tags from (tags_set w disk).symm ▸ h.books
  waiting := h.waiting.leave after
  engine := h.engine.update fun hc => absurd hc unwanted
  references := h.references

end Works.Law

end Sys2Proof.Machine

/-! SUPPORT. The shared operations of a disk's life keep the laws of the works: aborts and postings (R115, R117), the
ring's taking of records (R153), assignment (R80), and what a step makes due. -/

namespace Sys2Proof.Machine

/-! Channels as the operations leave them. -/

/-- A channel that holds no disk, in a state and phase. -/
def Gist.rest (state : ChannelState) (phase : Option Phase) : Gist :=
  { state := state, phase := phase, disk := none, record := none, seekTarget := none, fetch := [], plan := none }

/-- A channel that has just taken a disk, in SPINUP (R109, R110). -/
def Gist.started (k : DiskTag) : Gist :=
  { state := .spinup, phase := none, disk := some k, record := none, seekTarget := none, fetch := [], plan := none }

/-- A channel that posts its disk's record (R117). -/
def Gist.posted (k : DiskTag) : Gist :=
  { state := .posting, phase := none, disk := some k, record := some (k.jobId, k.serial.map Prod.fst)
    seekTarget := none, fetch := [], plan := none }

theorem Gist.Sound.restAt {b : Base} {state : ChannelState} (holds : state.holds = false) (phase : Option Phase) :
    (Gist.rest state phase).Sound b := .rest holds

theorem Gist.Sound.started {b : Base} (k : DiskTag) : (Gist.started k).Sound b where
  held := rfl
  posting := rfl
  record r h := by cases h
  seek h := by cases h
  idle _ := ⟨rfl, rfl⟩
  fetch _ _ i hi := by cases hi
  plan _ _ _ h := by cases h

theorem Gist.Sound.posted {b : Base} (k : DiskTag) : (Gist.posted k).Sound b where
  held := rfl
  posting := rfl
  record r h := by cases h; rfl
  seek h := by cases h
  idle _ := ⟨rfl, rfl⟩
  fetch _ _ i hi := by cases hi
  plan _ _ _ h := by cases h

theorem Channel.toPosting_gist {x : Channel} {k : Disk} (disk : x.disk = some k) (c : Chan) (outcome : DiskOutcome) :
    (x.toPosting c outcome).gist = .posted k.tag := by
  simp only [gist, toPosting, stopTimers, disk, Gist.posted]
  rfl

/-- A sound channel in a state without a disk is at rest. -/
theorem Gist.Sound.eq_rest {b : Base} {g : Gist} (h : g.Sound b) (holds : g.state.holds = false) :
    g = .rest g.state g.phase := by
  have disk := h.disk_none holds
  have record : g.record = none := h.record_none fun posting => by rw [posting] at holds; cases holds
  have seek : g.seekTarget = none := h.not_seeking (.inl fun producing => by rw [producing] at holds; cases holds)
  obtain ⟨fetch, plan⟩ := h.idle (.inl disk)
  obtain ⟨state, phase, d, r, s, f, p⟩ := g
  subst disk record seek fetch plan
  rfl

/-- A sound channel in a state that holds a disk holds one. -/
theorem Gist.Sound.disk_some {b : Base} {x : Channel} (h : x.gist.Sound b) (holds : x.state.holds = true) :
    ∃ k, x.disk = some k := by
  have held : (x.disk.map Disk.tag).isSome = true := h.held.trans holds
  rw [Option.isSome_map] at held
  exact Option.isSome_iff_exists.mp held

theorem ChannelState.holds_of_busy {state : ChannelState} (busy : state ∈ [.spinup, .recal, .producing, .paused]) :
    state.holds = true := by
  simp only [List.mem_cons, List.not_mem_nil, or_false] at busy
  rcases busy with rfl | rfl | rfl | rfl <;> rfl

/-- A channel that holds a disk is not in LOADED. -/
theorem Gist.Sound.not_loaded {b : Base} {g : Gist} (h : g.Sound b) {k : DiskTag} (disk : g.disk = some k) :
    g.state ≠ .loaded := by
  intro loaded
  have held := h.held
  rw [disk, loaded] at held
  cases held

/-- A channel that holds a disk and no request enters POSTING. -/
theorem Works.Law.post {b : Base} {w : Works} (h : w.Law b) {c : Chan} {k : DiskTag} (disk : (w.chans c).disk = some k)
    (unwanted : c ∉ w.engine.wants) : (w.set c (.posted k)).Law b :=
  h.set (.posted k) disk.symm (iff_of_false (fun l => by cases l) ((h.sound c).not_loaded disk))
    fun hc => absurd hc unwanted

/-- A withdrawal leaves the others' requests (R25). -/
theorem LayoutEngine.wants_withdraw (e : LayoutEngine) (c : Chan) :
    (e.withdraw c).wants = e.wants.filter fun d => decide (d ≠ c) := by
  unfold wants withdraw
  rw [List.filter_append, List.filter_map]
  congr 1
  cases e.building with
  | none => rfl
  | some w => by_cases same : w.request.channel = c <;> cases live : w.discarded <;> simp [same, live, Option.filter]

theorem LayoutEngine.not_wanted_withdraw (e : LayoutEngine) (c : Chan) : c ∉ (e.withdraw c).wants := by
  rw [wants_withdraw, List.mem_filter]
  simp

theorem EngineLaw.withdraw {b : Base} {e : LayoutEngine} {chans : Chan → Gist} (h : EngineLaw b e chans) (c : Chan) :
    EngineLaw b (e.withdraw c) chans where
  queued r hr := h.queued r (List.mem_of_mem_filter hr)
  built w hw live := by
    obtain ⟨v, hv, same⟩ := Option.map_eq_some_iff.mp hw
    split at same
    · subst same
      cases live
    · subst same
      exact h.built v hv live
  once := by
    rw [LayoutEngine.wants_withdraw]
    exact h.once.filter _

theorem Works.Law.withdraw {b : Base} {w : Works} (h : w.Law b) (c : Chan) :
    Works.Law b { w with engine := w.engine.withdraw c } :=
  { h with engine := h.engine.withdraw c }

/-- A channel without a disk takes one of a job's, and the waiting list loses it (R80). -/
theorem Works.Law.assign {b : Base} {w : Works} (h : w.Law b) {c : Chan} {j : Job} {k : DiskTag} {g : Gist}
    (loaded : (w.chans c).state = .loaded) (mem : j ∈ w.jobs) (issuable : j.issuable = true) (sound : g.Sound b)
    (disk : g.disk = some k) (id : k.jobId = j.id) (slot : k.slot = j.slot) (serial : k.serial = j.drawn) :
    Works.Law b { w.set c g with
      jobs := putIn j.afterIssue w.jobs, waiting := w.waiting.filter fun d => decide (d ≠ c) } where
  sound := h.sound_set sound
  books := by
    refine h.books.issue (c := c) (k := k) mem issuable ?_ ?_ (fun d hd => ?_) id slot serial
    · exact (h.sound c).disk_none (by rw [loaded]; rfl)
    · exact (congrArg Gist.disk (w.set_same c g)).trans disk
    · exact congrArg Gist.disk (w.set_other g hd)
  waiting := h.waiting.leave (sound.not_loaded disk)
  engine := h.engine.update fun hc => by
    have planning := (h.engine.planning hc).1
    rw [loaded] at planning
    cases planning
  references k := by
    rw [show (putIn j.afterIssue w.jobs).map (·.slot) = _ from h.books.putIn_slots mem rfl rfl]
    exact h.references k

/-- A channel's record is taken: its job accounts for the disk, which is gone (R83, R117). -/
theorem Works.Law.take {b : Base} {w : Works} (h : w.Law b) {c : Chan} {j : Job} {k : DiskTag}
    (posting : (w.chans c).state = .posting) (disk : (w.chans c).disk = some k) (mem : j ∈ w.jobs)
    (id : j.id = k.jobId) (outcome : DiskOutcome) {state : ChannelState} (holds : state.holds = false)
    (other : state ≠ .loaded) (phase : Option Phase) :
    Works.Law b { w.set c (.rest state phase) with
      jobs := putIn (j.account outcome (k.serial.map Prod.fst)).afterEndTest w.jobs } where
  sound := h.sound_set (.restAt holds phase)
  books := by
    refine h.books.account (c := c) mem disk ?_ (fun d hd => ?_) id outcome
    · exact congrArg Gist.disk (w.set_same c _)
    · exact congrArg Gist.disk (w.set_other _ hd)
  waiting := h.waiting.stand (iff_of_false other fun l => by rw [posting] at l; cases l)
  engine := h.engine.update fun hc => by
    have planning := (h.engine.planning hc).1
    rw [posting] at planning
    cases planning
  references i := by
    obtain ⟨sameId, sameSlot⟩ := (j.account outcome (k.serial.map Prod.fst)).afterEndTest_same
    rw [show (putIn (j.account outcome (k.serial.map Prod.fst)).afterEndTest w.jobs).map (·.slot) = _ from
      h.books.putIn_slots mem sameId sameSlot]
    exact h.references i

namespace Floor

variable {b : Base} {f : Floor} {c : Chan}

/-! Entering POSTING (R117) and aborts (R115). -/

theorem works_enterPosting {k : Disk} (disk : (f.chan c).disk = some k) (outcome : DiskOutcome) :
    (f.enterPosting c outcome).works = f.works.set c (.posted k.tag) := by
  have posting := (f.chan c).toPosting_gist disk c outcome
  calc (f.enterPosting c outcome).works
      = ((f.modChan c fun x => x.toPosting c outcome).orphanBurst (BurstWork.isFetchOf c)).works := rfl
    _ = f.works.set c (.posted k.tag) := by rw [works_orphanBurst, works_modChan, posting]

theorem law_enterPosting (h : f.works.Law b) {k : Disk} (disk : (f.chan c).disk = some k)
    (unwanted : c ∉ f.engine.wants) (outcome : DiskOutcome) : (f.enterPosting c outcome).works.Law b := by
  rw [works_enterPosting disk]
  exact h.post (by rw [works_chans, Channel.gist, disk]; rfl) unwanted

theorem law_abortDisk (h : f.works.Law b) (c : Chan) (cause : Cause) : (f.abortDisk c cause).works.Law b := by
  by_cases abortable : (f.chan c).abortable = true
  · obtain ⟨k, disk⟩ := (h.sound c).disk_some (ChannelState.holds_of_busy ((f.chan c).abortable_iff.mp abortable))
    have marked : ((f.chan c).markAbort cause).disk = some (k.takeEvent true cause none) := by
      rw [Channel.markAbort, disk]
      rfl
    have works : (f.abortDisk c cause).works =
        Works.set { f.works with engine := f.engine.withdraw c } c (.posted k.tag) := by
      rw [abortDisk_eq cause abortable]
      calc _ = Works.set { f.works with engine := f.engine.withdraw c } c
            (((f.chan c).markAbort cause).toPosting c .aborted).gist :=
          congrArg (fun w : Works => { w with engine := f.engine.withdraw c }) (f.works_setChan c _)
        _ = _ := by rw [Channel.toPosting_gist marked]; rfl
    rw [works]
    exact (h.withdraw c).post (show (f.chan c).gist.disk = _ by rw [Channel.gist, disk]; rfl)
      (f.engine.not_wanted_withdraw c)
  · rw [abortDisk_of_not cause abortable]
    exact h

/-! Waiting for a disk (R76, R120). -/

theorem works_enterLoaded (f : Floor) (c : Chan) : (f.enterLoaded c).works =
    { f.works.set c { (f.chan c).gist with state := .loaded } with waiting := f.waiting ++ [c] } :=
  congrArg (fun w : Works => { w with waiting := f.waiting ++ [c] })
    (f.works_modChan c fun x => { x with state := .loaded })

/-- A channel without a disk that is not in LOADED enters it. -/
theorem law_enterLoaded (h : f.works.Law b) (holds : (f.chan c).state.holds = false)
    (other : (f.chan c).state ≠ .loaded) : (f.enterLoaded c).works.Law b := by
  have rest : (f.chan c).gist = .rest (f.chan c).state (f.chan c).phase := (h.sound c).eq_rest holds
  rw [works_enterLoaded, rest]
  refine h.join (g := .rest .loaded (f.chan c).phase) (.restAt rfl _) ?_ other rfl (h.not_wanted fun planning => ?_)
  · exact ((h.sound c).disk_none holds).symm
  · have producing : (f.chan c).state = .producing := planning.1
    rw [producing] at holds
    cases holds

/-- A channel without a disk goes from one state to another, LOADED neither of them. -/
theorem law_rest (h : f.works.Law b) {x : Channel} {state : ChannelState} {phase : Option Phase}
    (gist : x.gist = .rest state phase) (before : (f.chan c).state.holds = false) (unloaded : (f.chan c).state ≠ .loaded)
    (holds : state.holds = false) (other : state ≠ .loaded) : (f.setChan c x).works.Law b := by
  rw [works_setChan, gist]
  refine h.set (.restAt holds phase) ((h.sound c).disk_none before).symm (iff_of_false other unloaded) fun wanted => ?_
  have producing : (f.chan c).state = .producing := (h.engine.planning wanted).1
  rw [producing] at before
  cases before

theorem works_enterFault (f : Floor) (c : Chan) :
    (f.enterFault c).works = f.works.set c { (f.chan c).gist with state := .fault } := by
  rw [enterFault, works_post, works_modChan]
  rfl

/-! The ring (R152, R153, R157). -/

theorem works_freeRecords (f : Floor) : f.freeRecords.works = f.works := by
  unfold freeRecords
  split <;> rfl

/-- The queue after accounting for a record whose job is in it. -/
theorem works_accountJob {r : RecordBody} {j : Job} (job : f.job r.jobId = some j) : (f.accountJob r).works =
    { f.works with jobs := putIn (j.account r.outcome r.serial).afterEndTest f.jobs } := by
  unfold accountJob
  rw [job]
  simp only
  split <;> rfl

theorem chan_accountJob (f : Floor) (r : RecordBody) (c : Chan) : (f.accountJob r).chan c = f.chan c := by
  unfold accountJob
  split
  · rfl
  · simp only
    split <;> rfl

/-- A channel that leaves POSTING keeps the laws, if it does in each state without a disk. -/
theorem law_completePosting (outcome : DiskOutcome) (record : (f.chan c).seekTarget = none)
    (fetch : (f.chan c).fetch = []) (plan : (f.chan c).attempt.plan = none)
    (taken : ∀ state, state.holds = false → state ≠ .loaded →
      (f.works.set c (.rest state (f.chan c).phase)).Law b) : (f.completePosting c outcome).works.Law b := by
  have after (x : Channel) (state : ChannelState) (hx : x = (f.chan c).afterPosting outcome) :
      { x with state := state }.gist = .rest state (f.chan c).phase := by
    subst hx
    simp only [Channel.gist, Channel.afterPosting, record, fetch, plan, Gist.rest]
    rfl
  unfold completePosting
  simp only
  split
  · rw [works_modDrive, works_setChan, after _ _ rfl]
    exact taken .unloading rfl (by decide)
  · split
    · rw [works_enterFault, works_setChan, Works.set_set, chan_setChan_same]
      exact (congrArg (fun g => (f.works.set c g).Law b) (after _ .fault rfl)).mpr (taken .fault rfl (by decide))
    · have emptied : (f.setChan c { (f.chan c).afterPosting outcome with state := .empty }).works.Law b := by
        rw [works_setChan, after _ _ rfl]
        exact taken .empty rfl (by decide)
      split
      · refine law_enterLoaded emptied ?_ ?_
        · rw [chan_setChan_same]
          rfl
        · rw [chan_setChan_same]
          exact (by decide : ChannelState.empty ≠ .loaded)
      · exact emptied

theorem law_takeRecord (h : f.works.Law b) {body : RecordBody} (record : (f.chan c).record = some body) :
    (f.takeRecord c body).works.Law b := by
  have sound : (f.chan c).gist.Sound b := h.sound c
  have names : (f.chan c).gist.record = some body.names := congrArg (Option.map RecordBody.names) record
  have posting : (f.chan c).state = .posting := by
    have same := sound.posting
    rw [names] at same
    exact of_decide_eq_true same.symm
  obtain ⟨k, disk, same⟩ := Option.map_eq_some_iff.mp (sound.record _ names)
  obtain ⟨sameId, sameSerial⟩ := Prod.mk.inj same
  obtain ⟨i, mem, idi, -⟩ := h.books.owned c k disk
  obtain ⟨j, job⟩ : ∃ j, f.job body.jobId = some j := by
    by_contra none
    simp only [← Option.ne_none_iff_exists', ne_eq, not_not] at none
    exact (f.job_eq_none_iff _).mp none i mem (idi.trans sameId)
  obtain ⟨memj, idj⟩ := Floor.job_eq_some job
  have idle := sound.idle (.inr posting)
  have still : (f.chan c).seekTarget = none := sound.not_seeking <| .inl fun producing => by
    have same : (f.chan c).state = .producing := producing
    rw [posting] at same
    cases same
  let g := { f with ring := f.ring.append c body (f.chan c).elapsedNow }
  have works : (g.accountJob body).works =
      { f.works with jobs := putIn (j.account body.outcome body.serial).afterEndTest f.jobs } :=
    works_accountJob (f := g) job
  have chan : (g.accountJob body).chan c = f.chan c := chan_accountJob g body c
  have completed : ((g.accountJob body).completePosting c body.outcome).works.Law b := by
    refine law_completePosting _ (chan ▸ still) (chan ▸ idle.1) (chan ▸ idle.2) fun state holds other => ?_
    rw [works, chan, ← sameSerial]
    exact h.take posting disk memj (idj.trans sameId.symm) body.outcome holds other _
  exact completed

theorem law_offer (h : f.works.Law b) (c : Chan) : (f.offer c).works.Law b := by
  unfold offer
  split
  · exact h
  · next body record =>
    split
    · exact law_takeRecord h record
    · split
      · exact h
      · exact law_takeRecord (f := f.displace) h record

theorem law_serveList (l : List Chan) (h : f.works.Law b) : (serveList l f).works.Law b := by
  induction l generalizing f with
  | nil => exact h
  | cons c rest ih =>
    unfold serveList
    split
    · exact h
    · next body record =>
      split
      · exact ih (law_takeRecord h record)
      · split
        · exact h
        · exact ih (law_takeRecord (f := f.displace) h record)

theorem law_serveRing (h : f.works.Law b) : f.serveRing.works.Law b :=
  law_serveList _ (f.works_freeRecords.symm ▸ h)

/-! What a step makes due (R76 to R80, R109, R170). -/

theorem works_updateLine (f : Floor) : f.updateLine.works = f.works := by
  unfold updateLine
  simp only
  split
  · rfl
  · split <;> rfl

/-- What an assignment does to the works: the job issued, the channel out of the list and holding the new disk. -/
theorem works_assign {j : Job} (rest : (f.chan c).gist = .rest .loaded (f.chan c).phase) :
    ∃ g : Gist, g.Sound b ∧ g.disk = some (newDisk b j).tag ∧ (f.assign b c j).works =
      { f.works.set c g with
        jobs := putIn j.afterIssue f.jobs, waiting := f.waiting.filter fun d => decide (d ≠ c) } := by
  let f' := (f.putJob j.afterIssue).leaveWaiting c
  have works : f'.works =
      { f.works with jobs := putIn j.afterIssue f.jobs, waiting := f.waiting.filter fun d => decide (d ≠ c) } := rfl
  have chan : f'.chan c = f.chan c := rfl
  unfold assign startDisk
  simp only
  split
  · refine ⟨.posted (newDisk b j).tag, .posted _, rfl, ?_⟩
    rw [works_enterPosting (k := (newDisk b j).takeEvent true .writeProtected none)]
    · rw [works_modChan, Works.set_set, works_modChan, Works.set_set]
      rfl
    · rw [chan_modChan_same]
  · refine ⟨.started (newDisk b j).tag, .started _, rfl, ?_⟩
    rw [works_modChan, works_modChan, Works.set_set, chan_modChan_same]
    have started : (({ f.chan c with removed := false, disk := some (newDisk b j) } : Channel).startSpinup false).gist =
        .started (newDisk b j).tag := by
      obtain ⟨record, seek, fetch, plan⟩ : (f.chan c).gist.record = none ∧ (f.chan c).gist.seekTarget = none ∧
          (f.chan c).gist.fetch = [] ∧ (f.chan c).gist.plan = none := by rw [rest]; exact ⟨rfl, rfl, rfl, rfl⟩
      simp only [Channel.gist] at record seek fetch plan
      simp only [Channel.gist, Channel.startSpinup, Gist.started, record, seek, fetch, plan]
      rfl
    exact congrArg (f'.works.set c) started

/-- A job of the queue takes a waiting channel. -/
theorem law_assign (h : f.works.Law b) {j : Job} (loaded : (f.chan c).state = .loaded) (mem : j ∈ f.jobs)
    (issuable : j.issuable = true) :
    (f.assign b c j).works.Law b ∧ ∀ d, d ≠ c → ((f.assign b c j).chan d).state = (f.chan d).state := by
  have rest := (h.sound c).eq_rest (show (f.chan c).gist.state.holds = false by
    rw [show (f.chan c).gist.state = .loaded from loaded]
    rfl)
  have waits : (f.chan c).gist = .rest .loaded (f.chan c).phase := by
    rw [← loaded]
    exact rest
  obtain ⟨g, sound, disk, works⟩ := works_assign (b := b) (j := j) waits
  rw [works]
  refine ⟨h.assign loaded mem issuable sound disk rfl rfl rfl, fun d hd => ?_⟩
  have chan := congrFun (congrArg Works.chans works) d
  exact congrArg Gist.state (chan.trans (f.works.set_other g hd))

theorem law_consider (h : f.works.Law b) (loaded : (f.chan c).state = .loaded) :
    (f.consider b c).works.Law b ∧ ∀ d, d ≠ c → ((f.consider b c).chan d).state = (f.chan d).state := by
  unfold consider
  split
  · split
    · next j found =>
      have takes := List.find?_some found
      simp only [Job.takes, Bool.and_eq_true] at takes
      exact law_assign h loaded (List.mem_of_find?_eq_some found) takes.1.1
    · exact ⟨h, fun _ _ => rfl⟩
  · exact ⟨h, fun _ _ => rfl⟩

/-- One pass over distinct waiting channels (R78): each is still in LOADED as its turn comes. -/
theorem law_considerAll (l : List Chan) (h : f.works.Law b) (nodup : l.Nodup) (loaded : ∀ c ∈ l, (f.chan c).state = .loaded) :
    (l.foldl (consider b) f).works.Law b := by
  induction l generalizing f with
  | nil => exact h
  | cons c rest ih =>
    obtain ⟨new, nodup⟩ := List.nodup_cons.mp nodup
    obtain ⟨law, stand⟩ := law_consider h (loaded c List.mem_cons_self)
    refine ih law nodup fun d hd => ?_
    rw [stand d (ne_of_mem_of_not_mem hd new)]
    exact loaded d (List.mem_cons_of_mem c hd)

theorem law_evaluate (h : f.works.Law b) : (f.evaluate b).works.Law b :=
  law_considerAll (f := { f with evalDue := false }) f.waiting h h.waiting.1 fun c hc => (h.waiting.2 c).mp hc

theorem law_settle (h : f.works.Law b) : (f.settle b).works.Law b := by
  refine settle_induction (P := fun g => g.works.Law b) (fun g hg => ?_) (fun g hg => ?_) f h
  · rw [works_updateLine]
    exact hg
  · unfold settleOne
    split
    · exact law_evaluate hg
    · split
      · exact hg
      · next c rest _ => exact law_offer (f := { g with offers := rest }) hg c

end Floor

end Sys2Proof.Machine

/-! SUPPORT. The work on one track keeps the laws of the works: plans (R22 to R25, R124, R125), seeks (R102, R103),
boundaries (R112), passes (R128 to R138) and the ends of attempts (R140 to R143). -/

namespace Sys2Proof.Machine

/-! A channel at work on its disk. -/

/-- The states in which a channel works on its disk, or is held at a boundary. -/
def busyStates : List ChannelState := [.spinup, .recal, .producing, .paused]

theorem spinup_busy : ChannelState.spinup ∈ busyStates := by decide

theorem recal_busy : ChannelState.recal ∈ busyStates := by decide

theorem producing_busy : ChannelState.producing ∈ busyStates := by decide

theorem paused_busy : ChannelState.paused ∈ busyStates := by decide

/-- A channel works on its disk, with no seek under way and no request of its own wanted. -/
structure Works.Work (b : Base) (w : Works) (c : Chan) : Prop where
  law : w.Law b
  busy : (w.chans c).state ∈ busyStates
  still : (w.chans c).seekTarget = none
  unwanted : c ∉ w.engine.wants

theorem ChannelState.not_loaded_of_busy {state : ChannelState} (busy : state ∈ busyStates) : state ≠ .loaded := by
  rintro rfl
  revert busy
  decide

theorem ChannelState.not_posting_of_busy {state : ChannelState} (busy : state ∈ busyStates) : state ≠ .posting := by
  rintro rfl
  revert busy
  decide

/-- A busy channel goes on with its disk: another state of those, less to fetch, or no plan. -/
theorem Gist.Sound.goOn {b : Base} {old g : Gist} (h : old.Sound b) (before : old.state ∈ busyStates)
    (after : g.state ∈ busyStates) (disk : g.disk = old.disk) (record : g.record = old.record)
    (seek : g.seekTarget.isSome = true → g.state = .producing ∧ g.phase = some .seek)
    (fetch : g.fetch = old.fetch ∨ g.fetch = []) (plan : g.plan = old.plan ∨ g.plan = none) : g.Sound b where
  held := by rw [disk, h.held, ChannelState.holds_of_busy before, ChannelState.holds_of_busy after]
  posting := by
    rw [record, h.posting, decide_eq_false (ChannelState.not_posting_of_busy before),
      decide_eq_false (ChannelState.not_posting_of_busy after)]
  record := by rw [disk, record]; exact h.record
  seek := seek
  idle := fun idle => by
    rcases idle with none | posting
    · obtain ⟨noFetch, noPlan⟩ := h.idle (.inl (disk ▸ none))
      exact ⟨fetch.elim (·.trans noFetch) id, plan.elim (·.trans noPlan) id⟩
    · exact absurd posting (ChannelState.not_posting_of_busy after)
  fetch := fun k hk i hi => by
    rcases fetch with same | none
    · exact h.fetch k (disk ▸ hk) i (same ▸ hi)
    · rw [none] at hi
      cases hi
  plan := fun k p hk hp => by
    rcases plan with same | none
    · exact h.plan k p (disk ▸ hk) (same ▸ hp)
    · rw [none] at hp
      cases hp

theorem Disk.map_tag {change : Disk → Disk} (same : ∀ k, (change k).tag = k.tag) (o : Option Disk) :
    (o.map change).map Disk.tag = o.map Disk.tag := by
  cases o with
  | none => rfl
  | some k => exact congrArg some (same k)

namespace Floor

variable {b : Base} {f : Floor} {c : Chan}

/-- A channel in PRODUCING that neither waits for a plan nor seeks is at work. -/
theorem work_of_phase (h : f.works.Law b) (producing : (f.chan c).state = .producing)
    (plan : (f.chan c).phase ≠ some .plan) (seek : (f.chan c).phase ≠ some .seek) : f.works.Work b c where
  law := h
  busy := (congrArg (· ∈ busyStates) producing).mpr producing_busy
  still := (h.sound c).not_seeking (.inr seek)
  unwanted := h.not_wanted fun planning => plan planning.2

/-- So is one in SPINUP, RECAL or PAUSED. -/
theorem work_of_state (h : f.works.Law b) (state : (f.chan c).state ∈ [.spinup, .recal, .paused]) : f.works.Work b c := by
  have other : (f.chan c).state ≠ .producing := fun producing => by
    rw [producing] at state
    revert state
    decide
  exact {
    law := h
    busy := by
      simp only [List.mem_cons, List.not_mem_nil, or_false] at state
      simp only [busyStates, works_chans, Channel.gist, List.mem_cons, List.not_mem_nil, or_false]
      tauto
    still := (h.sound c).not_seeking (.inl other)
    unwanted := h.not_wanted fun planning => other planning.1 }

theorem disk_of_work (h : f.works.Work b c) : ∃ k, (f.chan c).disk = some k :=
  (h.law.sound c).disk_some (ChannelState.holds_of_busy h.busy)

/-- A change of a channel at work that leaves it at work. -/
theorem work_modChan (h : f.works.Work b c) {g : Channel → Channel} (state : (g (f.chan c)).state ∈ busyStates)
    (disk : (g (f.chan c)).gist.disk = (f.chan c).gist.disk)
    (record : (g (f.chan c)).gist.record = (f.chan c).gist.record)
    (seek : (g (f.chan c)).seekTarget = (f.chan c).seekTarget ∨ (g (f.chan c)).seekTarget = none)
    (fetch : (g (f.chan c)).fetch = (f.chan c).fetch ∨ (g (f.chan c)).fetch = [])
    (plan : (g (f.chan c)).attempt.plan = (f.chan c).attempt.plan ∨ (g (f.chan c)).attempt.plan = none) :
    (f.modChan c g).works.Work b c := by
  have still : (g (f.chan c)).seekTarget = none := seek.elim (·.trans h.still) id
  have sound : (g (f.chan c)).gist.Sound b :=
    (h.law.sound c).goOn h.busy state disk record (fun seeking => absurd still (Option.isSome_iff_ne_none.mp seeking)) fetch plan
  rw [works_modChan]
  exact {
    law := h.law.set sound disk (iff_of_false (ChannelState.not_loaded_of_busy state)
      (ChannelState.not_loaded_of_busy h.busy)) fun wanted => absurd wanted h.unwanted
    busy := by
      rw [Works.set_same]
      exact state
    still := by
      rw [Works.set_same]
      exact still
    unwanted := h.unwanted }

theorem work_unseen (h : f.works.Work b c) {g : Channel → Channel} (unseen : (g (f.chan c)).gist = (f.chan c).gist) :
    (f.modChan c g).works.Work b c :=
  (f.works_modChan_unseen c unseen).symm ▸ h

/-- A channel at work posts its disk. -/
theorem law_post (h : f.works.Work b c) (outcome : DiskOutcome) : (f.enterPosting c outcome).works.Law b := by
  obtain ⟨k, disk⟩ := disk_of_work h
  exact law_enterPosting h.law disk h.unwanted outcome

end Floor

/-! The Layout Engine (R22, R23). -/

/-- The engine takes a request of a channel that waits in PLAN for an image of the span's entry. -/
theorem EngineLaw.request {b : Base} {e : LayoutEngine} {chans : Chan → Gist} (h : EngineLaw b e chans) {r : PlanRequest}
    (planning : (chans r.channel).Planning) (unwanted : r.channel ∉ e.wants)
    (data : ∀ slot offset, r.data = some (slot, offset) → (chans r.channel).disk.map (·.slot) = some slot ∧
      ∃ len, TrackEntry.data r.format offset len ∈ (b.image slot).trackMap) :
    EngineLaw b { e with queue := e.queue ++ [r] } chans where
  queued q hq := by
    rcases List.mem_append.mp hq with hq | hq
    · exact h.queued q hq
    · rw [List.mem_singleton.mp hq]
      exact ⟨planning, data⟩
  built := h.built
  once := by
    have moved : LayoutEngine.wants { e with queue := e.queue ++ [r] } =
        e.queue.map (·.channel) ++ r.channel :: ((e.building.filter fun w => !w.discarded).map (·.request.channel)).toList := by
      simp only [LayoutEngine.wants, List.map_append, List.map_cons, List.map_nil, List.append_assoc, List.cons_append,
        List.nil_append]
    rw [moved, List.perm_middle.nodup_iff, List.nodup_cons]
    exact ⟨unwanted, h.once⟩

/-- The idle engine begins a plan whose span lies in the region that its entry names. -/
theorem EngineLaw.kick {b : Base} {e : LayoutEngine} {chans : Chan → Gist} (h : EngineLaw b e chans) (spans : b.SpanLaw) :
    EngineLaw b (e.kick b) chans := by
  unfold LayoutEngine.kick
  split
  · next r rest building queue =>
    have once := h.once
    simp only [LayoutEngine.wants, building, queue, Option.filter_none, Option.map_none, Option.toList_none,
      List.append_nil, List.map_cons] at once
    refine {
      queued := fun q hq => h.queued q (queue ▸ List.mem_cons_of_mem r hq)
      built := fun w hw live => ?_
      once := ?_ }
    · obtain ⟨d, format, rfl⟩ := Option.map_eq_some_iff.mp hw
      obtain ⟨planning, data⟩ := h.queued r (queue ▸ List.mem_cons_self)
      refine ⟨planning, fun slot offset hr => ?_⟩
      obtain ⟨disk, len, mem⟩ := data slot offset hr
      obtain ⟨below, d', format', length⟩ := spans.span slot _ _ _ mem
      rw [format] at format'
      cases format'
      exact ⟨disk, show offset + d.spanLen ≤ _ by rw [length]; exact below.trans (spans.mark slot)⟩
    · cases format : b.format r.format with
      | none =>
        rw [Option.map_none, LayoutEngine.wants, Option.filter_none, Option.map_none, Option.toList_none, List.append_nil]
        exact (List.nodup_cons.mp once).2
      | some d => exact (List.perm_append_singleton r.channel (rest.map (·.channel))).nodup_iff.mpr once
  · exact h

theorem ImageSlot.mem_of_entry {im : ImageSlot} {c h : Nat} {e : TrackEntry} (entry : im.entry c h = some e) :
    e ∈ im.trackMap := by
  unfold ImageSlot.entry at entry
  split at entry
  · split at entry
    · exact List.mem_of_getElem? entry
    · cases entry
  · cases entry

/-! Seeks (R102, R103). -/

/-- Going on with a seek moves phase and target only, the target present in SEEK alone. -/
theorem Channel.continueSeek_gist {x : Channel} (target : Nat) (phase : x.phase = some .seek) :
    ∃ (p : Option Phase) (t : Option Nat), (t.isSome = true → p = some .seek) ∧
      (x.continueSeek target).gist = { x.gist with phase := p, seekTarget := t } := by
  unfold continueSeek
  split
  · unfold startSettle
    split
    · exact ⟨_, none, fun h => absurd h Bool.false_ne_true, rfl⟩
    · exact ⟨_, none, fun h => absurd h Bool.false_ne_true, rfl⟩
  · exact ⟨some .seek, x.seekTarget, fun _ => rfl, by rw [issueStep, gist, gist, phase]⟩

theorem Channel.startSeek_gist (x : Channel) (target head : Nat) :
    ∃ (p : Option Phase) (t : Option Nat), (t.isSome = true → p = some .seek) ∧
      (x.startSeek target head).gist = { x.gist with phase := p, seekTarget := t } := by
  unfold startSeek
  obtain ⟨p, t, only, gist⟩ := Channel.continueSeek_gist (x := { x with
    phase := some .seek, seekTarget := some target, side := decide (head = 1)
    dir := if x.cylinder = some target then x.dir else decide (x.cylinder.getD 0 < target) }) target rfl
  exact ⟨p, t, only, gist⟩

namespace Floor

variable {b : Base} {f : Floor} {c : Chan}

/-- A channel in PRODUCING whose request is not wanted may be in any phase, with a target in SEEK alone. -/
theorem law_phase (h : f.works.Law b) (producing : (f.chan c).state = .producing) (unwanted : c ∉ f.engine.wants)
    {x : Channel} {p : Option Phase} {t : Option Nat} (only : t.isSome = true → p = some .seek)
    (gist : x.gist = { (f.chan c).gist with phase := p, seekTarget := t }) : (f.setChan c x).works.Law b := by
  have busy : (f.chan c).state ∈ busyStates := by
    rw [producing]
    decide
  have sound : Gist.Sound b { (f.chan c).gist with phase := p, seekTarget := t } :=
    (h.sound c).goOn busy busy rfl rfl (fun seeking => ⟨producing, only seeking⟩) (.inl rfl) (.inl rfl)
  rw [works_setChan, gist]
  exact h.set sound rfl .rfl fun wanted => absurd wanted unwanted

theorem law_seekTrack (h : f.works.Law b) (producing : (f.chan c).state = .producing) (unwanted : c ∉ f.engine.wants) :
    (f.seekTrack b c).works.Law b := by
  unfold seekTrack modChan
  simp only
  split
  · obtain ⟨p, t, only, gist⟩ := (f.chan c).startSeek_gist _ _
    exact law_phase h producing unwanted only gist
  · rw [works_setChan]
    exact (f.works.set_own c).symm ▸ h

theorem law_requestPlan (h : f.works.Law b) (spans : b.SpanLaw) {r : PlanRequest}
    (planning : (f.chan r.channel).gist.Planning) (unwanted : r.channel ∉ f.engine.wants)
    (data : ∀ slot offset, r.data = some (slot, offset) → (f.chan r.channel).gist.disk.map (·.slot) = some slot ∧
      ∃ len, TrackEntry.data r.format offset len ∈ (b.image slot).trackMap) :
    (f.requestPlan b r).works.Law b :=
  { h with engine := (h.engine.request planning unwanted data).kick spans }

/-! Plans (R124) and boundaries (R112). -/

theorem law_beginPlan (h : f.works.Work b c) (spans : b.SpanLaw) : (f.beginPlan b c).works.Law b := by
  have begun : (f.modChan c fun x => { x with
      state := .producing, resuming := false, phase := some .plan
      attempt := { Attempt.none with firstSector := x.attempt.firstSector } }).works.Work b c :=
    work_modChan h producing_busy rfl rfl (.inl rfl) (.inl rfl) (.inr rfl)
  have planning : ((f.modChan c fun x => { x with
      state := .producing, resuming := false, phase := some .plan
      attempt := { Attempt.none with firstSector := x.attempt.firstSector } }).chan c).gist.Planning := by
    rw [chan_modChan_same]
    exact ⟨rfl, rfl⟩
  unfold beginPlan
  simp only
  generalize (f.modChan c fun x => { x with
    state := .producing, resuming := false, phase := some .plan
    attempt := { Attempt.none with firstSector := x.attempt.firstSector } }) = g at begun planning
  split
  · next k mean disk _ =>
    split
    · split
      · next fmt offset len entry =>
        refine law_requestPlan begun.law spans planning begun.unwanted fun slot off data => ?_
        cases data
        refine ⟨?_, len, ImageSlot.mem_of_entry entry⟩
        rw [Channel.gist, disk]
        rfl
      · exact law_requestPlan begun.law spans planning begun.unwanted fun slot off data => by cases data
      · exact law_seekTrack begun.law planning.1 begun.unwanted
      · exact begun.law
      · exact begun.law
    · exact law_abortDisk begun.law c .speed
  · exact law_abortDisk begun.law c .speed

theorem law_boundary (h : f.works.Work b c) (spans : b.SpanLaw) (i : Nat) : (f.boundary b c i).works.Law b := by
  unfold boundary
  split
  · exact h.law
  · next k disk =>
    have tag (k' : Disk) (same : k'.tag = k.tag) : (some k').map Disk.tag = (f.chan c).disk.map Disk.tag := by
      rw [disk]
      exact congrArg some same
    simp only
    split
    · next t o _ _ =>
      have moved : (f.modChan c fun x => { x with
          disk := some { k with cylinder := t / o.heads, head := t % o.heads, retries := 0 }
          attempt := Attempt.none, recalSteps := 0 }).works.Work b c :=
        work_modChan h h.busy (tag _ rfl) rfl (.inl rfl) (.inl rfl) (.inr rfl)
      split
      · exact (work_modChan moved (g := Channel.pause) paused_busy rfl rfl (.inr rfl) (.inl rfl)
          (.inr rfl)).law
      · exact law_beginPlan moved spans
    · have counted : (f.modChan c fun x => { x with disk := some { k with retries := 0 } }).works.Work b c :=
        work_modChan h h.busy (tag _ rfl) rfl (.inl rfl) (.inl rfl) (.inl rfl)
      exact law_post counted _

theorem law_boundaryHere (h : f.works.Work b c) (spans : b.SpanLaw) : (f.boundaryHere b c).works.Law b := by
  unfold boundaryHere
  split
  · exact h.law
  · exact law_boundary h spans _

theorem law_boundaryNext (h : f.works.Work b c) (spans : b.SpanLaw) : (f.boundaryNext b c).works.Law b := by
  unfold boundaryNext
  split
  · exact h.law
  · exact law_boundary h spans _

/-! Recalibration and speed (R110, R111). -/

theorem law_recalSample (h : f.works.Work b c) (spans : b.SpanLaw) : (f.recalSample b c).works.Law b := by
  unfold recalSample
  split
  · exact law_boundaryHere (work_unseen h rfl) spans
  · split
    · exact law_abortDisk h.law c .noTrack0
    · exact (work_unseen h (g := Channel.recalStep) rfl).law

theorem law_reachSpeed (h : f.works.Work b c) (spans : b.SpanLaw) : (f.reachSpeed b c).works.Law b := by
  unfold reachSpeed
  split
  · exact law_boundaryHere (work_unseen h rfl) spans
  · exact law_recalSample (work_modChan h recal_busy rfl rfl (.inl rfl) (.inl rfl) (.inl rfl)) spans

/-! The end of an attempt (R140 to R143). -/

theorem work_discardBuffer (h : f.works.Work b c) : (f.discardBuffer c).works.Work b c := by
  unfold discardBuffer
  rw [works_orphanBurst]
  exact work_modChan h h.busy rfl rfl (.inl rfl) (.inr rfl) (.inl rfl)

/-- The disk's own fields are not seen, only its tag. -/
theorem work_mapDisk (h : f.works.Work b c) (change : Disk → Disk) (same : ∀ k, (change k).tag = k.tag) :
    (f.modChan c fun x => { x with disk := x.disk.map change }).works.Work b c :=
  work_modChan h h.busy (Disk.map_tag same (f.chan c).disk) rfl (.inl rfl) (.inl rfl) (.inl rfl)

theorem law_acceptTrack (h : f.works.Work b c) (spans : b.SpanLaw) (soft : Option (Cause × Option Byte)) :
    (f.acceptTrack b c soft).works.Law b :=
  law_boundaryNext (work_mapDisk h _ fun k => by cases soft <;> rfl) spans

theorem law_retryTrack (h : f.works.Work b c) (spans : b.SpanLaw) : (f.retryTrack b c).works.Law b :=
  law_beginPlan (work_mapDisk h _ fun _ => rfl) spans

theorem law_failTrack (h : f.works.Work b c) (cause : Cause) (sector : Option Byte) :
    (f.failTrack c cause sector).works.Law b :=
  law_post (work_mapDisk h (fun k => k.takeEvent true cause sector) fun _ => rfl) .fail

theorem law_endAttempt (h : f.works.Work b c) (spans : b.SpanLaw) (r : TrackResult) :
    (f.endAttempt b c r).works.Law b := by
  have ended (first : Option Byte) : ((f.discardBuffer c).modChan c fun x => { x with
      wgate := false, wdata := none, attempt := { Attempt.none with firstSector := first } }).works.Work b c :=
    work_modChan (work_discardBuffer h) (work_discardBuffer h).busy rfl rfl (.inl rfl) (.inl rfl) (.inr rfl)
  unfold endAttempt
  split
  · exact h.law
  · simp only
    split
    · exact law_acceptTrack (ended _) spans _
    · split
      · exact law_retryTrack (ended _) spans
      · exact law_acceptTrack (ended _) spans _
    · split
      · exact law_retryTrack (ended _) spans
      · exact law_failTrack (ended _) _ _

end Floor

end Sys2Proof.Machine

/-! SUPPORT. The passes of a track, the timers, the plans handed over and the drive requests keep the laws of the
works. -/

namespace Sys2Proof.Machine

/-! What a channel fetches (R127). -/

/-- The bytes of every slot of a plan lie in the region that the plan was made for. -/
def TrackPlan.Fits (b : Base) (p : TrackPlan) (slot : SlotId) : Prop :=
  ∀ x ∈ p.slots, ∀ offset, x.source = .image offset → b.fits slot offset p.layout.sectorSize

/-- The image bytes still to fetch lie in the region. -/
def FetchFits (b : Base) (l : List FetchItem) (slot : SlotId) : Prop := ∀ i ∈ l, b.fits slot i.offset i.remaining

theorem TrackPlan.Fits.fetchList {b : Base} {p : TrackPlan} {slot : SlotId} (h : p.Fits b slot) (slots : List Nat) :
    FetchFits b (p.fetchList slots) slot := by
  intro i hi
  obtain ⟨j, -, hj⟩ := List.mem_filterMap.mp hi
  split at hj
  · next offset source =>
    obtain ⟨x, hx, image⟩ := Option.map_eq_some_iff.mp source
    cases hj
    exact h x (List.mem_of_getElem? hx) offset image
  · cases hj

theorem FetchFits.afterBurst {b : Base} {l : List FetchItem} {slot : SlotId} (h : FetchFits b l slot) (len : Nat) :
    FetchFits b (fetchAfterBurst len l) slot := by
  cases l with
  | nil => exact h
  | cons i rest =>
    rw [fetchAfterBurst]
    split
    · exact fun j hj => h j (List.mem_cons_of_mem i hj)
    · intro j hj
      rcases List.mem_cons.mp hj with rfl | hj
      · have whole : i.offset + i.remaining ≤ b.regionBytes slot := h i List.mem_cons_self
        simp only [Base.fits]
        omega
      · exact h j (List.mem_cons_of_mem i hj)

theorem Gist.Sound.refetch {b : Base} {g : Gist} (h : g.Sound b) {l : List FetchItem}
    (idle : g.disk = none ∨ g.state = .posting → l = []) (fits : ∀ k, g.disk = some k → FetchFits b l k.slot) :
    Gist.Sound b { g with fetch := l } :=
  { h with idle := fun none => ⟨idle none, (h.idle none).2⟩, fetch := fits }

/-- The slots of a plan built from a request for a span. -/
theorem buildPlan_source {d : Descriptor} {r : PlanRequest} {x : SlotPlan} (mem : x ∈ (buildPlan d r).slots)
    {offset : Nat} (image : x.source = .image offset) :
    ∃ slot span, r.data = some (slot, span) ∧ offset + d.sectorSize ≤ span + d.spanLen := by
  obtain ⟨k, hk, rfl⟩ := List.mem_map.mp mem
  have below : k < d.sectors := by
    by_cases some : 0 < d.sectors
    · exact List.mem_range.mp ((sectorsTakeTheFirstFreeSlot d r.cylinder r.head some).1.mem_iff.mp hk)
    · have none : d.sectors = 0 := by omega
      rw [Descriptor.placement, none] at hk
      cases hk
  cases data : r.data with
  | none =>
    rw [((d.slotPlan_data r k).1 data).1] at image
    cases image
  | some span =>
    obtain ⟨slot, start⟩ := span
    rw [((d.slotPlan_data r k).2 slot start data).1] at image
    cases image
    refine ⟨slot, start, rfl, ?_⟩
    have part : (k + 1) * d.sectorSize ≤ d.sectors * d.sectorSize := Nat.mul_le_mul_right _ below
    rw [Nat.succ_mul] at part
    rw [Descriptor.spanLen]
    omega

namespace Floor

variable {b : Base} {f : Floor} {c : Chan}

/-- A channel that fetches otherwise, and is otherwise as it was. -/
theorem law_refetch (h : f.works.Law b) {x : Channel} {l : List FetchItem}
    (gist : x.gist = { (f.chan c).gist with fetch := l })
    (idle : (f.chan c).gist.disk = none ∨ (f.chan c).state = .posting → l = [])
    (fits : ∀ k, (f.chan c).gist.disk = some k → FetchFits b l k.slot) : (f.setChan c x).works.Law b := by
  rw [works_setChan, gist]
  exact h.set ((h.sound c).refetch idle fits) rfl .rfl h.engine.planning

/-- A channel neither in PLAN nor in SEEK goes to another phase. -/
theorem law_rephase (h : f.works.Law b) {x : Channel} {p : Option Phase} (plan : (f.chan c).phase ≠ some .plan)
    (seek : (f.chan c).phase ≠ some .seek) (gist : x.gist = { (f.chan c).gist with phase := p }) :
    (f.setChan c x).works.Law b := by
  have sound : (f.chan c).gist.Sound b := h.sound c
  have still : (f.chan c).gist.seekTarget = none := sound.not_seeking (.inr seek)
  rw [works_setChan, gist]
  refine h.set { sound with seek := fun seeking => ?_ } rfl .rfl fun wanted => ?_
  · rw [still] at seeking
    cases seeking
  · exact absurd (h.engine.planning wanted).2 plan

theorem law_unseen (h : f.works.Law b) (c : Chan) {g : Channel → Channel} (unseen : (g (f.chan c)).gist = (f.chan c).gist) :
    (f.modChan c g).works.Law b :=
  (f.works_modChan_unseen c unseen).symm ▸ h

/-- The plan of a channel at work fits its image. -/
theorem plan_fits (h : f.works.Law b) {p : TrackPlan} (plan : (f.chan c).attempt.plan = some p) {k : DiskTag}
    (disk : (f.chan c).gist.disk = some k) : p.Fits b k.slot :=
  (h.sound c).plan k p disk plan

theorem busy_not_idle (h : f.works.Work b c) : ¬((f.chan c).gist.disk = none ∨ (f.chan c).state = .posting) := by
  rintro (none | posting)
  · obtain ⟨k, disk⟩ := disk_of_work h
    rw [Channel.gist, disk] at none
    cases none
  · exact ChannelState.not_posting_of_busy h.busy posting

/-! The write pass (R128 to R132). -/

theorem law_writeByte (h : f.works.Work b c) (spans : b.SpanLaw) (st : WriteStream) :
    (f.writeByte b c st).works.Law b := by
  have after (item : StreamItem) {k : DiskTag} (disk : (f.chan c).gist.disk = some k) :
      FetchFits b ((f.chan c).fetchAfter item) k.slot := by
    have same : FetchFits b (f.chan c).fetch k.slot := (h.law.sound c).fetch k disk
    unfold Channel.fetchAfter
    split
    · next p _ plan _ =>
      split
      · exact (plan_fits h.law plan disk).fetchList _
      · exact same
    · exact same
  unfold writeByte
  simp only
  split
  · exact law_refetch h.law rfl (fun idle => absurd idle (busy_not_idle h)) fun k disk => after _ disk
  · split
    · exact law_endAttempt h spans _
    · exact h.law

theorem law_startWrite (h : f.works.Law b) (c : Chan) : (f.startWrite c).works.Law b :=
  law_unseen (f := f) h c (g := fun x => { x with
    wgate := true
    attempt := { x.attempt with
      stream := some { position := 0, crc := crc16Preset, lastBit := Config.bitBeforeStream f.freeDraws } } }) rfl

theorem law_endWrite (h : f.works.Work b c) (spans : b.SpanLaw) (write : (f.chan c).phase = some .write) (k : Disk)
    (st : WriteStream) : (f.endWrite b c k st).works.Law b := by
  unfold endWrite
  split
  · exact law_endAttempt h spans _
  · next p _ =>
    split
    · exact law_endAttempt (f := { f with freeDraws := f.freeDraws + 1 }) h spans _
    · split
      · exact law_rephase (p := some .verify) (x := (f.chan c).startVerify p) h.law (by rw [write]; decide)
          (by rw [write]; decide) rfl
      · exact law_endAttempt h spans _

/-! The verify passes (R133 to R138). -/

theorem law_endVerifyPass (h : f.works.Work b c) (spans : b.SpanLaw) {p : TrackPlan}
    (plan : (f.chan c).attempt.plan = some p) (k : Disk) : (f.endVerifyPass b c p k).works.Law b := by
  unfold endVerifyPass
  simp only
  split
  · have discarded := work_discardBuffer h
    have chan : (f.discardBuffer c).chan c = { f.chan c with buffer := [], fetch := [] } := by
      rw [discardBuffer, orphanBurst_eq]
      exact f.chan_modChan_same c fun x => { x with buffer := [], fetch := [] }
    refine law_refetch (l := p.fetchList (failedSlots (f.chan c).attempt.closeResults)) discarded.law rfl
      (fun idle => absurd idle (busy_not_idle discarded)) fun k disk => ?_
    exact (plan_fits discarded.law (chan ▸ plan) disk).fetchList _
  · exact law_endAttempt h spans _

theorem law_readByte (h : f.works.Work b c) (spans : b.SpanLaw) (flux : List (BitVec 9)) :
    (f.readByte b c flux).works.Law b := by
  unfold readByte
  simp only
  split
  · split
    · exact h.law
    · split
      · exact h.law
      · split
        · refine law_unseen h.law c (g := fun _ => _) ?_
          rfl
        · exact law_endAttempt h spans _
  · exact h.law

theorem law_giveSlotResult (h : f.works.Law b) (p : TrackPlan) (r : ReadSide) (j : Nat) (rest : List Nat)
    (result : SlotResult) : (f.giveSlotResult c p r j rest result).works.Law b := by
  unfold giveSlotResult
  simp only
  rw [works_orphanBurst]
  refine law_refetch (l := (f.chan c).fetch.filter fun i => decide (i.slot ≠ j)) h rfl (fun idle => ?_)
    fun k disk i hi => (h.sound c).fetch k disk i (List.mem_of_mem_filter hi)
  have none : (f.chan c).fetch = [] := ((h.sound c).idle idle).1
  rw [none]
  rfl

/-! INDEX edges (R104). -/

theorem law_producingEdge (h : f.works.Law b) (spans : b.SpanLaw) (producing : (f.chan c).state = .producing) :
    (f.producingEdge b c).works.Law b := by
  unfold producingEdge
  simp only
  split
  · next k write _ =>
    have work := work_of_phase h producing (by rw [write]; decide) (by rw [write]; decide)
    split
    · exact law_startWrite h c
    · exact law_endWrite work spans write k _
  · next k verify _ =>
    have work := work_of_phase h producing (by rw [verify]; decide) (by rw [verify]; decide)
    split
    · next p plan => exact law_endVerifyPass work spans plan k
    · exact h
  · exact h

theorem law_indexEdge (h : f.works.Law b) (spans : b.SpanLaw) (c : Chan) : (f.indexEdge b c).works.Law b := by
  have captured : (f.modChan c fun x => (x.captureEdge b.timebase).reloadWatchdog).works.Law b := by
    refine law_unseen h c ?_
    unfold Channel.reloadWatchdog
    split <;> rfl
  unfold indexEdge
  simp only
  split
  · next spinup =>
    split
    · exact law_reachSpeed (work_of_state captured (by rw [spinup]; decide)) spans
    · exact captured
  · next producing => exact law_producingEdge captured spans producing
  · exact captured

end Floor

end Sys2Proof.Machine

/-! SUPPORT. Plans handed over, timer expiries and the requests on drives and jobs keep the laws of the works. -/

namespace Sys2Proof.Machine

/-! The end of a plan build (R23, R25, R125). -/

/-- The engine without the plan that it was building. -/
theorem EngineLaw.built_done {b : Base} {e : LayoutEngine} {chans : Chan → Gist} (h : EngineLaw b e chans) :
    EngineLaw b { e with building := none } chans where
  queued := h.queued
  built w hw := by cases hw
  once := h.once.sublist (List.Sublist.append_left (List.nil_sublist _) _)

/-- Building a plan adds no channel to those that want one. -/
theorem LayoutEngine.wants_kick (b : Base) (e : LayoutEngine) {c : Chan} (h : c ∈ (e.kick b).wants) : c ∈ e.wants := by
  unfold kick at h
  split at h
  · next r rest building queue =>
    simp only [wants, List.mem_append, Option.mem_toList, Option.map_eq_some_iff, Option.filter_eq_some_iff] at h
    refine List.mem_append_left _ ?_
    rw [queue]
    rcases h with h | ⟨w, ⟨⟨d, -, rfl⟩, -⟩, rfl⟩
    · exact List.mem_cons_of_mem _ h
    · exact List.mem_cons_self
  · exact h

namespace Floor

variable {b : Base} {f : Floor} {c : Chan}

theorem law_handPlan (h : f.works.Law b) (unwanted : c ∉ f.engine.wants) {p : TrackPlan}
    (fits : ∀ k, (f.chan c).gist.disk = some k → p.Fits b k.slot) : (f.handPlan b c p).works.Law b := by
  unfold handPlan
  simp only
  split
  · next k producing plan _ =>
    have sound : (f.chan c).gist.Sound b := h.sound c
    have still : (f.chan c).gist.seekTarget = none := sound.not_seeking <| .inr fun seek => by
      have same : (f.chan c).phase = some .seek := seek
      rw [plan] at same
      cases same
    have handed : (f.setChan c { f.chan c with
        attempt := { (f.chan c).attempt with plan := some p }, fetch := p.fetchList p.allSlots }).works.Law b := by
      rw [works_setChan]
      refine h.set (g := { (f.chan c).gist with fetch := p.fetchList p.allSlots, plan := some p }) ?_ rfl .rfl
        h.engine.planning
      exact { sound with
        idle := fun idle => by
          have work : ¬((f.chan c).gist.disk = none ∨ (f.chan c).gist.state = .posting) := by
            rintro (none | posting)
            · have held := sound.held
              rw [none, show (f.chan c).gist.state = .producing from producing] at held
              cases held
            · have same : (f.chan c).state = .posting := posting
              rw [producing] at same
              cases same
          exact absurd idle work
        fetch := fun k disk => (fits k disk).fetchList _
        plan := fun k q disk hq => by cases hq; exact fits k disk }
    have chan := f.chan_setChan_same c { f.chan c with
      attempt := { (f.chan c).attempt with plan := some p }, fetch := p.fetchList p.allSlots }
    have engine : (f.setChan c { f.chan c with
      attempt := { (f.chan c).attempt with plan := some p }, fetch := p.fetchList p.allSlots }).engine = f.engine := rfl
    generalize f.setChan c { f.chan c with
      attempt := { (f.chan c).attempt with plan := some p }, fetch := p.fetchList p.allSlots } = g at handed chan engine
    have producing' : (g.chan c).state = .producing := by rw [chan]; exact producing
    have still' : (g.chan c).seekTarget = none := by rw [chan]; exact still
    have unwanted' : c ∉ g.engine.wants := by rw [engine]; exact unwanted
    split
    · exact law_seekTrack handed producing' unwanted'
    · refine law_phase (p := some .write) (t := (g.chan c).seekTarget) handed producing' unwanted' (fun seeking => ?_) rfl
      rw [still'] at seeking
      cases seeking
  · exact h

theorem law_finishPlan (h : f.works.Law b) (spans : b.SpanLaw) : (f.finishPlan b).works.Law b := by
  unfold finishPlan
  split
  · exact h
  · next w building =>
    have done : Floor.works { f with engine := ({ f.engine with building := none }).kick b } |>.Law b :=
      { h with engine := h.engine.built_done.kick spans }
    simp only
    split
    · exact done
    · next live =>
      have live : w.discarded = false := by simpa using live
      obtain ⟨-, data⟩ := h.engine.built w building live
      refine law_handPlan (f := { f with engine := ({ f.engine with building := none }).kick b }) done
        (fun wanted => ?_) fun k disk x hx offset image => ?_
      · have queued : w.request.channel ∈ f.engine.queue.map (·.channel) := by
          have before := LayoutEngine.wants_kick b _ wanted
          rw [LayoutEngine.wants, Option.filter_none, Option.map_none, Option.toList_none, List.append_nil] at before
          exact before
        refine List.disjoint_of_nodup_append h.engine.once queued ?_
        rw [works_engine, building, Option.filter_some_pos (by rw [live]; rfl)]
        exact List.mem_singleton.mpr rfl
      · obtain ⟨slot, span, request, within⟩ := buildPlan_source hx image
        obtain ⟨same, fits⟩ := data slot span request
        have slots : some k.slot = some slot := (congrArg (Option.map DiskTag.slot) disk).symm.trans same
        cases slots
        exact within.trans fits

/-! Timer expiries (R102, R103, R106, R110, R111) and the clock. -/

theorem law_stepExpiry (h : f.works.Law b) (spans : b.SpanLaw) (c : Chan) : (f.stepExpiry b c).works.Law b := by
  have stopped : (f.modChan c fun x => { x with stepTimer := none }).works.Law b := law_unseen h c rfl
  have chan := f.chan_modChan_same c fun x => { x with stepTimer := none }
  unfold stepExpiry
  simp only
  generalize f.modChan c (fun x => { x with stepTimer := none }) = g at stopped chan
  split
  · next recal =>
    refine law_recalSample (work_of_state stopped ?_) spans
    rw [chan, recal]
    decide
  · next target producing seeking =>
    have phase : (f.chan c).phase = some .seek := ((h.sound c).seek (Option.isSome_iff_exists.mpr ⟨_, seeking⟩)).2
    obtain ⟨p, t, only, gist⟩ := Channel.continueSeek_gist (x := g.chan c) target (by rw [chan]; exact phase)
    refine law_phase stopped ?_ (stopped.not_wanted fun planning => ?_) only gist
    · rw [chan]
      exact producing
    · have plan : (g.chan c).phase = some .plan := planning.2
      rw [chan] at plan
      exact absurd (phase.symm.trans plan) (by decide)
  · exact stopped

theorem law_settleExpiry (h : f.works.Law b) (c : Chan) : (f.modChan c Channel.settleExpiry).works.Law b := by
  by_cases settle : (f.chan c).phase = some .settle
  · refine law_rephase (p := some .write) h (by rw [settle]; decide) (by rw [settle]; decide) ?_
    simp only [Channel.settleExpiry, Channel.gist, settle, if_true]
  · refine law_unseen h c ?_
    simp only [Channel.settleExpiry, Channel.gist, settle, if_false]

theorem law_spinupExpiry (h : f.works.Law b) (c : Chan) : (f.spinupExpiry c).works.Law b :=
  law_abortDisk (law_unseen h c rfl) c _

theorem law_watchdogExpiry (h : f.works.Law b) (c : Chan) : (f.watchdogExpiry c).works.Law b :=
  law_abortDisk (law_unseen h c rfl) c _

end Floor

theorem Channel.tick_gist (x : Channel) : x.tick.gist = x.gist := by
  have tag (k : Disk) : k.tick.tag = k.tag := by
    unfold Disk.tick
    split <;> rfl
  have disk : x.tick.disk.map Disk.tag = x.disk.map Disk.tag := by
    rw [tick]
    simp only
    split
    · exact Disk.map_tag tag x.disk
    · rfl
  rw [gist, disk]
  rfl

namespace Floor

variable {b : Base} {f : Floor} {c : Chan}

/-- The clock is not seen. -/
theorem works_tick (f : Floor) : Floor.works { f with
    channels := map8 Channel.tick f.channels, drives := map8 DriveLines.tick f.drives } = f.works := by
  have chan (c : Chan) : (map8 Channel.tick f.channels)[c].gist = f.channels[c].gist := by
    rw [Fin.getElem_fin, map8_get, Channel.tick_gist]
    rfl
  simp only [works, Floor.chan, chan]

/-! The drive requests and the handler (R100, R107, R108, R113, R114, R117 to R121, R166). -/

/-- A channel that holds no disk takes no part in what the Layout Engine does. -/
theorem law_leaveWaiting (h : f.works.Law b) {g : Channel → Channel} {state : ChannelState} {phase : Option Phase}
    (gist : (g (f.chan c)).gist = .rest state phase) (before : (f.chan c).state.holds = false)
    (holds : state.holds = false) (other : state ≠ .loaded) : ((f.leaveWaiting c).modChan c g).works.Law b := by
  have works : ((f.leaveWaiting c).modChan c g).works = { f.works.set c (g (f.chan c)).gist with
      waiting := f.waiting.filter fun d => decide (d ≠ c) } := (f.leaveWaiting c).works_modChan c g
  rw [works, gist]
  refine h.leave (.restAt holds phase) ((h.sound c).disk_none before).symm other (h.not_wanted fun planning => ?_)
  have producing : (f.chan c).state = .producing := planning.1
  rw [producing] at before
  cases before

/-- A sound channel without a disk, its state changed. -/
theorem gist_restate (h : f.works.Law b) (before : (f.chan c).state.holds = false) (state : ChannelState) :
    { f.chan c with state := state }.gist = .rest state (f.chan c).phase :=
  congrArg (fun g : Gist => { g with state := state }) ((h.sound c).eq_rest before)

theorem law_restState (h : f.works.Law b) (before : (f.chan c).state.holds = false)
    (unloaded : (f.chan c).state ≠ .loaded) {state : ChannelState} (holds : state.holds = false)
    (other : state ≠ .loaded) : (f.modChan c fun x => { x with state := state }).works.Law b :=
  law_rest h (gist_restate h before state) before unloaded holds other

theorem law_enterFault (h : f.works.Law b) (before : (f.chan c).state.holds = false)
    (unloaded : (f.chan c).state ≠ .loaded) : (f.enterFault c).works.Law b := by
  have rested : (f.modChan c fun x => { x with state := .fault }).works.Law b :=
    law_restState h before unloaded rfl (by decide)
  rw [works_modChan] at rested
  rw [works_enterFault]
  exact rested

theorem law_enterBySeat (h : f.works.Law b) (before : (f.chan c).state.holds = false)
    (unloaded : (f.chan c).state ≠ .loaded) : (f.enterBySeat c).works.Law b := by
  unfold enterBySeat
  split
  · exact law_enterLoaded h before unloaded
  · exact law_restState h before unloaded rfl (by decide)

theorem law_disable (h : f.works.Law b) (disablable : (f.chan c).state.disablable = true) :
    ((f.leaveWaiting c).modChan c Channel.disable).works.Law b := by
  have before : (f.chan c).state.holds = false := by
    cases state : (f.chan c).state <;> rw [state] at disablable <;> cases disablable <;> rfl
  refine law_leaveWaiting (state := .disabled) (phase := (f.chan c).phase) h ?_ before rfl (by decide)
  refine Eq.trans ?_ (gist_restate h before .disabled)
  unfold Channel.disable
  split <;> rfl

theorem law_resume (h : f.works.Law b) (c : Chan) : (f.setChan c (f.chan c).resume).works.Law b := by
  by_cases paused : (f.chan c).state = .paused
  · have work : f.works.Work b c := work_of_state h (by rw [paused]; decide)
    refine (work_modChan (g := Channel.resume) work ?_ ?_ ?_ (.inl ?_) (.inl ?_) (.inl ?_)).law
    all_goals rw [Channel.resume, if_pos paused]
    · exact spinup_busy
    all_goals rfl
  · refine law_unseen h c (g := Channel.resume) ?_
    rw [Channel.resume, if_neg paused]
    rfl

theorem law_resetDrive (h : f.works.Law b) (c : Chan) : (f.resetDrive c).works.Law b := by
  have offered : (({ f.abortDisk c .driveReset with offers := f.offers }).offer c).works.Law b :=
    law_offer (f := { f.abortDisk c .driveReset with offers := f.offers }) (law_abortDisk h c .driveReset) c
  unfold resetDrive
  split
  case h_1 | h_2 | h_3 | h_4 => exact law_unseen offered c (g := Channel.clearFaults) rfl
  case h_5 fault =>
    have chan := f.chan_modChan_same c Channel.clearFaults
    have cleared : ((f.modChan c Channel.clearFaults).chan c).state = .fault := by
      rw [chan]
      exact fault
    refine law_enterBySeat (law_unseen h c rfl) ?_ ?_
    · rw [cleared]
      rfl
    · rw [cleared]
      decide
  all_goals exact law_unseen h c (g := Channel.clearFaults) rfl

theorem law_seatChange (h : f.works.Law b) (c : Chan) (active : Bool) : (f.seatChange c active).works.Law b := by
  unfold seatChange
  split
  case h_1 empty =>
    exact law_enterLoaded h (by rw [empty]; rfl) (by rw [empty]; decide)
  case h_2 loaded =>
    have before : (f.chan c).state.holds = false := by rw [loaded]; rfl
    exact law_leaveWaiting h (gist_restate h before .empty) before rfl (by decide)
  case h_3 | h_4 | h_5 | h_6 => exact law_abortDisk h c .diskPulled
  case h_7 => exact law_unseen h c rfl
  case h_8 unloading =>
    have binned : (f.modChan c fun x => { x with bin := .none }).works.Law b := law_unseen h c rfl
    have state : ((f.modChan c fun x => { x with bin := .none }).chan c).state = .unloading := by
      rw [chan_modChan_same]
      exact unloading
    have before : ((f.modChan c fun x => { x with bin := .none }).chan c).state.holds = false := by rw [state]; rfl
    have unloaded : ((f.modChan c fun x => { x with bin := .none }).chan c).state ≠ .loaded := by rw [state]; decide
    generalize f.modChan c (fun x => { x with bin := .none }) = g at binned before unloaded
    simp only
    split
    · exact law_enterFault (f := g.modDrive c _) binned before unloaded
    · exact law_restState (f := g.modDrive c _) binned before unloaded rfl (by decide)
  all_goals exact h

theorem law_debounceExpiry (h : f.works.Law b) (c : Chan) : (f.debounceExpiry c).works.Law b := by
  unfold debounceExpiry
  simp only
  split
  · exact h
  · exact law_seatChange (f := f.modDrive c _) h c _

/-! The job requests (R69 to R72). -/

theorem law_abortAll (h : f.works.Law b) (l : List Chan) (cause : Cause) : (f.abortAll l cause).works.Law b := by
  induction l generalizing f with
  | nil => exact h
  | cons c rest ih => exact ih (law_abortDisk h c cause)

theorem law_cancelNotices (h : f.works.Law b) (id : Nat) : (f.cancelNotices id).works.Law b := by
  rw [cancelNotices_eq]
  exact law_abortAll h _ _

/-- A job of the queue changes its state and end. -/
theorem law_restateJob (h : f.works.Law b) {j : Job} (mem : j ∈ f.jobs) (state : JobState) (cause : Option EndCause) :
    (f.putJob { j with state := state, endCause := cause }).works.Law b :=
  { h with
    books := h.books.restate mem state cause
    references := fun k => by
      have slots := h.books.putIn_slots (j := { j with state := state, endCause := cause }) mem rfl rfl
      exact (h.references k).trans (congrArg (List.count k) slots.symm) }

theorem law_endJob (h : f.works.Law b) {j : Job} (mem : j ∈ f.jobs) (state : JobState) (cause : EndCause) :
    (f.endJob j state cause).works.Law b := law_restateJob h mem state (some cause)

end Floor

end Sys2Proof.Machine

/-! SUPPORT. The spans of the images stay within their regions (R44, R48, R55), and what a move of the base leaves of
the images that jobs name and of the slots that transfers carry. -/

namespace Sys2Proof.Machine

/-! The spans of one slot. -/

/-- The bytes of the region that a slot records. -/
def ImageSlot.bytes (im : ImageSlot) : Nat := (im.opening.map (·.length)).getD 0 * blockBytes

theorem Base.regionBytes_image (b : Base) (k : SlotId) : b.regionBytes k = (b.image k).bytes := rfl

/-- What the spans of one slot obey, with the formats of a table. -/
structure ImageSlot.SpanSound (format : FormatId → Option Descriptor) (im : ImageSlot) : Prop where
  mark : im.fillMark ≤ im.bytes
  none : im.state = .free → im.trackMap = []
  span : ∀ f offset len, TrackEntry.data f offset len ∈ im.trackMap →
    offset + len ≤ im.fillMark ∧ ∃ d, format f = some d ∧ d.spanLen = len

theorem Base.SpanLaw.image {b : Base} (h : b.SpanLaw) (k : SlotId) : (b.image k).SpanSound b.format :=
  { mark := h.mark k, none := h.none k, span := h.span k }

theorem Base.SpanLaw.of {b : Base} (images : ∀ k, (b.image k).SpanSound b.format)
    (cleared : ∀ w ∈ b.store.clearing, w.bytes ≤ b.regionBytes w.slot)
    (check : ∀ k, b.check = some k → ∀ x ∈ k.spans, b.fits k.slot x.1 x.2) : b.SpanLaw :=
  { mark := fun k => (images k).mark, none := fun k => (images k).none, span := fun k => (images k).span
    cleared := cleared, check := check }

theorem ImageSlot.spanSound_reset (format : FormatId → Option Descriptor) (n : BitVec 16) :
    ImageSlot.SpanSound format { ImageSlot.reset with openNumber := n } where
  mark := Nat.zero_le _
  none _ := rfl
  span f offset len h := by cases h

theorem ImageSlot.SpanSound.opened {format : FormatId → Option Descriptor} (im : ImageSlot) (o : Opening) :
    (im.opened o).SpanSound format where
  mark := Nat.zero_le _
  none h := by cases h
  span f offset len h := by cases (List.mem_replicate.mp h).2

/-- A slot changed in what its spans do not rest on. -/
theorem ImageSlot.SpanSound.congr {format : FormatId → Option Descriptor} {im im' : ImageSlot} (h : im.SpanSound format)
    (mark : im'.fillMark = im.fillMark) (opening : im'.opening = im.opening) (map : im'.trackMap = im.trackMap)
    (free : im'.state = .free → im.state = .free) : im'.SpanSound format where
  mark := by rw [mark, ImageSlot.bytes, opening]; exact h.mark
  none hf := by rw [map]; exact h.none (free hf)
  span := by rw [map, mark]; exact h.span

/-- An entry of the track map replaced, and the fill mark raised to the end of its span (R48). -/
theorem ImageSlot.SpanSound.defineTrack {b : Base} {slot : SlotId} (h : (b.image slot).SpanSound b.format) {c hd : Nat}
    {choice : TrackChoice} {e : TrackEntry} {grows : Nat} (new : b.newEntry slot choice = .ok (e, grows))
    (loading : (b.image slot).state = .loading) :
    ImageSlot.SpanSound b.format
      { (b.image slot).setEntry c hd e with fillMark := (b.image slot).fillMark + grows } := by
  have room : (b.image slot).fillMark + grows ≤ (b.image slot).bytes ∧ ∀ f offset len, e = .data f offset len →
      offset + len = (b.image slot).fillMark + grows ∧ ∃ d, b.format f = some d ∧ d.spanLen = len := by
    unfold Base.newEntry at new
    split at new
    · cases new
      exact ⟨h.mark, fun _ _ _ he => by cases he⟩
    · split at new
      · cases new
      · cases new
        exact ⟨h.mark, fun _ _ _ he => by cases he⟩
    · split at new
      · cases new
      · next d format =>
        simp only at new
        split at new
        · cases new
        · next room =>
          cases new
          exact ⟨not_lt.mp room, fun _ _ _ he => by cases he; exact ⟨rfl, d, format, rfl⟩⟩
  exact {
    mark := room.1
    none := fun free => absurd (loading.symm.trans free) (by decide)
    span := fun f offset len mem => by
      rcases List.mem_or_eq_of_mem_set mem with old | same
      · obtain ⟨below, d⟩ := h.span f offset len old
        exact ⟨below.trans (Nat.le_add_right _ _), d⟩
      · obtain ⟨ends, d⟩ := room.2 f offset len same.symm
        exact ⟨ends.le, d⟩ }

/-! Every move keeps the spans. -/

namespace Base.SpanLaw

variable {b : Base}

/-- Slots, formats, clearing and check as they were. -/
theorem congr (h : b.SpanLaw) {b' : Base} (images : ∀ k, b'.image k = b.image k) (formats : ∀ f, b'.format f = b.format f)
    (clearing : b'.store.clearing = b.store.clearing) (check : b'.check = b.check) : b'.SpanLaw := by
  have bytes (k : SlotId) : b'.regionBytes k = b.regionBytes k := by rw [regionBytes_image, images]; rfl
  have format : b'.format = b.format := funext formats
  refine .of (fun k => ?_) (fun w hw => ?_) fun k hk x hx => ?_
  · rw [images, format]
    exact h.image k
  · rw [bytes]
    exact h.cleared w (clearing ▸ hw)
  · rw [fits, bytes]
    exact h.check k (check ▸ hk) x hx

/-- One slot changes, its region as it was. -/
theorem setSlot (h : b.SpanLaw) (slot : SlotId) {x : ImageSlot} (sound : x.SpanSound b.format)
    (opening : x.opening = (b.image slot).opening) {b' : Base} (images : ∀ k, b'.image k = (b.setImage slot x).image k)
    (formats : ∀ f, b'.format f = b.format f)
    (clearing : ∀ w ∈ b'.store.clearing, w.bytes ≤ b.regionBytes w.slot)
    (check : ∀ k, b'.check = some k → ∀ x ∈ k.spans, b.fits k.slot x.1 x.2) : b'.SpanLaw := by
  have format : b'.format = b.format := funext formats
  have opened (k : SlotId) : (b'.image k).opening = (b.image k).opening := by
    rw [images]
    by_cases same : k = slot
    · rw [same, image_setImage_same, opening]
    · rw [image_setImage_other b slot k x same]
  have bytes (k : SlotId) : b'.regionBytes k = b.regionBytes k := by
    rw [regionBytes_image, ImageSlot.bytes, opened]
    rfl
  refine .of (fun k => ?_) (fun w hw => ?_) fun k hk y hy => ?_
  · rw [images, format]
    by_cases same : k = slot
    · rw [same, image_setImage_same]
      exact sound
    · rw [image_setImage_other b slot k x same]
      exact h.image k
  · rw [bytes]
    exact clearing w hw
  · rw [fits, bytes]
    exact check k hk y hy

theorem openImage (h : b.SpanLaw) (own : b.OwnLaw) {slot : SlotId} (free : (b.image slot).state = .free) (o : Opening)
    (regions : List Region) : (b.openImage slot o regions).SpanLaw := by
  have other {k : SlotId} (hk : (b.image k).state ≠ .free) : (b.openImage slot o regions).image k = b.image k :=
    openImage_image_other b o regions fun same => hk (same ▸ free)
  have bytes {k : SlotId} (hk : (b.image k).state ≠ .free) : (b.openImage slot o regions).regionBytes k = b.regionBytes k := by
    rw [regionBytes_image, other hk]
    rfl
  refine .of (fun k => ?_) (fun w hw => ?_) fun k hk x hx => ?_
  · by_cases same : k = slot
    · rw [same, openImage_image_same]
      exact .opened _ o
    · rw [openImage_image_other b o regions same]
      exact h.image k
  · rcases List.mem_append.mp hw with old | new
    · rw [bytes (by rw [own.clearing w old]; decide)]
      exact h.cleared w old
    · rw [List.mem_singleton.mp new]
      exact Nat.zero_le _
  · rw [fits, bytes (by rw [own.checked k hk]; decide)]
    exact h.check k hk x hx

theorem deleteImage (h : b.SpanLaw) (slot : SlotId) : ((b.abandoned slot).deleteImage slot).SpanLaw := by
  have bytes {k : SlotId} (hk : k ≠ slot) : ((b.abandoned slot).deleteImage slot).regionBytes k = b.regionBytes k := by
    rw [regionBytes_image, deleteImage_image_other b hk]
    rfl
  refine .of (fun k => ?_) (fun w hw => ?_) fun k hk x hx => ?_
  · by_cases same : k = slot
    · rw [same, deleteImage_image_same]
      exact ImageSlot.spanSound_reset _ _
    · rw [deleteImage_image_other b same]
      exact h.image k
  · obtain ⟨old, other⟩ := List.mem_filter.mp hw
    rw [bytes (of_decide_eq_true other)]
    exact h.cleared w old
  · have under : (if b.check.map (·.slot) = some slot then Option.none else b.check) = some k := hk
    split at under
    · cases under
    · next other =>
      have apart : k.slot ≠ slot := fun same => other (by rw [under, ← same]; rfl)
      rw [fits, bytes apart]
      exact h.check k under x hx

theorem clearBurst (h : b.SpanLaw) (slot : SlotId) (len : Nat) : (b.clearBurst slot len).SpanLaw := by
  unfold Base.clearBurst
  simp only
  split
  · exact h.setSlot slot (x := { b.image slot with state := .loading })
      ((h.image slot).congr rfl rfl rfl fun hf => by cases hf) rfl (fun _ => rfl) (fun _ => rfl)
      (fun w hw => h.cleared w (List.mem_of_mem_filter hw)) h.check
  · next going =>
    refine .of h.image (fun w hw => ?_) h.check
    obtain ⟨v, hv, rfl⟩ := List.mem_map.mp hw
    split
    · next mine =>
      have below : ¬ b.regionBytes slot ≤ v.bytes + len := fun done =>
        going (List.any_eq_true.mpr ⟨v, hv, by simp [mine, done]⟩)
      rw [← mine] at below
      exact le_of_lt (not_le.mp below)
    · exact h.cleared v hv

theorem spansAfter_fits (b : Base) {k : SlotId} {spans : List (Nat × Nat)} (h : ∀ x ∈ spans, b.fits k x.1 x.2) (len : Nat) :
    ∀ x ∈ spansAfter len spans, b.fits k x.1 x.2 := by
  cases spans with
  | nil => exact h
  | cons first rest =>
    obtain ⟨offset, left⟩ := first
    rw [spansAfter]
    split
    · exact fun x hx => h x (List.mem_cons_of_mem _ hx)
    · intro x hx
      rcases List.mem_cons.mp hx with rfl | hx
      · have whole : offset + left ≤ b.regionBytes k := h (offset, left) List.mem_cons_self
        simp only [fits]
        omega
      · exact h x (List.mem_cons_of_mem _ hx)

/-- The spans a check reads are those of the slot's DATA entries (R55). -/
theorem spans_fit (h : b.SpanLaw) (slot : SlotId) : ∀ x ∈ (b.image slot).spans, b.fits slot x.1 x.2 := by
  intro x hx
  obtain ⟨e, he, hx⟩ := List.mem_filterMap.mp hx
  split at hx
  · cases hx
    exact (h.span slot _ _ _ he).1.trans (h.mark slot)
  all_goals cases hx

end Base.SpanLaw

theorem Base.Move.spanLaw {b b' : Base} (move : Base.Move b b') (own : b.OwnLaw) (h : b.SpanLaw) : b'.SpanLaw := by
  cases move with
  | format f d unused =>
    have named {k : SlotId} {g : FormatId} {offset len : Nat} (mem : TrackEntry.data g offset len ∈ (b.image k).trackMap) :
        g ≠ f := by
      rintro rfl
      have used : b.formatInUse g = true := (b.formatInUse_iff g).mpr
        ⟨k, fun free => (by rw [h.none k free] at mem; cases mem), .inr ⟨offset, len, mem⟩⟩
      rw [unused] at used
      cases used
    refine .of (fun k => { mark := h.mark k, none := h.none k, span := fun g offset len mem => ?_ }) h.cleared h.check
    obtain ⟨below, d', format, length⟩ := h.span k g offset len mem
    exact ⟨below, d', (Base.format_setFormat_other b f g d (named mem)).trans format, length⟩
  | openImage slot o regions running free low room => exact h.openImage own free o regions
  | defineTrack slot c hd choice e grows loading skip new =>
    exact h.setSlot slot ((h.image slot).defineTrack new loading) rfl (fun _ => rfl) (fun _ => rfl) h.cleared h.check
  | overflow slot n =>
    exact h.setSlot slot (x := { b.image slot with overflow := n }) ((h.image slot).congr rfl rfl rfl id) rfl (fun _ => rfl)
      (fun _ => rfl) h.cleared h.check
  | references slot n =>
    exact h.setSlot slot (x := { b.image slot with refCount := n }) ((h.image slot).congr rfl rfl rfl id) rfl (fun _ => rfl)
      (fun _ => rfl) h.cleared h.check
  | finish slot expected loading =>
    exact h.setSlot slot
      (x := { b.image slot with expected := some expected, computed := none, state := .checking })
      ((h.image slot).congr rfl rfl rfl fun hf => by cases hf) rfl (fun _ => rfl) (fun _ => rfl) h.cleared h.check
  | takeCheck slot rest idle list =>
    refine .of h.image h.cleared fun k hk => ?_
    cases hk
    exact h.spans_fit slot
  | goOnCheck k crc len read check =>
    refine .of h.image h.cleared fun l hl => ?_
    cases hl
    exact Base.SpanLaw.spansAfter_fits b (h.check k check) len
  | endCheck k crc check =>
    refine h.setSlot k.slot (x := (b.image k.slot).checked crc) ((h.image k.slot).congr rfl rfl rfl fun hf => ?_) rfl
      (fun _ => rfl) (fun _ => rfl) h.cleared fun l hl => by cases hl
    simp only [ImageSlot.checked] at hf
    split at hf <;> cases hf
  | deleteImage slot used unreferenced => exact h.deleteImage slot
  | clear slot len => exact h.clearBurst slot len
  | refresh =>
    refine h.congr (fun _ => rfl) (fun _ => rfl) ?_ rfl
    simp only [Store.refreshExpiry]
    split <;> rfl
  | grant g => cases g <;> exact h.congr (fun _ => rfl) (fun _ => rfl) rfl rfl
  | _ => exact h.congr (fun _ => rfl) (fun _ => rfl) rfl rfl

theorem Base.Reset.spanLaw {b b' : Base} (reset : Base.Reset b b') (own : b.OwnLaw) (h : b.SpanLaw) : b'.SpanLaw := by
  have emptied (blocks : Nat) (format : FormatId → Option Descriptor) (k : SlotId) :
      ((Base.reset blocks).image k).SpanSound format := by
    rw [Base.image_reset]
    exact ImageSlot.spanSound_reset _ 0
  cases reset with
  | powerOn pins => exact .of (fun k => emptied 0 _ k) (fun w hw => by cases hw) fun k hk => by cases hk
  | assert => exact .of (fun k => emptied 0 _ k) (fun w hw => by cases hw) fun k hk => by cases hk
  | release size1 size0 active =>
    refine .of h.image (fun w hw => by cases hw) fun k hk => ?_
    have checking := own.checked k hk
    rw [own.reset active k.slot] at checking
    cases checking

/-- An entry that stands in the place of a SKIP entry leaves the DATA entries. -/
theorem ImageSlot.data_mem_setEntry {im : ImageSlot} {c h : Nat} (e : TrackEntry) (skip : im.entry c h = some .skip)
    {f : FormatId} {offset len : Nat} (mem : TrackEntry.data f offset len ∈ im.trackMap) :
    TrackEntry.data f offset len ∈ (im.setEntry c h e).trackMap := by
  have there : im.trackMap[im.trackIndex c h]? = some .skip := by
    unfold ImageSlot.entry at skip
    unfold ImageSlot.trackIndex
    cases opening : im.opening with
    | none =>
      rw [opening] at skip
      cases skip
    | some o =>
      rw [opening] at skip
      simp only at skip
      split at skip
      · exact skip
      · cases skip
  obtain ⟨i, hi⟩ := List.mem_iff_getElem?.mp mem
  have apart : im.trackIndex c h ≠ i := by
    rintro rfl
    rw [there] at hi
    cases hi
  refine List.mem_iff_getElem?.mpr ⟨i, ?_⟩
  rw [ImageSlot.setEntry, List.getElem?_set_ne apart, hi]

/-! What a move leaves of a slot. -/

/-- A slot is as it was for its jobs and its transfers, or has been deleted with no job naming it. -/
structure ImageSlot.Calm (im im' : ImageSlot) : Prop where
  references : im'.refCount = im.refCount
  stands : (im.refCount = 0 ∧ im'.opening = none ∧ im'.state = .free) ∨
    (im'.opening = im.opening ∧ im'.openNumber = im.openNumber ∧ (im'.state = .clearing ↔ im.state = .clearing) ∧
      (im'.state = .free ↔ im.state = .free) ∧
      ∀ f offset len, TrackEntry.data f offset len ∈ im.trackMap → TrackEntry.data f offset len ∈ im'.trackMap)

theorem ImageSlot.Calm.refl (im : ImageSlot) : im.Calm im :=
  ⟨rfl, .inr ⟨rfl, rfl, .rfl, .rfl, fun _ _ _ => id⟩⟩

theorem ImageSlot.Calm.trans {im im' im'' : ImageSlot} (h : im.Calm im') (g : im'.Calm im'') : im.Calm im'' where
  references := g.references.trans h.references
  stands := by
    rcases g.stands with ⟨none, gone⟩ | ⟨opening, number, clearing, free, map⟩
    · exact .inl ⟨h.references ▸ none, gone⟩
    · rcases h.stands with ⟨none, gone, isFree⟩ | ⟨opening', number', clearing', free', map'⟩
      · exact .inl ⟨none, opening.trans gone, free.mpr isFree⟩
      · exact .inr ⟨opening.trans opening', number.trans number', clearing.trans clearing', free.trans free',
          fun f offset len mem => map f offset len (map' f offset len mem)⟩

/-- A slot whose state goes from one that is neither FREE nor CLEARING to another such, if it changes. -/
theorem ImageSlot.Calm.restate {im im' : ImageSlot} (references : im'.refCount = im.refCount)
    (opening : im'.opening = im.opening) (number : im'.openNumber = im.openNumber)
    (map : ∀ f offset len, TrackEntry.data f offset len ∈ im.trackMap → TrackEntry.data f offset len ∈ im'.trackMap)
    (state : im'.state = im.state ∨ (im.state ≠ .free ∧ im.state ≠ .clearing ∧ im'.state ≠ .free ∧ im'.state ≠ .clearing)) :
    im.Calm im' := by
  refine ⟨references, .inr ⟨opening, number, ?_, ?_, map⟩⟩
  all_goals
    rcases state with same | ⟨free, clearing, free', clearing'⟩
    · rw [same]
  · exact iff_of_false clearing' clearing
  · exact iff_of_false free' free

/-- A base comes of another with its own law kept and every slot calm. -/
structure Base.Quiet (b b' : Base) : Prop where
  own : b'.OwnLaw
  calm : ∀ k, (b.image k).Calm (b'.image k)

theorem Base.Quiet.refl {b : Base} (own : b.OwnLaw) : b.Quiet b := ⟨own, fun _ => .refl _⟩

theorem Base.Quiet.trans {b b' b'' : Base} (h : b.Quiet b') (g : b'.Quiet b'') : b.Quiet b'' :=
  ⟨g.own, fun k => (h.calm k).trans (g.calm k)⟩

/-- A move that changes one slot, calmly. -/
theorem Base.Move.quiet_slot {b b' : Base} (move : Base.Move b b') (own : b.OwnLaw) (slot : SlotId) {x : ImageSlot}
    (images : ∀ k, b'.image k = (b.setImage slot x).image k) (calm : (b.image slot).Calm x) : b.Quiet b' where
  own := move.ownLaw own
  calm k := by
    rw [images]
    by_cases same : k = slot
    · rw [same, image_setImage_same]
      exact calm
    · rw [image_setImage_other b slot k x same]
      exact .refl _

/-- A move that changes no slot. -/
theorem Base.Move.quiet_still {b b' : Base} (move : Base.Move b b') (own : b.OwnLaw)
    (images : ∀ k, b'.image k = b.image k) : b.Quiet b' :=
  ⟨move.ownLaw own, fun k => images k ▸ .refl _⟩

namespace Base.OwnLaw

variable {b : Base}

theorem quiet_defineTrack (own : b.OwnLaw) {slot : SlotId} {c hd : Nat} {choice : TrackChoice} {e : TrackEntry}
    {grows : Nat} (loading : (b.image slot).state = .loading) (skip : (b.image slot).entry c hd = some .skip)
    (new : b.newEntry slot choice = .ok (e, grows)) :
    b.Quiet (b.setImage slot { (b.image slot).setEntry c hd e with fillMark := (b.image slot).fillMark + grows }) :=
  Base.Move.quiet_slot (.defineTrack b slot c hd choice e grows loading skip new) own slot (fun _ => rfl)
    (.restate rfl rfl rfl (fun _ _ _ => ImageSlot.data_mem_setEntry e skip) (.inl rfl))

theorem quiet_overflow (own : b.OwnLaw) (slot : SlotId) (n : Nat) :
    b.Quiet (b.setImage slot { b.image slot with overflow := n }) :=
  Base.Move.quiet_slot (.overflow b slot n) own slot (fun _ => rfl) (.restate rfl rfl rfl (fun _ _ _ => id) (.inl rfl))

theorem quiet_finish (own : b.OwnLaw) {slot : SlotId} (expected : Word32) (loading : (b.image slot).state = .loading) :
    b.Quiet { b.setImage slot { b.image slot with
        expected := some expected, computed := none, state := .checking } with
      checkList := b.checkList ++ [slot] } := by
  have before : (b.image slot).state ≠ .free ∧ (b.image slot).state ≠ .clearing := by rw [loading]; decide
  have after : ImageState.checking ≠ .free ∧ ImageState.checking ≠ .clearing := by decide
  exact Base.Move.quiet_slot (.finish b slot expected loading) own slot (fun _ => rfl)
    (.restate rfl rfl rfl (fun _ _ _ => id) (.inr ⟨before.1, before.2, after⟩))

theorem quiet_endCheck (own : b.OwnLaw) {k : ImageCheck} (crc : Word32) (check : b.check = some k) :
    b.Quiet { b.setImage k.slot ((b.image k.slot).checked crc) with check := none } := by
  refine Base.Move.quiet_slot (.endCheck b k crc check) own k.slot (fun _ => rfl)
    (.restate rfl rfl rfl (fun _ _ _ => id) (.inr ?_))
  rw [own.checked k check, ImageSlot.checked]
  simp only
  split <;> decide

theorem quiet_deleteImage (own : b.OwnLaw) {slot : SlotId} (used : (b.image slot).state ≠ .free)
    (unreferenced : (b.image slot).refCount = 0) : b.Quiet ((b.abandoned slot).deleteImage slot) := by
  refine ⟨(Base.Move.deleteImage b slot used unreferenced).ownLaw own, fun k => ?_⟩
  by_cases same : k = slot
  · rw [same, Base.deleteImage_image_same]
    exact ⟨unreferenced.symm, .inl ⟨unreferenced, rfl, rfl⟩⟩
  · rw [Base.deleteImage_image_other b same]
    exact .refl _

end Base.OwnLaw

end Sys2Proof.Machine

/-! SUPPORT. The laws of the store as laws of the works and of the base: what they say is the same, and a change of the
base leaves what the channels hold. -/

namespace Sys2Proof.Machine

/-! Another base under the same works. -/

/-- The region and the DATA entries of a slot stand. -/
structure Base.KeepsSlot (b b' : Base) (slot : SlotId) : Prop where
  bytes : b.regionBytes slot ≤ b'.regionBytes slot
  entries : ∀ f offset len, TrackEntry.data f offset len ∈ (b.image slot).trackMap →
    TrackEntry.data f offset len ∈ (b'.image slot).trackMap

theorem Base.KeepsSlot.fits {b b' : Base} {slot : SlotId} (h : b.KeepsSlot b' slot) {offset len : Nat}
    (within : b.fits slot offset len) : b'.fits slot offset len := le_trans within h.bytes

theorem ImageSlot.Calm.keepsSlot {b b' : Base} {slot : SlotId} (h : (b.image slot).Calm (b'.image slot))
    (named : (b.image slot).refCount ≠ 0) : b.KeepsSlot b' slot := by
  obtain ⟨none, -⟩ | ⟨opening, -, -, -, map⟩ := h.stands
  · exact absurd none named
  · refine ⟨?_, map⟩
    rw [Base.regionBytes_image, Base.regionBytes_image, ImageSlot.bytes, ImageSlot.bytes, opening]

section

variable {b b' : Base} {w : Works} (h : w.Law b) (keeps : ∀ j ∈ w.jobs, b.KeepsSlot b' j.slot)

include h keeps

/-- The image of a disk is one that a job names. -/
theorem Works.Law.keeps_held {c : Chan} {k : DiskTag} (disk : (w.chans c).disk = some k) : b.KeepsSlot b' k.slot := by
  obtain ⟨j, mem, -, slot⟩ := h.books.owned c k disk
  exact slot ▸ keeps j mem

theorem Works.Law.rebase_sound (c : Chan) : (w.chans c).Sound b' :=
  { h.sound c with
    fetch := fun k disk i hi => (h.keeps_held keeps disk).fits ((h.sound c).fetch k disk i hi)
    plan := fun k p disk plan x hx offset image =>
      (h.keeps_held keeps disk).fits ((h.sound c).plan k p disk plan x hx offset image) }

theorem Works.Law.rebase_engine : EngineLaw b' w.engine w.chans := by
  have wanted {c : Chan} {slot : SlotId} (disk : (w.chans c).disk.map (·.slot) = some slot) : b.KeepsSlot b' slot := by
    obtain ⟨k, hk, rfl⟩ := Option.map_eq_some_iff.mp disk
    exact h.keeps_held keeps hk
  exact {
    once := h.engine.once
    queued := fun r hr => by
      obtain ⟨planning, data⟩ := h.engine.queued r hr
      refine ⟨planning, fun slot offset hd => ?_⟩
      obtain ⟨disk, len, mem⟩ := data slot offset hd
      exact ⟨disk, len, (wanted disk).entries _ _ _ mem⟩
    built := fun v hv live => by
      obtain ⟨planning, data⟩ := h.engine.built v hv live
      refine ⟨planning, fun slot offset hd => ?_⟩
      obtain ⟨disk, fits⟩ := data slot offset hd
      exact ⟨disk, (wanted disk).fits fits⟩ }

/-- The works keep their laws on a base that keeps the images that jobs name. -/
theorem Works.Law.rebase (references : ∀ k, (b'.image k).refCount = (b.image k).refCount) : w.Law b' where
  sound := h.rebase_sound keeps
  books := h.books
  waiting := h.waiting
  engine := h.rebase_engine keeps
  references k := (references k).trans (h.references k)

end

/-! The model's words for the books. -/

/-- What the disks of a job carry, read off the channels that hold them. -/
theorem Floor.carriedOf_works (f : Floor) (id : Nat) :
    carriedOf f.works.tags id = (f.holders id).filterMap fun c => (f.chan c).disk.map (·.serial) := by
  rw [Floor.holders, List.filterMap_filter]
  refine congrArg (List.filterMap · allChannels) (funext fun c => ?_)
  rw [Works.tags, Floor.works_chans, Channel.gist]
  cases (f.chan c).disk with
  | none => simp
  | some k => simp [Disk.tag, DiskTag.carriedFor]

theorem Floor.mem_holders (f : Floor) (id : Nat) (c : Chan) :
    c ∈ f.holders id ↔ ∃ k, (f.chan c).disk = some k ∧ k.jobId = id := by
  rw [Floor.holders, List.mem_filter, decide_eq_true_eq, Option.map_eq_some_iff]
  exact and_iff_right (mem_allChannels c)

theorem Floor.holders_length (f : Floor) (id : Nat) : (f.holders id).length = (carriedOf f.works.tags id).length := by
  rw [Floor.carriedOf_works]
  symm
  rw [List.filterMap_length_eq_length]
  intro c hc
  obtain ⟨k, disk, -⟩ := (f.mem_holders id c).mp hc
  rw [disk]
  rfl

theorem Floor.openNumbers_eq (f : Floor) (id : Nat) (st : SerialState) :
    f.openNumbers id st = st.reclaim ++ numbersOf (carriedOf f.works.tags id) := by
  rw [Floor.openNumbers, numbersOf, Floor.carriedOf_works, List.filterMap_filterMap]
  congr 2
  funext c
  cases (f.chan c).disk <;> rfl

theorem Floor.mem_carriedOf_works (f : Floor) (id : Nat) (s : Option (Nat × SerialSpec)) :
    s ∈ carriedOf f.works.tags id ↔ ∃ c k, (f.chan c).disk = some k ∧ k.jobId = id ∧ k.serial = s := by
  rw [mem_carriedOf]
  constructor
  · rintro ⟨c, k, hk, id, serial⟩
    obtain ⟨d, disk, rfl⟩ := Option.map_eq_some_iff.mp hk
    exact ⟨c, d, disk, id, serial⟩
  · rintro ⟨c, d, disk, id, serial⟩
    exact ⟨c, d.tag, congrArg (Option.map Disk.tag) disk, id, serial⟩

theorem Floor.numberLaw_iff (f : Floor) (j : Job) (st : SerialState) :
    f.NumberLaw j st ↔ SerialBooks (carriedOf f.works.tags j.id) j st := by
  constructor
  · intro h
    exact {
      step := h.step, ascending := h.ascending, few := h.few, next := h.next, bound := h.bound
      once := f.openNumbers_eq j.id st ▸ h.once
      issued := f.openNumbers_eq j.id st ▸ h.issued
      carried := fun s hs => by
        obtain ⟨c, k, disk, id, rfl⟩ := (f.mem_carriedOf_works j.id s).mp hs
        exact h.carried c k disk id }
  · intro h
    exact {
      step := h.step, ascending := h.ascending, few := h.few, next := h.next, bound := h.bound
      once := f.openNumbers_eq j.id st ▸ h.once
      issued := f.openNumbers_eq j.id st ▸ h.issued
      carried := fun c k disk id => h.carried _ ((f.mem_carriedOf_works j.id _).mpr ⟨c, k, disk, id, rfl⟩) }

/-! The laws of a state, taken apart. -/

/-- The jobs that name a slot, counted among the slots that jobs name. -/
theorem count_slots (jobs : List Job) (k : SlotId) :
    (jobs.map (·.slot)).count k = (jobs.filter fun j => decide (j.slot = k)).length := by
  rw [List.count, List.countP_map, List.countP_eq_length_filter]
  rfl

/-- The laws that keep every burst in the store, over the works. -/
structure State.Kept (s : State) : Prop where
  own : s.base.OwnLaw
  spans : s.base.SpanLaw
  works : s.floor.works.Law s.base
  transfers : ∀ p t, (s.floor.port p).transfer = some t → s.base.transferLaw p t
  burst : s.BurstLaw

theorem State.StoreLaw.sound {s : State} (h : s.StoreLaw) (c : Chan) : (s.floor.chan c).gist.Sound s.base where
  held := by
    rw [Channel.gist, Option.isSome_map, h.jobs.jobs.held c, Channel.holdsDisk_eq]
  posting := by
    rw [Channel.gist, Option.isSome_map]
    exact h.jobs.jobs.posting c
  record r hr := by
    obtain ⟨body, record, rfl⟩ := Option.map_eq_some_iff.mp hr
    obtain ⟨k, disk, id⟩ := Option.map_eq_some_iff.mp (h.jobs.jobs.record c body record)
    have serial := h.jobs.serials.record c body record
    rw [disk] at serial
    rw [Channel.gist, disk]
    exact congrArg some (Prod.ext id serial.symm)
  seek := h.plans.seek c
  idle idle := h.fetches.idle c (idle.imp_left Option.map_eq_none_iff.mp)
  fetch k hk := by
    obtain ⟨d, disk, rfl⟩ := Option.map_eq_some_iff.mp hk
    exact h.fetches.fetch c d disk
  plan k p hk := by
    obtain ⟨d, disk, rfl⟩ := Option.map_eq_some_iff.mp hk
    exact h.fetches.plan c d p disk

/-- The image of the disk that a channel holds. -/
theorem Channel.gist_slot (x : Channel) : x.gist.disk.map (·.slot) = x.disk.map (·.slot) := by
  rw [gist, Option.map_map]
  rfl

theorem State.StoreLaw.kept {s : State} (h : s.StoreLaw) : s.Kept where
  own := h.own
  spans := h.spans
  transfers := h.transfers
  burst := h.burst
  works := {
    sound := h.sound
    waiting := h.jobs.waiting
    references := fun k => (h.jobs.references k).trans (count_slots s.floor.jobs k).symm
    books := {
      few := h.jobs.jobs.few
      distinct := h.jobs.jobs.distinct
      owned := fun c k hk => by
        obtain ⟨d, disk, rfl⟩ := Option.map_eq_some_iff.mp hk
        exact h.jobs.jobs.owned c d disk
      each := fun j hj => {
        counts := h.jobs.jobs.counts j hj
        targets := h.jobs.jobs.targets j hj
        inFlight := (h.jobs.jobs.inFlight j hj).trans (s.floor.holders_length j.id)
        numbers := fun st serial => (s.floor.numberLaw_iff j st).mp (h.jobs.serials.numbers j hj st serial)
        plain := fun none t ht => by
          obtain ⟨c, k, disk, id, rfl⟩ := (s.floor.mem_carriedOf_works j.id t).mp ht
          exact h.jobs.serials.plain j hj none c k disk id } }
    engine := {
      once := h.plans.once
      queued := fun r hr => by
        obtain ⟨state, phase, data⟩ := h.plans.queued r hr
        exact ⟨⟨state, phase⟩, fun slot offset hd => (Channel.gist_slot _).symm ▸ data slot offset hd⟩
      built := fun w hw live => by
        obtain ⟨state, phase, data⟩ := h.plans.built w hw live
        exact ⟨⟨state, phase⟩, fun slot offset hd => (Channel.gist_slot _).symm ▸ data slot offset hd⟩ } }

theorem State.Kept.jobLaw {s : State} (h : s.Kept) : s.JobLaw where
  references k := (h.works.references k).trans (count_slots s.floor.jobs k)
  waiting := h.works.waiting
  jobs := {
    few := h.works.books.few
    distinct := h.works.books.distinct
    counts := fun j hj => (h.works.books.each j hj).counts
    targets := fun j hj => (h.works.books.each j hj).targets
    inFlight := fun j hj => (h.works.books.each j hj).inFlight.trans (s.floor.holders_length j.id).symm
    owned := fun c k disk => h.works.books.owned c k.tag (congrArg (Option.map Disk.tag) disk)
    held := fun c => by
      have held := (h.works.sound c).held
      rw [Floor.works_chans, Channel.gist, Option.isSome_map] at held
      rw [Channel.holdsDisk_eq]
      exact held
    posting := fun c => by
      have posting := (h.works.sound c).posting
      rw [Floor.works_chans, Channel.gist, Option.isSome_map] at posting
      exact posting
    record := fun c body record => by
      have names := (h.works.sound c).record body.names (congrArg (Option.map RecordBody.names) record)
      obtain ⟨k, hk, same⟩ := Option.map_eq_some_iff.mp names
      obtain ⟨d, disk, rfl⟩ := Option.map_eq_some_iff.mp hk
      rw [disk]
      exact congrArg some (Prod.mk.inj same).1 }
  serials := {
    numbers := fun j hj st serial => (s.floor.numberLaw_iff j st).mpr ((h.works.books.each j hj).numbers st serial)
    plain := fun j hj none c k disk id =>
      (h.works.books.each j hj).plain none _ ((s.floor.mem_carriedOf_works j.id _).mpr ⟨c, k, disk, id, rfl⟩)
    record := fun c body record => by
      have names := (h.works.sound c).record body.names (congrArg (Option.map RecordBody.names) record)
      obtain ⟨k, hk, same⟩ := Option.map_eq_some_iff.mp names
      obtain ⟨d, disk, rfl⟩ := Option.map_eq_some_iff.mp hk
      rw [disk]
      exact (Prod.mk.inj same).2.symm }

theorem State.Kept.storeLaw {s : State} (h : s.Kept) : s.StoreLaw where
  jobs := h.jobLaw
  own := h.own
  spans := h.spans
  transfers := h.transfers
  burst := h.burst
  plans := {
    once := h.works.engine.once
    seek := fun c => (h.works.sound c).seek
    queued := fun r hr => by
      obtain ⟨planning, data⟩ := h.works.engine.queued r hr
      exact ⟨planning.1, planning.2, fun slot offset hd => Channel.gist_slot _ ▸ data slot offset hd⟩
    built := fun w hw live => by
      obtain ⟨planning, data⟩ := h.works.engine.built w hw live
      exact ⟨planning.1, planning.2, fun slot offset hd => Channel.gist_slot _ ▸ data slot offset hd⟩ }
  fetches := {
    idle := fun c idle => (h.works.sound c).idle (idle.imp_left Option.map_eq_none_iff.mpr)
    fetch := fun c k disk => (h.works.sound c).fetch k.tag (congrArg (Option.map Disk.tag) disk)
    plan := fun c k p disk => (h.works.sound c).plan k.tag p (congrArg (Option.map Disk.tag) disk) }

end Sys2Proof.Machine

/-! SUPPORT. What a change of the floor or of the base leaves of the transfers and of the burst in progress (R33, R35,
R37), and the laws of the store after it. -/

namespace Sys2Proof.Machine

/-! Transfers (R33 to R35). -/

theorem Base.transferLaw_write {b : Base} {p : PortId} {t : Transfer} {left : List Byte} {written : Nat}
    (kind : t.kind = .write left written) : b.transferLaw p t ↔ ((b.image t.slot).openNumber = t.openNumber →
      (b.image t.slot).opening.map (·.loader) = some p →
        (b.image t.slot).state ≠ .clearing ∧ b.fits t.slot t.offset left.length) := by
  rw [transferLaw, kind]

theorem Base.transferLaw_read {b : Base} {p : PortId} {t : Transfer} {left : Nat} {got : List Byte}
    (kind : t.kind = .read left got) : b.transferLaw p t ↔ ((b.image t.slot).openNumber = t.openNumber →
      (b.image t.slot).state ≠ .free → (b.image t.slot).state ≠ .clearing → b.fits t.slot t.offset left) := by
  rw [transferLaw, kind]

/-- A transfer keeps its law while the slot's opening and state are for it as they were. -/
theorem Base.transferLaw.stands {b b' : Base} {p : PortId} {t : Transfer} (h : b.transferLaw p t)
    (opening : (b'.image t.slot).opening = (b.image t.slot).opening)
    (number : (b'.image t.slot).openNumber = (b.image t.slot).openNumber)
    (clearing : (b'.image t.slot).state = .clearing ↔ (b.image t.slot).state = .clearing)
    (free : (b'.image t.slot).state = .free ↔ (b.image t.slot).state = .free) : b'.transferLaw p t := by
  have bytes : b'.regionBytes t.slot = b.regionBytes t.slot := by
    rw [regionBytes_image, ImageSlot.bytes, opening]
    rfl
  cases kind : t.kind with
  | write left written =>
    rw [transferLaw_write kind, fits, bytes, opening, number, ne_eq, clearing]
    exact (transferLaw_write kind).mp h
  | read left got =>
    rw [transferLaw_read kind, fits, bytes, number, ne_eq, ne_eq, clearing, free]
    exact (transferLaw_read kind).mp h

/-- A transfer on a slot without a region obeys its law. -/
theorem Base.transferLaw_free {b : Base} (p : PortId) {t : Transfer} (opening : (b.image t.slot).opening = none)
    (free : (b.image t.slot).state = .free) : b.transferLaw p t := by
  cases kind : t.kind with
  | write left written =>
    rw [transferLaw_write kind, opening]
    exact fun _ loader => by cases loader
  | read left got =>
    rw [transferLaw_read kind]
    exact fun _ used => absurd free used

theorem Base.Quiet.transferLaw {b b' : Base} (quiet : b.Quiet b') {p : PortId} {t : Transfer} (h : b.transferLaw p t) :
    b'.transferLaw p t := by
  rcases (quiet.calm t.slot).stands with ⟨-, opening, free⟩ | ⟨opening, number, clearing, free, -⟩
  · exact Base.transferLaw_free p opening free
  · exact h.stands opening number clearing free

/-- An image that another port opens has nothing that the transfer may still move (R33, R35). -/
theorem Base.transferLaw.openImage {b : Base} {p : PortId} {t : Transfer} (h : b.transferLaw p t) (slot : SlotId)
    {o : Opening} (regions : List Region) (other : o.loader ≠ p) : (b.openImage slot o regions).transferLaw p t := by
  by_cases same : t.slot = slot
  · have image : (b.openImage slot o regions).image t.slot = (b.image slot).opened o := by
      rw [same, Base.openImage_image_same]
    cases kind : t.kind with
    | write left written =>
      rw [transferLaw_write kind, image]
      exact fun _ loader => absurd (Option.some.inj loader) other
    | read left got =>
      rw [transferLaw_read kind, image]
      exact fun _ _ going => absurd rfl going
  · have image : (b.openImage slot o regions).image t.slot = b.image t.slot := Base.openImage_image_other b o regions same
    exact h.stands (by rw [image]) (by rw [image]) (by rw [image]) (by rw [image])

/-- A region's clearing that ends lets no transfer go on that carries another opening's number (R43). -/
theorem Base.transferLaw.clearBurst {b : Base} {p : PortId} {t : Transfer} (h : b.transferLaw p t)
    (fresh : (b.image t.slot).state = .clearing → (b.image t.slot).openNumber ≠ t.openNumber) (slot : SlotId)
    (own : b.OwnLaw) (len : Nat) : (b.clearBurst slot len).transferLaw p t := by
  unfold Base.clearBurst
  simp only
  split
  · next done =>
    obtain ⟨w, hw, mine⟩ := List.any_eq_true.mp done
    have mine : w.slot = slot := by simp_all
    by_cases same : t.slot = slot
    · have clearing : (b.image t.slot).state = .clearing := by
        rw [same, ← mine]
        exact own.clearing w hw
      have number : ((b.modImage slot fun im => { im with state := .loading }).image t.slot).openNumber =
          (b.image t.slot).openNumber := by
        rw [same, Base.image_modImage_same]
      exact fun again => absurd (number.symm.trans again) (fresh clearing)
    · have image : (b.modImage slot fun im => { im with state := .loading }).image t.slot = b.image t.slot :=
        Base.image_modImage_other b slot t.slot _ same
      exact h.stands (congrArg ImageSlot.opening image) (congrArg ImageSlot.openNumber image)
        (iff_of_eq (congrArg (fun im : ImageSlot => im.state = .clearing) image))
        (iff_of_eq (congrArg (fun im : ImageSlot => im.state = .free) image))
  · exact h

/-! The burst in progress. -/

/-- The burst stands or has lost its client, and the transfers that may want it stand. -/
theorem State.BurstLaw.beside {s t : State} (h : s.BurstLaw) (blocks : t.base.store.blocks = s.base.store.blocks)
    (active : t.base.resetActive = s.base.resetActive) (beside : s.floor.Beside t.floor) : t.BurstLaw := by
  have cases (w : Burst) (burst : t.floor.burst = some w) : ∃ v, s.floor.burst = some v ∧ w.addr = v.addr ∧
      w.len = v.len ∧ (w.live = true → w = v) := by
    rcases beside.burst with same | ⟨v, before, after⟩
    · exact ⟨w, same ▸ burst, rfl, rfl, fun _ => rfl⟩
    · rw [burst] at after
      cases after
      exact ⟨v, before, rfl, rfl, fun live => by cases live⟩
  exact {
    inside := fun w burst => by
      obtain ⟨v, before, addr, len, -⟩ := cases w burst
      rw [blocks, addr, len]
      exact h.inside v before
    reset := fun resetting => by
      have none := h.reset (active ▸ resetting)
      rcases beside.burst with same | ⟨v, before, -⟩
      · rw [same, none]
      · rw [none] at before
        cases before
    write := fun w p bytes burst live work => by
      obtain ⟨v, before, -, -, same⟩ := cases w burst
      rw [beside.transfer]
      exact h.write w p bytes (same live ▸ before) live work
    read := fun w p burst live work => by
      obtain ⟨v, before, -, -, same⟩ := cases w burst
      rw [beside.transfer]
      exact h.read w p (same live ▸ before) live work }

/-- With no burst in progress there is nothing to keep. -/
theorem State.BurstLaw.idle {s : State} (idle : s.floor.burst = none) : s.BurstLaw where
  inside w h := by rw [idle] at h; cases h
  reset _ := idle
  write w p bytes h := by rw [idle] at h; cases h
  read w p h := by rw [idle] at h; cases h

/-- A port that is not transferring has no burst that it wants. -/
theorem State.BurstLaw.not_wanted {s : State} (h : s.BurstLaw) {p : PortId} (still : (s.floor.port p).transfer = none)
    {w : Burst} (burst : s.floor.burst = some w) (live : w.live = true) : w.work.isTransferOf p = false := by
  cases work : w.work with
  | write q bytes =>
    obtain ⟨t, left, written, transfer, -⟩ := h.write w q bytes burst live work
    refine decide_eq_false fun same => ?_
    rw [same, still] at transfer
    cases transfer
  | read q =>
    obtain ⟨t, left, got, transfer, -⟩ := h.read w q burst live work
    refine decide_eq_false fun same => ?_
    rw [same, still] at transfer
    cases transfer
  | _ => rfl

/-- The burst stands, and every port but one whose transfer no burst serves. -/
theorem State.BurstLaw.setPort {s t : State} (h : s.BurstLaw) (base : t.base.store.blocks = s.base.store.blocks)
    (active : t.base.resetActive = s.base.resetActive) {p : PortId} (burst : t.floor.burst = s.floor.burst)
    (unwanted : ∀ w, s.floor.burst = some w → w.live = true → w.work.isTransferOf p = false)
    (others : ∀ q, q ≠ p → (t.floor.port q).transfer = (s.floor.port q).transfer) : t.BurstLaw where
  inside w hw := by
    rw [base]
    exact h.inside w (burst ▸ hw)
  reset resetting := by
    rw [burst]
    exact h.reset (active ▸ resetting)
  write w q bytes hw live work := by
    have other : q ≠ p := fun same => by
      have mine := unwanted w (burst ▸ hw) live
      rw [work, same, BurstWork.isTransferOf, decide_eq_true rfl] at mine
      cases mine
    rw [others q other]
    exact h.write w q bytes (burst ▸ hw) live work
  read w q hw live work := by
    have other : q ≠ p := fun same => by
      have mine := unwanted w (burst ▸ hw) live
      rw [work, same, BurstWork.isTransferOf, decide_eq_true rfl] at mine
      cases mine
    rw [others q other]
    exact h.read w q (burst ▸ hw) live work

/-! The laws after a change. -/

namespace State.Kept

variable {s t : State}

/-- The floor changes beside the ports, with the laws of its works. -/
theorem floor (h : s.Kept) (base : t.base = s.base) (beside : s.floor.Beside t.floor) (works : t.floor.works.Law s.base) :
    t.Kept where
  own := base ▸ h.own
  spans := base ▸ h.spans
  works := base ▸ works
  transfers p x hx := by
    rw [base]
    exact h.transfers p x (beside.transfer p ▸ hx)
  burst := h.burst.beside (by rw [base]) (by rw [base]) beside

/-- Nothing of the floor's works, of the ports and of the base changes. -/
theorem same (h : s.Kept) (base : t.base = s.base) (beside : s.floor.Beside t.floor) (works : t.floor.works = s.floor.works) :
    t.Kept := h.floor base beside (works.symm ▸ h.works)

/-- The base changes by moves that leave the images that jobs and transfers hold to, and the floor beside. -/
theorem move (h : s.Kept) (moves : s.Moves t) (beside : s.floor.Beside t.floor) (works : t.floor.works.Law t.base)
    (transfers : ∀ p x, (s.floor.port p).transfer = some x → t.base.transferLaw p x) : t.Kept := by
  have laws : t.base.OwnLaw ∧ t.base.SpanLaw ∧ t.base.store.blocks = s.base.store.blocks := by
    have path := moves.base
    generalize t.base = b at path
    induction path with
    | refl => exact ⟨h.own, h.spans, rfl⟩
    | tail _ move ih => exact ⟨move.ownLaw ih.1, move.spanLaw ih.1 ih.2.1, move.blocks_eq.trans ih.2.2⟩
  exact {
    own := laws.1
    spans := laws.2.1
    works := works
    transfers := fun p x hx => transfers p x (beside.transfer p ▸ hx)
    burst := h.burst.beside laws.2.2 (Base.moves_resetActive moves.base) beside }

/-- The jobs' images stand through quiet moves. -/
theorem works_quiet (h : s.Kept) (quiet : s.base.Quiet t.base) : s.floor.works.Law t.base := by
  refine h.works.rebase (fun j hj => (quiet.calm j.slot).keepsSlot ?_) fun k => (quiet.calm k).references
  rw [h.works.references]
  exact (List.count_pos_iff.mpr (List.mem_map_of_mem hj)).ne'

theorem quiet (h : s.Kept) (moves : s.Moves t) (quiet : s.base.OwnLaw → s.base.Quiet t.base)
    (beside : s.floor.Beside t.floor) (works : t.floor.works = s.floor.works) : t.Kept :=
  h.move moves beside (works.symm ▸ h.works_quiet (quiet h.own)) fun p x hx => (quiet h.own).transferLaw (h.transfers p x hx)

end State.Kept

end Sys2Proof.Machine

/-! SUPPORT. Each station request keeps the laws of the store: first those that leave the base as it stands. -/

namespace Sys2Proof.Machine

@[simp] theorem State.works_reply (s : State) (p : PortId) (payload : List Byte) :
    (s.reply p payload).floor.works = s.floor.works := s.floor.works_answer p _

@[simp] theorem State.works_refuse (s : State) (p : PortId) (status : Status) :
    (s.refuse p status).floor.works = s.floor.works := s.floor.works_answer p _

section

variable {p : PortId} {payload : List Byte} {s : State}

/-! The requests that the works do not see. -/

theorem doSetEventMask_works : (doSetEventMask p payload s).floor.works = s.floor.works := by
  unfold doSetEventMask
  split <;> simp

theorem doReadFormat_works : (doReadFormat p payload s).floor.works = s.floor.works := by
  unfold doReadFormat
  split
  · simp
  · split <;> simp

theorem doPlanQuery_works : (doPlanQuery p payload s).floor.works = s.floor.works := by
  unfold doPlanQuery
  split
  · simp
  · split
    · simp
    · split
      · simp
      · split <;> simp

theorem doSetCursor_works : (doSetCursor p payload s).floor.works = s.floor.works := by
  unfold doSetCursor
  simp only
  split
  · simp
  · split
    · simp
    · split
      · simp
      · split <;> simp

theorem doReadImage_works : (doReadImage p payload s).floor.works = s.floor.works := by
  unfold doReadImage
  split
  · simp
  · split <;> simp

theorem doReadTrackEntry_works : (doReadTrackEntry p payload s).floor.works = s.floor.works := by
  unfold doReadTrackEntry
  simp only
  split
  · simp
  · split
    · simp
    · split
      · simp
      · split <;> simp

theorem doReadJob_works : (doReadJob p payload s).floor.works = s.floor.works := by
  unfold doReadJob
  simp only
  split
  · simp
  · split <;> simp

theorem doReadDrive_works : (doReadDrive p payload s).floor.works = s.floor.works := by
  unfold doReadDrive
  split <;> simp

/-! The requests that the works see. -/

/-- The works of a state keep their laws. -/
def State.Worked (s : State) : Prop := s.floor.works.Law s.base

namespace State.Worked

theorem floor {f : Floor} (h : f.works.Law s.base) : State.Worked { s with floor := f } := h

theorem reply (h : s.Worked) (p : PortId) (answer : List Byte) : (s.reply p answer).Worked := by
  rw [Worked, works_reply]
  exact h

theorem refuse (h : s.Worked) (p : PortId) (status : Status) : (s.refuse p status).Worked := by
  rw [Worked, works_refuse]
  exact h

theorem settle (h : s.Worked) : s.settle.Worked := Floor.law_settle h

theorem evaluateNow (h : s.Worked) : s.evaluateNow.Worked :=
  settle (s := { s with floor := { s.floor with evalDue := true } }) h

end State.Worked

theorem doSetLineHold_law (h : s.Worked) : (doSetLineHold p payload s).Worked := by
  unfold doSetLineHold
  split
  · exact h.refuse p _
  · next v _ =>
    have set : (s.floor.setPort p { s.floor.port p with lineHold := v }).works.Law s.base := by
      rw [Floor.works_setPort]
      exact h
    exact (State.Worked.floor set).settle.reply p _

theorem doReadResult_law (h : s.Worked) : (doReadResult p payload s).Worked := by
  unfold doReadResult
  simp only
  split
  · exact h.reply p _
  · next r _ =>
    have read (x : PortContext) : ((s.floor.setPort p x).answer p { status := .ok, payload := r.bytes }).works.Law s.base := by
      rw [Floor.works_answer, Floor.works_setPort]
      exact h
    split
    · exact Floor.law_settle (Floor.law_serveRing (read _))
    · exact read _

theorem doSetResultFollow_law (h : s.Worked) :
    (doSetResultFollow p payload s).Worked := by
  unfold doSetResultFollow
  split
  · exact h.refuse p _
  · have set (x : PortContext) (r : Reply) : ((s.floor.setPort p x).answer p r).works.Law s.base := by
      rw [Floor.works_answer, Floor.works_setPort]
      exact h
    exact Floor.law_settle (Floor.law_serveRing (set _ _))

/-! The job requests (R69 to R72). -/

theorem State.mem_of_namedJob {j : Job} (named : s.namedJob payload = .ok j) :
    j ∈ s.floor.jobs ∧ s.floor.job j.id = some j := by
  unfold State.namedJob at named
  split at named
  · cases named
  · split at named
    · cases named
    · next job =>
      cases named
      obtain ⟨mem, id⟩ := Floor.job_eq_some job
      exact ⟨mem, id ▸ job⟩

theorem doStartJob_law (h : s.Worked) : (doStartJob p payload s).Worked := by
  unfold doStartJob
  split
  · exact h.refuse p _
  · next j named =>
    split
    · exact h.refuse p _
    · split
      · exact h.refuse p _
      · have started := Floor.law_restateJob h (State.mem_of_namedJob named).1 .running j.endCause
        exact ((State.Worked.floor (f := { s.floor.putJob { j with state := .running } with evalDue := true })
          started).reply p []).settle

theorem doStopJob_law (h : s.Worked) : (doStopJob p payload s).Worked := by
  unfold doStopJob
  split
  · exact h.refuse p _
  · next j named =>
    have mem := (State.mem_of_namedJob named).1
    split
    · exact h.refuse p _
    · split
      · exact (State.Worked.floor (Floor.law_endJob h mem .done .stopped)).reply p _
      · exact (State.Worked.floor (Floor.law_restateJob h mem .draining j.endCause)).reply p _

theorem doCancelJob_law (h : s.Worked) : (doCancelJob p payload s).Worked := by
  unfold doCancelJob
  split
  · exact h.refuse p _
  · next j named =>
    have mem := (State.mem_of_namedJob named).1
    split
    · exact h.refuse p _
    · have cancelled := Floor.law_cancelNotices (Floor.law_endJob h mem .cancelled .cancelled) j.id
      exact ((State.Worked.floor cancelled).reply p _).settle

/-! The drive requests (R100, R107, R113, R114, R121). -/

theorem doSetDrive_law (h : s.Worked) : (doSetDrive p payload s).Worked := by
  unfold doSetDrive
  split
  · exact h.refuse p _
  · next c _ =>
    simp only
    split
    · exact h.refuse p _
    · split
      · exact h.refuse p _
      · have set : (s.floor.setChan c { s.floor.chan c with
            settings := (s.floor.chan c).settings.given payload }).works.Law s.base :=
          Floor.law_unseen h c (g := fun x => { x with settings := x.settings.given payload }) rfl
        have replied := (State.Worked.floor set).reply p ((s.floor.chan c).settings.given payload).bytes
        split
        · exact replied.evaluateNow
        · exact replied

theorem doEnableDrive_law (h : s.Worked) : (doEnableDrive p payload s).Worked := by
  unfold doEnableDrive
  split
  · exact h.refuse p _
  · next c _ =>
    split
    · exact h.refuse p _
    · next disabled =>
      have state : (s.floor.chan c).state = .disabled := not_not.mp disabled
      have enabled : (s.floor.enterBySeat c).works.Law s.base :=
        Floor.law_enterBySeat h (by rw [state]; rfl) (by rw [state]; decide)
      have replied := (State.Worked.floor enabled).reply p [((s.floor.enterBySeat c).chan c).state.code]
      simp only
      split
      · exact replied.settle
      · exact replied

theorem doDisableDrive_law (h : s.Worked) : (doDisableDrive p payload s).Worked := by
  unfold doDisableDrive
  split
  · exact h.refuse p _
  · next c _ =>
    split
    · exact h.refuse p _
    · next disablable =>
      exact (State.Worked.floor (Floor.law_disable h (by simpa using disablable))).reply p _

theorem doFreezeDrive_law (h : s.Worked) : (doFreezeDrive p payload s).Worked := by
  unfold doFreezeDrive
  split
  · exact h.refuse p _
  · next c _ =>
    exact (State.Worked.floor (Floor.law_unseen h c (g := fun x => { x with frozen := true }) rfl)).reply p _

theorem doResumeDrive_law (h : s.Worked) : (doResumeDrive p payload s).Worked := by
  unfold doResumeDrive
  split
  · exact h.refuse p _
  · next c _ =>
    have replied := (State.Worked.floor (Floor.law_resume h c)).reply p
      [((s.floor.setChan c (s.floor.chan c).resume).chan c).state.code]
    simp only
    split
    · exact replied.evaluateNow
    · exact replied

theorem doResetDrive_law (h : s.Worked) : (doResetDrive p payload s).Worked := by
  unfold doResetDrive
  split
  · exact h.refuse p _
  · next c _ =>
    split
    · exact h.refuse p _
    · exact ((State.Worked.floor (Floor.law_resetDrive h c)).reply p _).settle

end

end Sys2Proof.Machine

/-! SUPPORT. The requests that change the base keep the laws of the store: formats, images, the store's share, and the
coming and going of jobs. -/

namespace Sys2Proof.Machine

/-! Requests that leave the images that jobs and transfers hold to. -/

/-- The works stand, and the base changes quietly. -/
structure State.Calms (s t : State) : Prop where
  works : t.floor.works = s.floor.works
  quiet : s.base.OwnLaw → s.base.Quiet t.base

namespace State.Calms

variable {s t u : State}

theorem still (works : t.floor.works = s.floor.works) (base : t.base = s.base) : s.Calms t :=
  ⟨works, fun own => base.symm ▸ .refl own⟩

theorem base {b : Base} (quiet : s.base.OwnLaw → s.base.Quiet b) : s.Calms { s with base := b } := ⟨rfl, quiet⟩

theorem trans (h : s.Calms t) (g : t.Calms u) : s.Calms u :=
  ⟨g.works.trans h.works, fun own => (h.quiet own).trans (g.quiet (h.quiet own).own)⟩

theorem reply (h : s.Calms t) (p : PortId) (answer : List Byte) : s.Calms (t.reply p answer) :=
  h.trans (.still (t.works_reply p answer) rfl)

/-- A refusal changes nothing. -/
theorem refuse (s : State) (p : PortId) (status : Status) : s.Calms (s.refuse p status) :=
  .still (s.works_refuse p status) rfl

end State.Calms

theorem State.Kept.calms {s t : State} (h : s.Kept) (moves : s.Moves t) (beside : s.floor.Beside t.floor)
    (calms : s.Calms t) : t.Kept := h.quiet moves calms.quiet beside calms.works

/-- The idle unit's taking of checks (R55). -/
theorem State.runChecks_calms (n : Nat) (s : State) : s.Calms (s.runChecks n) := by
  induction n generalizing s with
  | zero => exact .still rfl rfl
  | succ n ih =>
    rw [runChecks]
    split
    · next slot rest idle list =>
      have taken (own : s.base.OwnLaw) : s.base.Quiet (s.base.takeCheck slot rest) :=
        (Base.Move.takeCheck s.base slot rest idle list).quiet_still own fun _ => rfl
      simp only
      split
      · refine State.Calms.trans ?_ (ih _)
        refine ⟨rfl, fun own => ?_⟩
        rw [finishCheck_base]
        have check : (s.base.takeCheck slot rest).check = some
          { slot := slot, crc := crc32Preset, spans := (s.base.image slot).spans, bytesRead := 0 } := rfl
        exact (taken own).trans ((taken own).own.quiet_endCheck crc32Preset check)
      · exact ⟨rfl, taken⟩
    · exact .still rfl rfl

theorem State.Calms.nextCheck {s t : State} (h : s.Calms t) : s.Calms t.nextCheck := h.trans (t.runChecks_calms _)

theorem State.checkBurst_calms (s : State) (bytes : List Byte) : s.Calms (s.checkBurst bytes) := by
  unfold checkBurst
  split
  · exact .still rfl rfl
  · next k check =>
    simp only
    split
    · refine .nextCheck ⟨rfl, fun own => ?_⟩
      rw [finishCheck_base]
      exact own.quiet_endCheck _ check
    · exact ⟨rfl, fun own => (Base.Move.goOnCheck s.base k _ _ _ check).quiet_still own fun _ => rfl⟩

section

variable (p : PortId) (payload : List Byte) (s : State)

theorem doDefineFormat_calms : s.Calms (doDefineFormat p payload s) := by
  unfold doDefineFormat
  split
  · exact .refuse s p _
  · next f d _ =>
    split
    · exact .refuse s p _
    · next stored accepted =>
      have unused : s.base.formatInUse f = false := by
        by_contra used
        rw [Base.acceptFormat_inUse d (by simpa using used)] at accepted
        cases accepted
      refine .reply (.base fun own => ?_) p _
      exact (Base.Move.format s.base f _ unused).quiet_still own fun _ => rfl

theorem doRemoveFormat_calms : s.Calms (doRemoveFormat p payload s) := by
  unfold doRemoveFormat
  split
  · exact .refuse s p _
  · next f _ =>
    split
    · exact .refuse s p _
    · split
      · exact .refuse s p _
      · next unused =>
        refine .reply (.base fun own => ?_) p _
        exact (Base.Move.format s.base f none (by simpa using unused)).quiet_still own fun _ => rfl

theorem doSetStore_calms : s.Calms (doSetStore p payload s) := by
  unfold doSetStore
  refine .reply (.base fun own => ?_) p _
  exact (Base.Move.share s.base _).quiet_still own fun _ => rfl

theorem doDefineTrack_calms : s.Calms (doDefineTrack p payload s) := by
  unfold doDefineTrack
  simp only
  split
  · next slot choice _ _ =>
    split
    · exact .refuse s p _
    · split
      · exact .refuse s p _
      · next check =>
        split
        · exact .refuse s p _
        · split
          · exact .refuse s p _
          · next skip =>
            split
            · exact .refuse s p _
            · next new =>
              refine .reply (.base fun own => ?_) p _
              exact own.quiet_defineTrack (ImageSlot.loaderCheck_eq_none check).1 (not_not.mp skip) new
  · exact .refuse s p _

theorem doFinishImage_calms : s.Calms (doFinishImage p payload s) := by
  unfold doFinishImage
  split
  · exact .refuse s p _
  · simp only
    split
    · exact .refuse s p _
    · next check =>
      refine .nextCheck (.reply (.base fun own => ?_) p _)
      exact own.quiet_finish _ (ImageSlot.loaderCheck_eq_none check).1

theorem doDeleteImage_calms : s.Calms (doDeleteImage p payload s) := by
  unfold doDeleteImage
  split
  · exact .refuse s p _
  · next slot _ =>
    simp only
    split
    · exact .refuse s p _
    · next used =>
      split
      · exact .refuse s p _
      · next unreferenced =>
        refine .nextCheck (.reply ⟨s.floor.works_orphanBurst _, fun own => ?_⟩ p _)
        rw [State.abandon_base]
        exact own.quiet_deleteImage used (by omega)

end

/-! OPEN IMAGE (R45). -/

/-- A FREE slot has nothing that an opening could take away. -/
theorem Base.SpanLaw.keepsSlot_openImage {b : Base} (h : b.SpanLaw) (own : b.OwnLaw) {slot : SlotId}
    (free : (b.image slot).state = .free) (o : Opening) (regions : List Region) (k : SlotId) :
    b.KeepsSlot (b.openImage slot o regions) k := by
  by_cases same : k = slot
  · refine ⟨?_, fun f offset len mem => ?_⟩
    · rw [same, Base.regionBytes, (own.open? slot).mpr free]
      simp
    · rw [same, h.none slot free] at mem
      cases mem
  · have image : (b.openImage slot o regions).image k = b.image k := Base.openImage_image_other b o regions same
    refine ⟨?_, fun f offset len mem => image ▸ mem⟩
    rw [Base.regionBytes_image, Base.regionBytes_image, image]

theorem Base.openImage_refCount (b : Base) (slot : SlotId) (o : Opening) (regions : List Region) (k : SlotId) :
    ((b.openImage slot o regions).image k).refCount = (b.image k).refCount := by
  by_cases same : k = slot
  · rw [same, Base.openImage_image_same]
    rfl
  · rw [Base.openImage_image_other b o regions same]

theorem doOpenImage_kept {p : PortId} {payload : List Byte} {s : State} (h : s.Kept) (ready : s.ready p) :
    (doOpenImage p payload s).Kept := by
  have moves := doOpenImage_moves p payload s ready.1
  have beside := doOpenImage_beside p payload s
  have refused (status : Status) : (s.refuse p status).Kept :=
    h.same rfl (Floor.Beside.refuse (.refl _)) (s.works_refuse p status)
  unfold doOpenImage at moves beside ⊢
  simp only at moves beside ⊢
  split
  · exact refused _
  · next slot named =>
    rw [named] at moves beside
    simp only at moves beside
    split
    · exact refused _
    · next inRange =>
      rw [if_neg inRange] at moves beside
      split
      · exact refused _
      · next free =>
        rw [if_neg free] at moves beside
        split
        · exact refused _
        · next base regions room =>
          rw [room] at moves beside
          simp only at moves beside
          have free : (s.base.image slot).state = .free := not_not.mp free
          refine h.move moves beside ?_ fun q t transfer => ?_
          · rw [State.works_reply]
            exact h.works.rebase (fun j _ => h.spans.keepsSlot_openImage h.own free _ regions j.slot)
              fun k => s.base.openImage_refCount slot _ regions k
          · refine (h.transfers q t transfer).openImage slot regions fun same => ?_
            have same : p = q := same
            rw [← same, ready.2] at transfer
            cases transfer

/-! Jobs come and go (R67, R73). -/

/-- A slot's reference count changes, and nothing else of it. -/
theorem Base.image_refCount (b : Base) (slot k : SlotId) (n : Nat) :
    ∃ m, (b.setImage slot { b.image slot with refCount := n }).image k = { b.image k with refCount := m } := by
  by_cases same : k = slot
  · exact ⟨n, by rw [same, Base.image_setImage_same]⟩
  · exact ⟨(b.image k).refCount, by rw [Base.image_setImage_other b slot k _ same]⟩

theorem Base.keepsSlot_refCount (b : Base) (slot k : SlotId) (n : Nat) :
    b.KeepsSlot (b.setImage slot { b.image slot with refCount := n }) k := by
  obtain ⟨m, image⟩ := b.image_refCount slot k n
  refine ⟨?_, fun f offset len mem => ?_⟩
  · rw [Base.regionBytes_image, Base.regionBytes_image, image]
    rfl
  · rw [image]
    exact mem

theorem Base.transferLaw.refCount {b : Base} {p : PortId} {t : Transfer} (h : b.transferLaw p t) (slot : SlotId) (n : Nat) :
    (b.setImage slot { b.image slot with refCount := n }).transferLaw p t := by
  obtain ⟨m, image⟩ := b.image_refCount slot t.slot n
  exact h.stands (by rw [image]) (by rw [image]) (by rw [image]) (by rw [image])

/-- What a new job's record holds (R65 to R67, R86). -/
theorem readJobDefinition_books {p : PortId} {payload : List Byte} {j : Job} (read : readJobDefinition p payload = some j)
    (starts : ∀ st, j.serial = some st → st.spec.start ≤ st.spec.encoding.maximum) : JobBooks [] j := by
  obtain ⟨-, -, -, -, -, -, -, -, -, -, -, -, serial, -, -, -, issued, passed, failed, aborted, inFlight⟩ :=
    (readJobDefinition_fields p payload j).mp read
  exact {
    counts := by rw [Job.countLaw, issued, passed, failed, aborted, inFlight]
    targets := fun _ => by
      rw [passed, inFlight]
      exact Nat.zero_le _
    inFlight := inFlight
    plain := fun _ s hs => by cases hs
    numbers := fun st hst => by
      obtain ⟨spec, next, reclaim⟩ := serial st hst
      obtain ⟨-, -, -, -, -, -, -, -, -, step, low, -⟩ := (readSerialSpec_eq_some_iff payload st.spec).mp spec
      have top : num payload 19 1 < 256 := num_one_lt payload 19
      exact {
        step := ⟨low, by omega⟩
        ascending := by rw [reclaim]; exact List.Pairwise.nil
        few := by rw [reclaim, inFlight]; exact Nat.zero_le 8
        next := by rw [next, reclaim, passed, inFlight]; rfl
        bound := by rw [next]; exact (starts st hst).trans (Nat.le_add_right _ _)
        carried := fun s hs => by cases hs
        once := by rw [reclaim]; exact List.nodup_nil
        issued := fun v hv => by rw [reclaim] at hv; cases hv } }

/-- A job accepted is new, finds room, and starts its numbers within its maximum (R64, R66, R87). -/
theorem State.jobCheck_eq_none {s : State} {j : Job} (h : s.jobCheck j = none) :
    s.floor.jobs.length < 8 ∧ s.floor.job j.id = none ∧
      ∀ st, j.serial = some st → st.spec.start ≤ st.spec.encoding.maximum := by
  unfold State.jobCheck at h
  split at h
  · cases h
  · next room =>
    split at h
    · cases h
    · next new =>
      split at h
      · cases h
      · refine ⟨not_le.mp room, by simpa using new, fun st serial => ?_⟩
        rw [serial] at h
        simp only [Base.serialCheck] at h
        split at h
        · split at h
          · cases h
          · split at h
            · cases h
            · split at h
              · cases h
              · split at h
                · cases h
                · next start => exact not_lt.mp start
        all_goals cases h

theorem doDefineJob_kept {p : PortId} {payload : List Byte} {s : State} (h : s.Kept) : (doDefineJob p payload s).Kept := by
  have moves := doDefineJob_moves p payload s
  have beside := doDefineJob_beside p payload s
  have refused (status : Status) : (s.refuse p status).Kept :=
    h.same rfl (Floor.Beside.refuse (.refl _)) (s.works_refuse p status)
  unfold doDefineJob at moves beside ⊢
  split
  · exact refused _
  · next j read =>
    split
    · exact refused _
    · next check =>
      rw [read] at moves beside
      simp only [check] at moves beside
      obtain ⟨room, new, starts⟩ := State.jobCheck_eq_none check
      have base : ((s.addJob j).reply p [byte j.id, byte (s.floor.jobs.length + 1)]).base =
        s.base.setImage j.slot { s.base.image j.slot with refCount := (s.base.image j.slot).refCount + 1 } := rfl
      have keeps (i : Job) (_ : i ∈ s.floor.jobs) := s.base.keepsSlot_refCount j.slot i.slot
        ((s.base.image j.slot).refCount + 1)
      refine h.move moves beside ?_ fun q t transfer => ?_
      · rw [State.works_reply]
        exact {
          sound := h.works.rebase_sound keeps
          books := h.works.books.add room ((s.floor.job_eq_none_iff j.id).mp new) (readJobDefinition_books read starts)
          waiting := h.works.waiting
          engine := h.works.rebase_engine keeps
          references := fun k => by
            have before : (s.base.image k).refCount = (s.floor.jobs.map (·.slot)).count k := h.works.references k
            have after : (((s.addJob j).floor.works.jobs).map (·.slot)) = s.floor.jobs.map (·.slot) ++ [j.slot] :=
              List.map_append
            rw [base, after, List.count_append, List.count_singleton]
            by_cases same : k = j.slot
            · rw [same, Base.image_setImage_same, ← same, before]
              simp
            · rw [Base.image_setImage_other s.base j.slot k _ same, before]
              simp [Ne.symm same] }
      · rw [base]
        exact (h.transfers q t transfer).refCount _ _

/-- A job removed is the only one of its id. -/
theorem Books.perm_drop {jobs : List Job} {tags : Chan → Option DiskTag} (h : Books jobs tags) {j : Job} (mem : j ∈ jobs) :
    jobs.Perm (j :: jobs.filter fun i => i.id != j.id) := by
  have nodup : jobs.Nodup := h.distinct.of_map
  have filter : jobs.erase j = jobs.filter fun i => i.id != j.id := by
    rw [nodup.erase_eq_filter]
    refine List.filter_congr fun i hi => ?_
    by_cases same : i = j
    · simp [same]
    · have apart : i.id ≠ j.id := fun id => same (h.eq_of_id hi mem id)
      rw [bne_iff_ne.mpr same, bne_iff_ne.mpr apart]
  exact filter ▸ List.perm_cons_erase mem

theorem doRemoveJob_kept {p : PortId} {payload : List Byte} {s : State} (h : s.Kept) : (doRemoveJob p payload s).Kept := by
  have moves := doRemoveJob_moves p payload s
  have beside := doRemoveJob_beside p payload s
  have refused (status : Status) : (s.refuse p status).Kept :=
    h.same rfl (Floor.Beside.refuse (.refl _)) (s.works_refuse p status)
  unfold doRemoveJob at moves beside ⊢
  split
  · exact refused _
  · next j named =>
    split
    · exact refused _
    · next ended =>
      split
      · exact refused _
      · next idle =>
        rw [named] at moves beside
        simp only [if_neg ended, if_neg idle] at moves beside
        have mem := (State.mem_of_namedJob named).1
        have keeps (i : Job) (_ : i ∈ s.floor.jobs) := s.base.keepsSlot_refCount j.slot i.slot
          ((s.base.image j.slot).refCount - 1)
        refine h.move moves beside ?_ fun q t transfer => (h.transfers q t transfer).refCount j.slot _
        rw [State.works_reply]
        exact {
          sound := h.works.rebase_sound keeps
          books := h.works.books.drop mem (by omega)
          waiting := h.works.waiting
          engine := h.works.rebase_engine keeps
          references := fun k => by
            have before : (s.base.image k).refCount = (s.floor.jobs.map (·.slot)).count k := h.works.references k
            have split := ((h.works.books.perm_drop mem).map (·.slot)).count_eq k
            rw [List.map_cons, List.count_cons] at split
            have after : ((s.base.setImage j.slot (s.base.image j.slot).release).image k).refCount =
                ((s.floor.dropJob j.id).jobs.map (·.slot)).count k := by
              by_cases same : k = j.slot
              · have own : (j.slot == k) = true := by simp [same]
                rw [if_pos own] at split
                rw [same, Base.image_setImage_same, ← same]
                exact (congrArg (· - 1) (before.trans split)).trans (Nat.add_sub_cancel _ 1)
              · have other : ¬(j.slot == k) = true := by simp [Ne.symm same]
                rw [if_neg other] at split
                rw [Base.image_setImage_other s.base j.slot k _ same, before]
                exact split
            exact after }

end Sys2Proof.Machine

/-! SUPPORT. Transfers begin within their spans (R51 to R53), a port's reset drops its transfer (R186), and the frames
held are taken: every request keeps the laws of the store. -/

namespace Sys2Proof.Machine

theorem Floor.port_setPort_of_ne (f : Floor) {p q : PortId} (x : PortContext) (other : q ≠ p) :
    (f.setPort p x).port q = f.port q := by
  cases p <;> cases q
  exacts [absurd rfl other, rfl, rfl, absurd rfl other]

/-! Data transfers (R33, R35, R51). -/

/-- The cursor's track is a DATA entry of a slot that is not FREE, and the slot's opening the cursor's (R50). -/
theorem State.span_of_atCursor {s : State} {p : PortId} {cur : DataCursor} {start len : Nat}
    (at? : s.atCursor p = .ok (cur, start, len)) :
    ∃ f, TrackEntry.data f start len ∈ (s.base.image cur.slot).trackMap := by
  unfold State.atCursor at at?
  split at at?
  · cases at?
  · simp only at at?
    split at at?
    · cases at?
    · split at at?
      · next entry =>
        cases at?
        obtain ⟨e, he, span⟩ := Option.bind_eq_some_iff.mp entry
        have mem := ImageSlot.mem_of_entry he
        unfold TrackEntry.span? at span
        split at span
        · cases span
          exact ⟨_, mem⟩
        all_goals cases span
      · cases at?

/-- The bytes of a span from a cursor's offset on lie in the region. -/
theorem Base.SpanLaw.fits_inSpan {b : Base} (h : b.SpanLaw) {slot : SlotId} {f : FormatId} {start len x : Nat}
    (mem : TrackEntry.data f start len ∈ (b.image slot).trackMap) (below : x < len) {m : Nat} (most : m ≤ len - x) :
    b.fits slot (start + x) m := by
  have span := (h.span slot f start len mem).1.trans (h.mark slot)
  rw [Base.fits]
  omega

namespace State.Kept

variable {s : State} {p : PortId}

/-- A transfer that obeys its law begins at a port that has none. -/
theorem startTransfer (h : s.Kept) (still : (s.floor.port p).transfer = none) {t : Transfer}
    (law : s.base.transferLaw p t) : (s.startTransfer p t).Kept := by
  have others (q : PortId) (other : q ≠ p) :
      ((s.startTransfer p t).floor.port q).transfer = (s.floor.port q).transfer := by
    rw [show (s.startTransfer p t).floor = s.floor.setPort p _ from rfl, Floor.port_setPort_of_ne _ _ other]
  exact {
    own := h.own
    spans := h.spans
    works := by
      rw [show (s.startTransfer p t).floor = s.floor.setPort p _ from rfl, Floor.works_setPort]
      exact h.works
    transfers := fun q x hx => by
      by_cases same : q = p
      · subst same
        rw [show (s.startTransfer q t).floor = s.floor.setPort q _ from rfl, Floor.port_setPort_same] at hx
        cases hx
        exact law
      · exact h.transfers q x (others q same ▸ hx)
    burst := h.burst.setPort rfl rfl (s.floor.setPort_burst p _)
      (fun w burst live => h.burst.not_wanted still burst live) others }

theorem refuse (h : s.Kept) (p : PortId) (status : Status) : (s.refuse p status).Kept :=
  h.same rfl (Floor.Beside.refuse (.refl _)) (s.works_refuse p status)

theorem reply (h : s.Kept) (p : PortId) (answer : List Byte) : (s.reply p answer).Kept :=
  h.same rfl (Floor.Beside.reply (.refl _)) (s.works_reply p answer)

end State.Kept

theorem doReadData_kept {p : PortId} {payload : List Byte} {s : State} (h : s.Kept)
    (still : (s.floor.port p).transfer = none) : (doReadData p payload s).Kept := by
  unfold doReadData
  simp only
  split
  · exact h.refuse p _
  · next cur start len at? =>
    split
    · exact h.refuse p _
    · split
      · exact h.reply p _
      · next below =>
        obtain ⟨f, mem⟩ := State.span_of_atCursor at?
        exact h.startTransfer still ((Base.transferLaw_read rfl).mpr fun _ _ _ =>
          h.spans.fits_inSpan mem (not_le.mp below) (Nat.min_le_right _ _))

theorem doWriteData_kept {p : PortId} {payload : List Byte} {s : State} (h : s.Kept)
    (still : (s.floor.port p).transfer = none) : (doWriteData p payload s).Kept := by
  unfold doWriteData
  split
  · exact h.refuse p _
  · next cur start len at? =>
    simp only
    split
    · exact h.refuse p _
    · split
      · exact h.refuse p _
      · next loading =>
        have counted : (s.countWrite p cur payload.length (inSpan len cur.offset payload.length)).Kept := by
          refine h.calms (.one rfl rfl (.overflow s.base cur.slot _)) ((Floor.Beside.refl _).setPort p rfl rfl)
            ⟨s.floor.works_setPort p _, fun own => own.quiet_overflow cur.slot _⟩
        split
        · exact counted.reply p _
        · next some =>
          obtain ⟨f, mem⟩ := State.span_of_atCursor at?
          have image : ∃ n, (s.countWrite p cur payload.length (inSpan len cur.offset payload.length)).base.image cur.slot =
              { s.base.image cur.slot with overflow := n } := ⟨_, Base.image_modImage_same _ _ _⟩
          obtain ⟨n, image⟩ := image
          refine counted.startTransfer ?_ ((Base.transferLaw_write rfl).mpr fun _ _ => ⟨?_, ?_⟩)
          · rw [show (s.countWrite p cur payload.length (inSpan len cur.offset payload.length)).floor =
              s.floor.setPort p _ from rfl, Floor.port_setPort_same]
            exact still
          · rw [image]
            exact fun clearing => absurd ((not_not.mp loading).symm.trans clearing) (by decide)
          · have short : (payload.take (inSpan len cur.offset payload.length)).length ≤ len - cur.offset := by
              rw [List.length_take, inSpan]
              omega
            refine counted.spans.fits_inSpan (f := f) (len := len) ?_ ?_ short
            · rw [image]
              exact mem
            · rw [inSpan] at some
              omega

/-! PORT RESET (R186). -/

theorem doPortReset_kept {p : PortId} {payload : List Byte} {s : State} (h : s.Kept) :
    (doPortReset p payload s).Kept := by
  let f := s.floor.orphanBurst (BurstWork.isTransferOf p)
  let x := (f.port p).clear f.ring.writePos
  have orphaned : State.Kept { s with floor := f } :=
    h.same rfl (Floor.Beside.orphanBurst (.refl _)) (s.floor.works_orphanBurst _)
  have cleared : State.Kept { s with floor := f.setPort p x } := {
    own := h.own
    spans := h.spans
    works := by
      rw [Floor.works_setPort]
      exact orphaned.works
    transfers := fun q t hq => by
      by_cases same : q = p
      · subst same
        rw [Floor.port_setPort_same] at hq
        cases hq
      · rw [Floor.port_setPort_of_ne _ _ same] at hq
        exact orphaned.transfers q t hq
    burst := orphaned.burst.setPort rfl rfl (f.setPort_burst p x) (p := p) (fun w burst live => by
        have dead : f.burst = s.floor.burst.map fun b => if BurstWork.isTransferOf p b.work then { b with live := false } else b :=
          congrArg Floor.burst (Floor.orphanBurst_eq s.floor _)
        rw [dead] at burst
        obtain ⟨v, -, same⟩ := Option.map_eq_some_iff.mp burst
        split at same
        · subst same
          cases live
        · next other =>
          subst same
          exact Bool.eq_false_iff.mpr other)
      fun q other => by rw [Floor.port_setPort_of_ne _ _ other] }
  have served : State.Kept { s with floor := (f.setPort p x).serveRing } :=
    cleared.floor rfl (Floor.Beside.serveRing (.refl _)) (Floor.law_serveRing cleared.works)
  exact (served.reply p []).floor rfl (Floor.Beside.settled (.refl _)) (Floor.law_settle (served.reply p []).works)

/-! Every request and every frame taken (R176, R178). -/

/-- The requests that may change the base. -/
def Request.onBase : List Request :=
  [.defineFormat, .removeFormat, .openImage, .defineTrack, .writeData, .finishImage, .deleteImage, .setStore,
    .defineJob, .removeJob]

/-- The other requests leave the base. -/
theorem perform_base {r : Request} (other : r ∉ Request.onBase) (p : PortId) (payload : List Byte) (s : State) :
    (perform r p payload s).base = s.base := by
  cases r with
  | defineFormat | removeFormat | openImage | defineTrack | writeData | finishImage | deleteImage | setStore
  | defineJob | removeJob => exact absurd (by decide) other
  | readDevice | portReset | readEvents | readLine | readStoreMap | readRing => rfl
  | setEventMask | setLineHold | readJob | stopJob | setResultFollow | readFormat | planQuery | setCursor | readData
  | readImage | readTrackEntry | startJob | cancelJob | setDrive | enableDrive | disableDrive | freezeDrive
  | resumeDrive | resetDrive | readDrive | readResult =>
    simp only [perform, doSetEventMask, doSetLineHold, doReadJob, doStopJob, doSetResultFollow, doReadFormat,
      doPlanQuery, doSetCursor, doReadData, doReadImage, doReadTrackEntry, doStartJob, doCancelJob, doSetDrive,
      doEnableDrive, doDisableDrive, doFreezeDrive, doResumeDrive, doResetDrive, doReadDrive, doReadResult]
    repeat' split
    all_goals rfl

/-- The base stands, the floor is beside, and its works keep their laws. -/
theorem State.Kept.worked {s t : State} (h : s.Kept) (base : t.base = s.base) (beside : s.floor.Beside t.floor)
    (worked : t.Worked) : t.Kept := h.floor base beside (base ▸ worked)

theorem perform_kept (r : Request) {p : PortId} (payload : List Byte) {s : State} (h : s.Kept)
    (running : s.base.resetActive = false) (still : r = .portReset ∨ (s.floor.port p).transfer = none) :
    (perform r p payload s).Kept := by
  have moves := perform_moves r p payload s running
  cases r with
  | portReset => exact doPortReset_kept (payload := payload) h
  | readData => exact doReadData_kept h (still.resolve_left (by decide))
  | writeData => exact doWriteData_kept h (still.resolve_left (by decide))
  | openImage => exact doOpenImage_kept h ⟨running, still.resolve_left (by decide)⟩
  | defineJob => exact doDefineJob_kept h
  | removeJob => exact doRemoveJob_kept h
  | defineFormat => exact h.calms moves (doDefineFormat_beside p payload s) (doDefineFormat_calms p payload s)
  | removeFormat => exact h.calms moves (doRemoveFormat_beside p payload s) (doRemoveFormat_calms p payload s)
  | defineTrack => exact h.calms moves (doDefineTrack_beside p payload s) (doDefineTrack_calms p payload s)
  | finishImage => exact h.calms moves (doFinishImage_beside p payload s) (doFinishImage_calms p payload s)
  | deleteImage => exact h.calms moves (doDeleteImage_beside p payload s) (doDeleteImage_calms p payload s)
  | setStore => exact h.calms moves (Floor.Beside.reply (.refl _)) (doSetStore_calms p payload s)
  | readDevice | readLine | readStoreMap | readRing => exact h.reply p _
  | readEvents =>
    exact h.same rfl (Floor.Beside.reply ((Floor.Beside.refl _).setPort p rfl rfl))
      ((State.works_reply _ p _).trans (s.floor.works_setPort p _))
  | setEventMask =>
    exact h.same (perform_base (by decide) p payload s) (doSetEventMask_beside p payload s) doSetEventMask_works
  | readFormat =>
    exact h.same (perform_base (by decide) p payload s) (doReadFormat_beside p payload s) doReadFormat_works
  | planQuery => exact h.same (perform_base (by decide) p payload s) (doPlanQuery_beside p payload s) doPlanQuery_works
  | setCursor => exact h.same (perform_base (by decide) p payload s) (doSetCursor_beside p payload s) doSetCursor_works
  | readImage => exact h.same (perform_base (by decide) p payload s) (doReadImage_beside p payload s) doReadImage_works
  | readTrackEntry =>
    exact h.same (perform_base (by decide) p payload s) (doReadTrackEntry_beside p payload s) doReadTrackEntry_works
  | readJob => exact h.same (perform_base (by decide) p payload s) (doReadJob_beside p payload s) doReadJob_works
  | readDrive => exact h.same (perform_base (by decide) p payload s) (doReadDrive_beside p payload s) doReadDrive_works
  | setLineHold =>
    exact h.worked (perform_base (by decide) p payload s) (doSetLineHold_beside p payload s) (doSetLineHold_law h.works)
  | startJob =>
    exact h.worked (perform_base (by decide) p payload s) (doStartJob_beside p payload s) (doStartJob_law h.works)
  | stopJob => exact h.worked (perform_base (by decide) p payload s) (doStopJob_beside p payload s) (doStopJob_law h.works)
  | cancelJob =>
    exact h.worked (perform_base (by decide) p payload s) (doCancelJob_beside p payload s) (doCancelJob_law h.works)
  | setDrive =>
    exact h.worked (perform_base (by decide) p payload s) (doSetDrive_beside p payload s) (doSetDrive_law h.works)
  | enableDrive =>
    exact h.worked (perform_base (by decide) p payload s) (doEnableDrive_beside p payload s) (doEnableDrive_law h.works)
  | disableDrive =>
    exact h.worked (perform_base (by decide) p payload s) (doDisableDrive_beside p payload s) (doDisableDrive_law h.works)
  | freezeDrive =>
    exact h.worked (perform_base (by decide) p payload s) (doFreezeDrive_beside p payload s) (doFreezeDrive_law h.works)
  | resumeDrive =>
    exact h.worked (perform_base (by decide) p payload s) (doResumeDrive_beside p payload s) (doResumeDrive_law h.works)
  | resetDrive =>
    exact h.worked (perform_base (by decide) p payload s) (doResetDrive_beside p payload s) (doResetDrive_law h.works)
  | readResult =>
    exact h.worked (perform_base (by decide) p payload s) (doReadResult_beside p payload s)
      (doReadResult_law (payload := payload) h.works)
  | setResultFollow =>
    exact h.worked (perform_base (by decide) p payload s) (doSetResultFollow_beside p payload s)
      (doSetResultFollow_law h.works)

namespace State.Kept

variable {s : State} {p : PortId}

theorem take (h : s.Kept) (running : s.base.resetActive = false) (still : (s.floor.port p).transfer = none)
    (frame : HeldFrame) : (s.take p frame).Kept := by
  cases frame with
  | request r payload => exact perform_kept r payload h running (.inr still)
  | error status => exact h.refuse p status

/-- A port's context changes, its transfer aside. -/
theorem setPort (h : s.Kept) (p : PortId) {x : PortContext} (transfer : x.transfer = (s.floor.port p).transfer) :
    State.Kept { s with floor := s.floor.setPort p x } := by
  have transfers (q : PortId) : ((s.floor.setPort p x).port q).transfer = (s.floor.port q).transfer := by
    by_cases same : q = p
    · rw [same, Floor.port_setPort_same, transfer]
    · rw [Floor.port_setPort_of_ne _ _ same]
  exact {
    own := h.own
    spans := h.spans
    works := by
      rw [Floor.works_setPort]
      exact h.works
    transfers := fun q t hq => h.transfers q t (transfers q ▸ hq)
    burst := {
      inside := fun w hw => h.burst.inside w (s.floor.setPort_burst p x ▸ hw)
      reset := fun active => (s.floor.setPort_burst p x).trans (h.burst.reset active)
      write := fun w q bytes hw live work => by
        rw [transfers]
        exact h.burst.write w q bytes (s.floor.setPort_burst p x ▸ hw) live work
      read := fun w q hw live work => by
        rw [transfers]
        exact h.burst.read w q (s.floor.setPort_burst p x ▸ hw) live work } }

theorem receive (h : s.Kept) (running : s.base.resetActive = false) (p : PortId) (frame : HeldFrame) :
    (s.receive p frame).Kept := by
  unfold State.receive
  split
  · exact perform_kept .portReset _ h running (.inl rfl)
  · split
    · refine h.setPort p ?_
      unfold PortContext.enqueue
      split <;> rfl
    · next still => exact h.take running (by simpa [State.transferring] using still) frame

theorem station (h : s.Kept) (r : Request) (p : PortId) (payload : List Byte) : (s.station r p payload).Kept := by
  unfold State.station
  split
  · exact h
  · next running => exact h.receive (by simpa using running) p _

/-- Frames held are taken one by one (R178). -/
theorem drain (h : s.Kept) (running : s.base.resetActive = false) (p : PortId) (n : Nat) : (State.drain p n s).Kept := by
  refine (State.drain_induction (P := fun u => u.Kept ∧ u.base.resetActive = false) p (fun u frame rest hu _ still => ?_)
    n s ⟨h, running⟩).1
  obtain ⟨kept, active⟩ := hu
  have none : (u.floor.port p).transfer = none := by simpa [State.transferring] using still
  have taken : State.Kept { u with floor := u.floor.setPort p { u.floor.port p with hold := rest } } := kept.setPort p rfl
  have moves := State.take_moves { u with floor := u.floor.setPort p { u.floor.port p with hold := rest } } p frame active
  refine ⟨taken.take active ?_ frame, (Base.moves_resetActive moves.base).trans active⟩
  rw [Floor.port_setPort_same]
  exact none

theorem drainHolds (h : s.Kept) (running : s.base.resetActive = false) (u : State) : (u.drainHolds s).Kept := by
  have ended {v : State} (kept : v.Kept) (active : v.base.resetActive = false) (p : PortId) :
      (u.drainEnded v p).Kept ∧ (u.drainEnded v p).base.resetActive = false := by
    unfold State.drainEnded
    split
    · have moves : v.Moves (State.drain p holdSize v) := State.Moves.drain (.still rfl rfl rfl) p _ active
      exact ⟨kept.drain active p _, (Base.moves_resetActive moves.base).trans active⟩
    · exact ⟨kept, active⟩
  obtain ⟨first, active⟩ := ended h running .a
  exact (ended first active .b).1

end State.Kept

end Sys2Proof.Machine

/-! SUPPORT. Every burst that is granted lies in the store, and a burst that completes leaves its client's work within
its region (R28, R33, R35, R37, R55, R127). -/

namespace Sys2Proof.Machine

/-! The bytes of a region lie in the store (R28). -/

/-- So much of a span within a slot's region lies in the store. -/
theorem Base.OwnLaw.inStore {b : Base} (own : b.OwnLaw) {slot : SlotId} {offset len n : Nat}
    (within : b.fits slot offset len) (most : n ≤ len) :
    b.regionStart slot + offset + n ≤ b.store.blocks * blockBytes := by
  rw [Base.fits] at within
  cases opening : (b.image slot).opening with
  | none =>
    have start : b.regionStart slot = 0 := by simp [Base.regionStart, opening]
    have bytes : b.regionBytes slot = 0 := by simp [Base.regionBytes, opening]
    omega
  | some o =>
    have owned : o.region slot ∈ b.store.regions.filter fun r => decide (r.owner = some slot) := by
      rw [own.owns slot, opening]
      exact List.mem_singleton.mpr rfl
    have inStore : o.base + o.length ≤ b.store.blocks :=
      tiles_le ((Store.regionLaw_iff _).mp own.regions).2.1 (List.mem_of_mem_filter owned)
    have start : b.regionStart slot = o.base * blockBytes := by simp [Base.regionStart, opening]
    have bytes : b.regionBytes slot = o.length * blockBytes := by simp [Base.regionBytes, opening]
    have scaled : (o.base + o.length) * blockBytes ≤ b.store.blocks * blockBytes := Nat.mul_le_mul_right _ inStore
    rw [Nat.add_mul] at scaled
    omega

theorem burstLen_le (addr remaining : Nat) : burstLen addr remaining ≤ remaining := Nat.min_le_left _ _

/-- A clearing burst changes no more of a slot than its state (R31, R46). -/
theorem Base.clearBurst_image (b : Base) (slot : SlotId) (len : Nat) (k : SlotId) :
    ∃ state, (b.clearBurst slot len).image k = { b.image k with state := state } := by
  unfold Base.clearBurst
  simp only
  split
  · by_cases same : k = slot
    · exact ⟨.loading, by rw [same]; exact Base.image_modImage_same b slot fun im => { im with state := .loading }⟩
    · exact ⟨_, Base.image_modImage_other b slot k (fun im => { im with state := .loading }) same⟩
  · exact ⟨_, rfl⟩

/-- The check's burst is beside the ports (R55). -/
theorem State.checkBurst_beside (s : State) (bytes : List Byte) : s.floor.Beside (s.checkBurst bytes).floor := by
  unfold State.checkBurst
  split
  · exact .refl _
  · simp only
    split
    · exact (Floor.Beside.finishCheck (.refl _)).nextCheck
    · exact .refl _

/-! Grants (R38). -/

namespace State.Kept

variable {s : State}

/-- A burst begins that lies in the store and has its port's bytes to move. -/
theorem begin (h : s.Kept) (running : s.base.resetActive = false) {work : BurstWork} {addr len : Nat}
    (inside : addr + len ≤ s.base.store.blocks * blockBytes)
    (write : ∀ p bytes, work = .write p bytes → ∃ t left written, (s.floor.port p).transfer = some t ∧
      t.kind = .write left written ∧ bytes.length ≤ left.length)
    (read : ∀ p, work = .read p → ∃ t left got, (s.floor.port p).transfer = some t ∧
      t.kind = .read left got ∧ len ≤ left) : State.Kept { s with floor := s.floor.begin work addr len } where
  own := h.own
  spans := h.spans
  works := h.works
  transfers := h.transfers
  burst := {
    inside := fun w hw => by cases hw; exact inside
    reset := fun active => by rw [running] at active; cases active
    write := fun w p bytes hw _ same => by cases hw; exact write p bytes same
    read := fun w p hw _ same => by cases hw; exact read p same }

/-- A burst begins that is not of a port's transfer. -/
theorem beginOther (h : s.Kept) (running : s.base.resetActive = false) {work : BurstWork} {addr len : Nat}
    (inside : addr + len ≤ s.base.store.blocks * blockBytes) (other : ∀ p, work.isTransferOf p = false) :
    State.Kept { s with floor := s.floor.begin work addr len } := by
  refine h.begin running inside (fun p bytes same => ?_) fun p same => ?_
  all_goals
    have mine := other p
    rw [same, BurstWork.isTransferOf, decide_eq_true rfl] at mine
    cases mine

/-- With no burst in progress a port's transfer may end, or go on as its law allows. -/
theorem setTransfer (h : s.Kept) (idle : s.floor.burst = none) {p : PortId} {x : PortContext}
    (law : ∀ t, x.transfer = some t → s.base.transferLaw p t) : State.Kept { s with floor := s.floor.setPort p x } where
  own := h.own
  spans := h.spans
  works := by
    rw [Floor.works_setPort]
    exact h.works
  transfers q t hq := by
    by_cases same : q = p
    · subst same
      rw [Floor.port_setPort_same] at hq
      exact law t hq
    · rw [Floor.port_setPort_of_ne _ _ same] at hq
      exact h.transfers q t hq
  burst := .idle ((s.floor.setPort_burst p x).trans idle)

theorem grantPort (h : s.Kept) (running : s.base.resetActive = false) (idle : s.floor.burst = none) (p : PortId) :
    State.Kept { s with floor := grantPort s.base s.floor p } := by
  cases transfer : (s.floor.port p).transfer with
  | some t =>
    cases admitted : s.base.admits p t with
    | false =>
      rw [grantPort_stopped transfer admitted]
      exact h.setTransfer idle fun t ht => by cases ht
    | true =>
      cases kind : t.kind with
      | write left written =>
        rw [grantPort_write transfer admitted kind]
        obtain ⟨number, -, loader⟩ := (Base.admits_write kind).mp admitted
        have within := ((Base.transferLaw_write kind).mp (h.transfers p t transfer) number loader).2
        refine h.begin running (h.own.inStore within (burstLen_le _ _)) (fun q bytes same => ?_) fun q same => by cases same
        cases same
        exact ⟨t, left, written, transfer, kind, List.length_take_le' _ _⟩
      | read left got =>
        rw [grantPort_read transfer admitted kind]
        obtain ⟨number, used, cleared⟩ := (Base.admits_read kind).mp admitted
        have within := (Base.transferLaw_read kind).mp (h.transfers p t transfer) number used cleared
        refine h.begin running (h.own.inStore within (burstLen_le _ _)) (fun q bytes same => by cases same) fun q same => ?_
        cases same
        exact ⟨t, left, got, transfer, kind, burstLen_le _ _⟩
  | none =>
    cases clearing : s.base.clearingOf p with
    | none =>
      rw [grantPort_idle transfer clearing]
      exact h
    | some w =>
      rw [grantPort_clear transfer clearing]
      have cleared : w.bytes ≤ s.base.regionBytes w.slot := h.spans.cleared w (List.mem_of_find?_eq_some clearing)
      have within : s.base.fits w.slot w.bytes (s.base.regionBytes w.slot - w.bytes) := by
        rw [Base.fits]
        omega
      exact h.beginOther running (h.own.inStore within (burstLen_le _ _)) fun _ => rfl

theorem grantCheck (h : s.Kept) (running : s.base.resetActive = false) :
    State.Kept { s with floor := grantCheck s.base s.floor } := by
  unfold Machine.grantCheck
  split
  · next k check =>
    split
    · next offset left rest spans =>
      have within : s.base.fits k.slot offset left := h.spans.check k check (offset, left) (spans ▸ List.mem_cons_self)
      exact h.beginOther running (h.own.inStore within (burstLen_le _ _)) fun _ => rfl
    · exact h
  · exact h

theorem grantChannel (h : s.Kept) (running : s.base.resetActive = false) (c : Chan) :
    State.Kept { s with floor := grantChannel s.base s.floor c } := by
  unfold Machine.grantChannel
  split
  · next slot addr len next? =>
    unfold Channel.nextFetch at next?
    split at next?
    · next i rest k fetch disk =>
      cases next?
      have tag : (s.floor.chan c).gist.disk = some k.tag := congrArg (Option.map Disk.tag) disk
      have within : s.base.fits k.slot i.offset i.remaining :=
        (h.works.sound c).fetch k.tag tag i (show i ∈ (s.floor.chan c).fetch from fetch ▸ List.mem_cons_self)
      exact h.beginOther running (h.own.inStore within (burstLen_le _ _)) fun _ => rfl
    · cases next?
  · exact h

theorem startBurst (h : s.Kept) (running : s.base.resetActive = false) (idle : s.floor.burst = none) (g : Grant) :
    State.Kept { s with floor := startBurst s.base s.floor g } := by
  cases g with
  | refresh => exact h.beginOther running (Nat.zero_le _) fun _ => rfl
  | channel c => exact h.grantChannel running c
  | background g =>
    cases g with
    | checkUnit => exact h.grantCheck running
    | portA => exact h.grantPort running idle .a
    | portB => exact h.grantPort running idle .b

/-- A grant (R38): the burst it starts lies in the store. -/
theorem grant (h : s.Kept) (running : s.base.resetActive = false) : s.grant.Kept := by
  unfold State.grant
  split
  · exact h
  · next busy =>
    have idle : s.floor.burst = none := by simpa using busy
    split
    · next g _ =>
      have started := h.startBurst running idle g
      have move := Base.Move.grant s.base g
      exact started.calms (.one rfl rfl move) (.refl _) (.base fun own => move.quiet_still own fun _ => rfl)
    · exact h

/-! Completed bursts (R37). -/

/-- A transfer goes on after its bytes, within its span (R33, R35). -/
theorem advance {b : Base} {p : PortId} {t : Transfer} (h : b.transferLaw p t) {bytes : List Byte}
    (write : ∀ left written, t.kind = .write left written → bytes.length ≤ left.length)
    (read : ∀ left got, t.kind = .read left got → bytes.length ≤ left) : b.transferLaw p (t.advance bytes) := by
  cases kind : t.kind with
  | write left written =>
    have most := write left written kind
    rw [Transfer.advance_write bytes kind]
    refine (Base.transferLaw_write rfl).mpr fun number loader => ?_
    obtain ⟨cleared, within⟩ := (Base.transferLaw_write kind).mp h number loader
    refine ⟨cleared, ?_⟩
    rw [Base.fits] at within ⊢
    rw [List.length_drop]
    simp only
    omega
  | read left got =>
    have most := read left got kind
    rw [Transfer.advance_read bytes kind]
    refine (Base.transferLaw_read rfl).mpr fun number used cleared => ?_
    have within := (Base.transferLaw_read kind).mp h number used cleared
    rw [Base.fits] at within ⊢
    simp only
    omega

theorem transferBurst (h : s.Kept) (idle : s.floor.burst = none) {p : PortId} {t : Transfer}
    (transfer : (s.floor.port p).transfer = some t) {bytes : List Byte}
    (write : ∀ left written, t.kind = .write left written → bytes.length ≤ left.length)
    (read : ∀ left got, t.kind = .read left got → bytes.length ≤ left) :
    State.Kept { s with floor := s.floor.setPort p ((s.floor.port p).transferBurst bytes) } := by
  refine h.setTransfer idle fun u hu => ?_
  by_cases left : (t.advance bytes).remaining = 0
  · rw [PortContext.transferBurst_ends transfer left] at hu
    cases hu
  · rw [PortContext.transferBurst_goesOn transfer left] at hu
    cases hu
    exact advance (h.transfers p t transfer) write read

theorem clearBurst (h : s.Kept) (fresh : s.numbersFresh) (slot : SlotId) (len : Nat) :
    State.Kept { s with base := s.base.clearBurst slot len } := by
  refine h.move (.one rfl rfl (.clear s.base slot len)) (.refl _) ?_ fun q t transfer => ?_
  · refine h.works.rebase (fun j _ => ⟨?_, fun f offset length mem => ?_⟩) fun k => ?_
    · obtain ⟨state, image⟩ := s.base.clearBurst_image slot len j.slot
      rw [Base.regionBytes_image, Base.regionBytes_image, image]
      exact le_refl _
    · obtain ⟨state, image⟩ := s.base.clearBurst_image slot len j.slot
      exact congrArg ImageSlot.trackMap image ▸ mem
    · obtain ⟨state, image⟩ := s.base.clearBurst_image slot len k
      rw [image]
  · exact (h.transfers q t transfer).clearBurst (fresh q t transfer) slot h.own len

/-- The burst in progress completes and serves its client. -/
theorem completeBurst (h : s.Kept) (fresh : s.numbersFresh) {w : Burst} (burst : s.floor.burst = some w) :
    (s.completeBurst w).Kept := by
  have served : State.Kept { s with mem := w.memoryAfter s.mem, floor := { s.floor with burst := none } } :=
    { own := h.own, spans := h.spans, works := h.works, transfers := h.transfers, burst := .idle rfl }
  unfold State.completeBurst
  simp only
  split
  · next live =>
    unfold State.deliver
    split
    · exact served
    · next c slot work =>
      refine served.floor rfl (.still (.refl _) rfl rfl rfl) ?_
      exact Floor.law_refetch (f := { s.floor with burst := none }) (c := c)
        (l := fetchAfterBurst (Memory.readBytes s.mem w.addr w.len).length (s.floor.chan c).fetch) h.works rfl
        (fun idle => by rw [show (s.floor.chan c).fetch = [] from ((h.works.sound c).idle idle).1]; rfl)
        fun k disk => FetchFits.afterBurst ((h.works.sound c).fetch k disk) _
    · next p bytes work =>
      obtain ⟨t, left, written, transfer, kind, most⟩ := h.burst.write w p bytes burst live work
      refine served.transferBurst rfl (p := p) transfer (fun l n same => ?_) fun l got same => ?_
      · rw [kind] at same
        cases same
        exact most
      · rw [kind] at same
        cases same
    · next p work =>
      obtain ⟨t, left, got, transfer, kind, most⟩ := h.burst.read w p burst live work
      refine served.transferBurst rfl (p := p) transfer (fun l n same => ?_) fun l g same => ?_
      · rw [kind] at same
        cases same
      · rw [kind] at same
        cases same
        rw [Memory.readBytes_length]
        exact most
    · next slot work => exact served.clearBurst fresh slot w.len
    · next work =>
      exact served.calms (State.checkBurst_moves _ _) (State.checkBurst_beside _ _) (State.checkBurst_calms _ _)
  · exact served

end State.Kept

end Sys2Proof.Machine

/-! SUPPORT. Every command keeps the laws of the store, and so does every step (R28, R33, R37, entry 23). -/

namespace Sys2Proof.Machine

/-! Resets (R185). -/

theorem State.powerOn_bare (s : State) (pins : PinLevels) :
    (s.powerOn pins).Bare (strapBlocks pins.size1 pins.size0) where
  low := strapBlocks_pos _ _
  store := rfl
  image := Base.image_reset 0
  list := rfl
  check := rfl
  jobs := by rw [powerOn_floor]; split <;> rfl
  waiting := by rw [powerOn_floor]; split <;> rfl
  engine := by rw [powerOn_floor]; split <;> rfl
  chan := s.powerOn_chan pins
  port := s.powerOn_port pins
  burst := by rw [powerOn_floor]; split <;> rfl

theorem State.assertReset_bare {s : State} (low : 1 ≤ s.base.store.blocks) : s.assertReset.Bare s.base.store.blocks where
  low := low
  store := rfl
  image := Base.image_reset 0
  list := rfl
  check := rfl
  jobs := rfl
  waiting := rfl
  engine := rfl
  chan c := by simp [assertReset, Floor.chan, Floor.reset]
  port p := by cases p <;> rfl
  burst := rfl

namespace State.Kept

variable {s : State}

theorem powerOn (s : State) (pins : PinLevels) : (s.powerOn pins).Kept := (s.powerOn_bare pins).storeLaw.kept

theorem assertReset (h : s.Kept) : s.assertReset.Kept :=
  (State.assertReset_bare ((Store.regionLaw_iff _).mp h.own.regions).1).storeLaw.kept

/-- The end of a reset leaves the slots, the channels and the ports as the reset held them. -/
theorem releaseReset (h : s.Kept) (active : s.base.resetActive = true) (size1 size0 : Bool) :
    (s.releaseReset size1 size0).Kept where
  own := (Base.Reset.release size1 size0 active).ownLaw h.own
  spans := (Base.Reset.release size1 size0 active).spanLaw h.own h.spans
  works := h.works.rebase (fun _ _ => ⟨le_rfl, fun _ _ _ => id⟩) fun _ => rfl
  transfers p t transfer := by
    have stands : t ∈ (s.floor.port p).transfer := by cases p <;> exact transfer
    exact (h.transfers p t stands).stands rfl rfl .rfl .rfl
  burst := .idle (h.burst.reset active)

/-! Commands taken out of reset (R185). -/

theorem taken (h : s.Kept) {g : State → State} (running : s.base.resetActive = false → (g s).Kept) :
    (s.taken g).Kept := by
  unfold State.taken
  split
  · exact h
  · next active => exact running (by simpa using active)

theorem settle (h : s.Kept) : s.settle.Kept :=
  h.floor rfl (Floor.Beside.settle (.refl _)) (Floor.law_settle h.works)

theorem channelEvent (h : s.Kept) {occurs : Bool} {g : Base → Floor → Floor}
    (event : occurs = true → s.floor.Beside (g s.base s.floor) ∧ (g s.base s.floor).works.Law s.base) :
    (s.channelEvent occurs g).Kept := by
  refine h.taken fun _ => ?_
  split
  · next now =>
    obtain ⟨beside, works⟩ := event now
    have done : State.Kept { s with floor := g s.base s.floor } := h.floor rfl beside works
    exact done.settle
  · exact h

/-- A change that ports, burst and works do not see. -/
theorem unseen (h : s.Kept) {f : Floor} (portA : f.portA = s.floor.portA) (portB : f.portB = s.floor.portB)
    (burst : f.burst = s.floor.burst) (works : f.works = s.floor.works) : State.Kept { s with floor := f } :=
  h.same rfl ((Floor.Beside.refl _).still portA portB burst) works

end State.Kept

/-! Channels at work. -/

theorem Channel.writing_eq_some {x : Channel} {st : WriteStream} (writing : x.writing = some st) :
    x.state = .producing ∧ x.phase = some .write := by
  unfold Channel.writing at writing
  split at writing
  · next pass => exact pass
  · cases writing

theorem Channel.verifying_iff {x : Channel} : x.verifying = true ↔ x.state = .producing ∧ x.phase = some .verify := by
  simp [verifying]

theorem Channel.underrunDue_writing {b : Base} {x : Channel} {due : TrackPlan × Nat} (underrun : x.underrunDue b = some due) :
    ∃ st, x.writing = some st := by
  unfold underrunDue at underrun
  split at underrun
  · next st _ writing _ => exact ⟨st, writing⟩
  · cases underrun

theorem Floor.work_of_writing {f : Floor} {b : Base} {c : Chan} (h : f.works.Law b) {st : WriteStream}
    (writing : (f.chan c).writing = some st) : f.works.Work b c := by
  obtain ⟨producing, write⟩ := Channel.writing_eq_some writing
  exact work_of_phase h producing (by rw [write]; decide) (by rw [write]; decide)

theorem Floor.work_of_verifying {f : Floor} {b : Base} {c : Chan} (h : f.works.Law b)
    (verifying : (f.chan c).verifying = true) : f.works.Work b c := by
  obtain ⟨producing, verify⟩ := Channel.verifying_iff.mp verifying
  exact work_of_phase h producing (by rw [verify]; decide) (by rw [verify]; decide)

/-! Every command. -/

namespace State.Kept

variable {s : State}

theorem timebaseTick (h : s.Kept) (trk0 wprot : BitVec 8) :
    State.Kept ({ s with base := s.base.sense trk0 wprot }.taken State.tick) := by
  have sensed : State.Kept { s with base := s.base.sense trk0 wprot } := by
    have move := Base.Move.sense s.base trk0 wprot
    exact h.calms (.one rfl rfl move) (.refl _) (.base fun own => move.quiet_still own fun _ => rfl)
  refine sensed.taken fun _ => ?_
  have move := Base.Move.tick (s.base.sense trk0 wprot)
  exact sensed.calms (.one rfl rfl move) ((Floor.Beside.refl _).still rfl rfl rfl)
    ⟨Floor.works_tick _, fun own => move.quiet_still own fun _ => rfl⟩

theorem refreshExpiry (h : s.Kept) : State.Kept { s with base := { s.base with store := s.base.store.refreshExpiry } } := by
  have move := Base.Move.refresh s.base
  exact h.calms (.one rfl rfl move) (.refl _) (.base fun own => move.quiet_still own fun _ => rfl)

theorem finishPlan (h : s.Kept) : State.Kept { s with floor := s.floor.finishPlan s.base } :=
  h.floor rfl (Floor.Beside.finishPlan (.refl _)) (Floor.law_finishPlan h.works h.spans)

theorem writeStreamByte (h : s.Kept) (c : Chan) : State.Kept (s.channelEvent ((s.floor.chan c).byteDue s.base)
    fun b f => match (f.chan c).writing with | some st => f.writeByte b c st | none => f) := by
  refine h.channelEvent fun _ => ?_
  split
  · next st writing =>
    exact ⟨Floor.Beside.writeByte (.refl _) st, Floor.law_writeByte (Floor.work_of_writing h.works writing) h.spans st⟩
  · exact ⟨.refl _, h.works⟩

theorem writeUnderrun (h : s.Kept) (c : Chan) : State.Kept (s.channelEvent ((s.floor.chan c).underrunDue s.base).isSome
    fun b f => match (f.chan c).underrunDue b with | some (p, j) => f.writeUnderrun b c p j | none => f) := by
  refine h.channelEvent fun _ => ?_
  split
  · next p j underrun =>
    obtain ⟨st, writing⟩ := Channel.underrunDue_writing underrun
    exact ⟨Floor.Beside.endAttempt (.refl _), Floor.law_endAttempt (Floor.work_of_writing h.works writing) h.spans _⟩
  · exact ⟨.refl _, h.works⟩

theorem verifyUnderrun (h : s.Kept) (c : Chan) : State.Kept (s.channelEvent
    ((s.floor.chan c).verifying && (s.floor.chan c).verifyUnderrunSlot.isSome)
    fun b f => match (f.chan c).verifyUnderrunSlot with
      | some (p, j) => f.endAttempt b c (.bad .underrun (p.sectorOf j)) | none => f) := by
  refine h.channelEvent fun occurs => ?_
  have verifying := (Bool.and_eq_true_iff.mp occurs).1
  split
  · exact ⟨Floor.Beside.endAttempt (.refl _), Floor.law_endAttempt (Floor.work_of_verifying h.works verifying) h.spans _⟩
  · exact ⟨.refl _, h.works⟩

theorem verifySlotResult (h : s.Kept) (c : Chan) {t : State} (next : execVerifySlotResult c s = .next t) : t.Kept := by
  cases next
  refine h.taken fun _ => ?_
  split
  · split
    · exact h.floor rfl (Floor.Beside.giveSlotResult (.refl _) _ _ _ _ _) (Floor.law_giveSlotResult h.works _ _ _ _ _)
    · exact h
  · exact h

theorem seatedEdge (h : s.Kept) (c : Chan) (level : Bool) {t : State} (next : execSeatedEdge c level s = .next t) :
    t.Kept := by
  cases next
  split
  · exact h
  · split <;> exact h.unseen rfl rfl rfl rfl

theorem reject (h : s.Kept) (running : s.base.resetActive = false) (p : PortId) (bits : List Bool) :
    (s.reject p bits).Kept := by
  unfold State.reject
  split
  · exact h.receive running p _
  all_goals exact h

/-- The burst completes, and the frames held are taken (R37, R178). -/
theorem storeBurstComplete (h : s.Kept) (fresh : s.numbersFresh) {t : State}
    (next : execStoreBurstComplete s = .next t) : t.Kept := by
  unfold execStoreBurstComplete at next
  split at next
  · cases next
    exact h
  · next w burst =>
    split at next
    · cases next
      exact h
    · next active =>
      split at next
      · cases next
        have moves := s.completeBurst_moves w
        have running : (s.completeBurst w).base.resetActive = false :=
          (Base.moves_resetActive moves.base).trans (by simpa using active)
        exact (h.completeBurst fresh burst).drainHolds running s
      · cases next

theorem exec (h : s.Kept) (fresh : s.numbersFresh) (c : Instr) {t : State} (next : Machine.exec c s = .next t) :
    t.Kept := by
  cases c with
  | powerOn pins =>
    cases next
    exact .powerOn s pins
  | resetPinAssert =>
    cases next
    exact h.assertReset
  | resetPinRelease size1 size0 =>
    cases next
    split
    · next active => exact h.releaseReset active size1 size0
    · exact h
  | timebaseTick trk0 wprot =>
    cases next
    exact h.timebaseTick trk0 wprot
  | refreshTimerExpiry =>
    cases next
    exact h.taken fun _ => h.refreshExpiry
  | arbiterGrant =>
    cases next
    refine h.taken fun running => (h.grant running).drainHolds ?_ s
    exact (Base.moves_resetActive s.grant_moves.base).trans running
  | storeBurstComplete => exact h.storeBurstComplete fresh next
  | planBuildComplete =>
    cases next
    exact h.taken fun _ => h.finishPlan
  | indexEdge c =>
    cases next
    exact h.channelEvent fun _ => ⟨.indexEdge (.refl _), Floor.law_indexEdge h.works h.spans c⟩
  | writeStreamByte c =>
    cases next
    exact h.writeStreamByte c
  | writeUnderrun c =>
    cases next
    exact h.writeUnderrun c
  | readBackByte c flux =>
    cases next
    exact h.channelEvent fun verifying => ⟨.readByte (.refl _) flux,
      Floor.law_readByte (Floor.work_of_verifying h.works verifying) h.spans flux⟩
  | verifySlotResult c => exact h.verifySlotResult c next
  | verifyUnderrun c =>
    cases next
    exact h.verifyUnderrun c
  | stepPulseTimerExpiry c =>
    cases next
    refine h.taken fun _ => ?_
    split
    · exact h.unseen rfl rfl rfl (s.floor.works_modChan_unseen c rfl)
    · exact h
  | stepTimerExpiry c =>
    cases next
    exact h.channelEvent fun _ => ⟨.stepExpiry (.refl _), Floor.law_stepExpiry h.works h.spans c⟩
  | settleTimerExpiry c =>
    cases next
    refine h.taken fun _ => ?_
    split
    · exact h.floor rfl ((Floor.Beside.refl _).still rfl rfl rfl) (Floor.law_settleExpiry h.works c)
    · exact h
  | spinupTimerExpiry c =>
    cases next
    exact h.channelEvent fun _ => ⟨.abortDisk ((Floor.Beside.refl _).still rfl rfl rfl), Floor.law_spinupExpiry h.works c⟩
  | indexWatchdogExpiry c =>
    cases next
    exact h.channelEvent fun _ => ⟨.abortDisk ((Floor.Beside.refl _).still rfl rfl rfl), Floor.law_watchdogExpiry h.works c⟩
  | lineHoldPinChange pulls =>
    cases next
    have pulled : State.Kept { s with floor := s.floor.handlerPulls pulls } := h.unseen rfl rfl rfl rfl
    exact pulled.taken fun _ => pulled.settle
  | seatedEdge c level => exact h.seatedEdge c level next
  | debounceTimerExpiry c =>
    cases next
    exact h.channelEvent fun _ => ⟨.debounceExpiry (.refl _), Floor.law_debounceExpiry h.works c⟩
  | fetchStart p =>
    cases next
    exact h.taken fun _ => h.setPort p rfl
  | fetchWindowEnd p clocks =>
    cases next
    refine h.taken fun _ => h.setPort p ?_
    unfold PortContext.endFetch
    split <;> rfl
  | frameRejected p bits =>
    cases next
    exact h.taken fun running => h.reject running p bits
  | _ =>
    cases next
    exact h.station _ _ _

theorem step (h : s.Kept) (fresh : s.numbersFresh) {t : State} (next : Machine.step s = .next t) : t.Kept := by
  unfold Machine.step at next
  split at next
  · cases next
    exact h
  · next c rest _ =>
    have queued : State.Kept { s with pending := rest } :=
      { own := h.own, spans := h.spans, works := h.works, transfers := h.transfers
        burst := { inside := h.burst.inside, reset := h.burst.reset, write := h.burst.write, read := h.burst.read } }
    exact queued.exec fresh c next

end State.Kept

/-- With every burst in the store no command stops (entry 23). -/
theorem State.StoreLaw.safeStep {s : State} (h : s.StoreLaw) : Machine.safeStep s := by
  unfold Machine.safeStep Machine.step
  split
  · exact ⟨s, rfl⟩
  · next c rest _ =>
    rcases onlyABurstBeyondTheStoreStops c { s with pending := rest } with safe | ⟨-, -, -, w, burst, beyond⟩
    · exact safe
    · exact absurd (h.burst.inside w burst) (not_le.mpr beyond)

/-- Settles O8: the laws of the store are those of `State.Kept`, which every command keeps; only a burst beyond the
store could stop one (O3). -/
theorem burstsStayInTheStore : Obligations.BurstsStayInTheStore := by
  unfold Obligations.BurstsStayInTheStore
  exact ⟨fun _ _ law fresh next => (law.kept.step fresh next).storeLaw, fun _ law => law.safeStep⟩

end Sys2Proof.Machine

/-! SUPPORT. DEFINE JOB (R66, R67, R87) and the counts of a job (R65, R75, R80, R83, R84): the requests' checks in
their order, the moves of the counts, and the end of a job. -/

namespace Sys2Proof.Machine

/-! DEFINE JOB (R66, R67, R87). -/

theorem exec_defineJob {p : PortId} {payload : List Byte} {s : State} (ready : s.ready p)
    (admits : Request.defineJob.admits payload.length = true) :
    exec (.defineJob p payload) s = .next (doDefineJob p payload s) :=
  next_station_ready .defineJob ready admits

theorem doDefineJob_unread {p : PortId} {payload : List Byte} (s : State) (unread : readJobDefinition p payload = none) :
    doDefineJob p payload s = s.refuse p .badValue := by
  simp only [doDefineJob, unread]

theorem doDefineJob_refused {p : PortId} {payload : List Byte} {s : State} {j : Job} {e : Status}
    (read : readJobDefinition p payload = some j) (check : s.jobCheck j = some e) :
    doDefineJob p payload s = s.refuse p e := by
  simp only [doDefineJob, read, check]

theorem doDefineJob_taken {p : PortId} {payload : List Byte} {s : State} {j : Job}
    (read : readJobDefinition p payload = some j) (check : s.jobCheck j = none) :
    doDefineJob p payload s = (s.addJob j).reply p [byte j.id, byte (s.floor.jobs.length + 1)] := by
  simp only [doDefineJob, read, check]

section

variable {s : State} {j : Job}

theorem State.jobCheck_full (full : 8 ≤ s.floor.jobs.length) : s.jobCheck j = some .queueFull := if_pos full

theorem State.jobCheck_known (room : s.floor.jobs.length < 8) (known : (s.floor.job j.id).isSome = true) :
    s.jobCheck j = some .jobExists := by
  rw [jobCheck, if_neg (show ¬maxJobs ≤ _ from not_le.mpr room), if_pos known]

theorem State.jobCheck_free (room : s.floor.jobs.length < 8) (new : s.floor.job j.id = none)
    (free : (s.base.image j.slot).state = .free) : s.jobCheck j = some .noImage := by
  rw [jobCheck, if_neg (show ¬maxJobs ≤ _ from not_le.mpr room), if_neg (by simp [new]), if_pos free]

/-- Past the first checks a job is refused only for the placement of its serial (R87). -/
theorem State.jobCheck_placed (room : s.floor.jobs.length < 8) (new : s.floor.job j.id = none)
    (used : (s.base.image j.slot).state ≠ .free) :
    s.jobCheck j = j.serial.bind fun st => s.base.serialCheck (s.base.image j.slot) st.spec := by
  rw [jobCheck, if_neg (show ¬maxJobs ≤ _ from not_le.mpr room), if_neg (by simp [new]), if_neg used]
  cases j.serial <;> rfl

end

section

variable {b : Base} {im : ImageSlot} {sp : SerialSpec}

theorem Base.serialCheck_elsewhere
    (other : ∀ f start len, im.entry sp.cylinder sp.head ≠ some (.data f start len)) :
    b.serialCheck im sp = some .serialPlace := by
  unfold serialCheck
  split
  case h_1 f start len entry => exact absurd entry (other f start len)
  all_goals rfl

/-- On a DATA track the sector and the offset are checked before the start value (R87). -/
theorem Base.serialCheck_data {f : FormatId} {start len : Nat} {d : Descriptor}
    (entry : im.entry sp.cylinder sp.head = some (.data f start len)) (format : b.format f = some d) :
    b.serialCheck im sp =
      if d.sectors ≤ sp.index ∨ d.sectorSize < sp.offset + sp.encoding.length then some .serialPlace
      else if sp.encoding.maximum < sp.start then some .badValue else none := by
  simp only [serialCheck, entry, format, ite_or]

end

/-- Settles O36: each refusal by the check of R66 it comes from, and the placement by `Base.serialCheck_data`. -/
theorem defineJobJoinsTheQueue : Obligations.DefineJobJoinsTheQueue := by
  unfold Obligations.DefineJobJoinsTheQueue
  refine ⟨fun p payload s ready admits unread => ?_, fun p payload j s ready admits read => ?_, fun b im sp => ?_⟩
  · rw [exec_defineJob ready admits, doDefineJob_unread s unread]
  · rw [exec_defineJob ready admits]
    have refused {e : Status} (check : s.jobCheck j = some e) :
        (.next (doDefineJob p payload s) : Result) = .next (s.refuse p e) :=
      congrArg _ (doDefineJob_refused read check)
    refine ⟨fun full => refused (State.jobCheck_full full), fun room known => refused (State.jobCheck_known room known),
      fun room new free => refused (State.jobCheck_free room new free), fun room new used placed => ?_,
      fun st e room new used serial misplaced => refused ?_⟩
    · have check : s.jobCheck j = none := by
        rw [State.jobCheck_placed room new used, Option.bind_eq_none_iff]
        exact placed
      rw [doDefineJob_taken read check]
      rfl
    · rw [State.jobCheck_placed room new used, serial]
      exact misplaced
  · refine ⟨Base.serialCheck_elsewhere, fun f start len d entry format => ⟨fun misplaced => ?_, fun index fits => ?_⟩⟩
    · rw [Base.serialCheck_data entry format, if_pos misplaced]
    · rw [Base.serialCheck_data entry format, if_neg (by omega)]

/-! The counts of a job (R65, R75, R80, R83). -/

namespace Job

variable {j : Job}

theorem hasSerial_iff : j.hasSerial = true ↔
    ∀ st, j.serial = some st → st.reclaim ≠ [] ∨ st.next ≤ st.spec.encoding.maximum := by
  unfold hasSerial
  cases j.serial <;> simp

theorem issuable_iff : j.issuable = true ↔
    j.state = .running ∧ (j.target = 0 ∨ j.passed + j.inFlight < j.target) ∧ j.issued < 4294967295 ∧
      ∀ st, j.serial = some st → st.reclaim ≠ [] ∨ st.next ≤ st.spec.encoding.maximum := by
  rw [← hasSerial_iff]
  simp only [issuable, Bool.and_eq_true, Bool.or_eq_true, beq_iff_eq, decide_eq_true_eq,
    show maxIssued = 4294967295 from rfl]
  tauto

theorem account_eq (j : Job) (outcome : DiskOutcome) (number : Option Nat) : j.account outcome number = { j with
    inFlight := j.inFlight - 1
    passed := j.passed + (if outcome = .pass ∨ outcome = .passSoft then 1 else 0)
    failed := j.failed + (if outcome = .fail then 1 else 0)
    aborted := j.aborted + (if outcome = .aborted then 1 else 0)
    serial := j.serial.map fun st => st.settle outcome number } := by
  cases outcome <;> rfl

theorem countLaw_afterIssue (law : j.countLaw) : j.afterIssue.countLaw := by
  simp only [countLaw, afterIssue] at law ⊢
  omega

theorem countLaw_account (law : j.countLaw) (flying : 1 ≤ j.inFlight) (outcome : DiskOutcome) (number : Option Nat) :
    (j.account outcome number).countLaw := by
  simp only [countLaw] at law
  cases outcome <;> simp only [countLaw, account] <;> omega

theorem targetLaw_afterIssue (issuable : j.issuable = true) : j.afterIssue.targetLaw := by
  intro target
  have room := issuable_target issuable target
  simp only [afterIssue]
  omega

theorem targetLaw_account (law : j.targetLaw) (flying : 1 ≤ j.inFlight) (outcome : DiskOutcome) (number : Option Nat) :
    (j.account outcome number).targetLaw := by
  intro target
  have within := law target
  cases outcome <;> simp only [account] <;> omega

/-! The end of a job (R84). -/

/-- A job under way with disks in flight does not end; one with none ends by the first cause that holds. -/
theorem endsBy_underWay (under : j.state = .running ∨ j.state = .draining) : j.endsBy =
    if j.inFlight ≠ 0 then none
    else if j.target ≠ 0 ∧ j.passed = j.target then some .targetMet
    else if j.spent then some .serialsExhausted
    else if j.state = .draining then some .stopped
    else none := by
  rcases under with state | state <;> simp only [endsBy, state]

theorem afterEndTest_of_none (stands : j.endsBy = none) : j.afterEndTest = j := by
  rw [afterEndTest, stands]

theorem afterEndTest_of_some {cause : EndCause} (ends : j.endsBy = some cause) :
    j.afterEndTest = { j with state := .done, endCause := some cause } := by
  rw [afterEndTest, ends]

theorem spent_of_serial {st : SerialState} (serial : j.serial = some st) (reclaim : st.reclaim = [])
    (beyond : st.spec.encoding.maximum < st.next) : j.spent = true := by
  simp [spent, hasSerial, serial, reclaim, beyond]

end Job

/-- Settles O38: the counts by `Job.account_eq` and the laws of its moves, the end by `Job.endsBy_underWay`. -/
theorem jobCountsAddUp : Obligations.JobCountsAddUp := by
  unfold Obligations.JobCountsAddUp
  refine ⟨fun j outcome number => ⟨rfl, j.account_eq outcome number, Job.issuable_iff,
    fun law => ⟨Job.countLaw_afterIssue law, fun flying => Job.countLaw_account law flying outcome number⟩,
    fun law => ⟨Job.targetLaw_afterIssue, fun flying => Job.targetLaw_account law flying outcome number⟩⟩,
    fun j under => ?_⟩
  have ends := Job.endsBy_underWay under
  refine ⟨fun flying => Job.afterEndTest_of_none ?_, fun landed target met => Job.afterEndTest_of_some ?_,
    fun landed unmet => ?_⟩
  · rw [ends, if_pos (by omega)]
  · rw [ends, if_neg (not_not.mpr landed), if_pos ⟨target, met⟩]
  · rw [if_neg (not_not.mpr landed), if_neg (by tauto)] at ends
    refine ⟨fun st serial reclaim beyond => Job.afterEndTest_of_some ?_, fun left => ?_⟩
    · rw [ends, if_pos (Job.spent_of_serial serial reclaim beyond)]
    · rw [if_neg (by simp [Job.spent, Job.hasSerial_iff.mpr left])] at ends
      refine ⟨fun draining => Job.afterEndTest_of_some ?_, fun running => Job.afterEndTest_of_none ?_⟩
      · rw [ends, if_pos draining]
      · rw [ends, if_neg (by simp [running])]

/-! SET DRIVE (R100). -/

theorem exec_setDrive {p : PortId} {payload : List Byte} {s : State} (ready : s.ready p) (len : payload.length = 8) :
    exec (.setDrive p payload) s = .next (doSetDrive p payload s) :=
  next_station_ready .setDrive ready (by rw [len]; rfl)

theorem ChannelState.settable_iff (state : ChannelState) :
    state.settable = true ↔ state ∉ [.spinup, .recal, .producing, .paused, .posting, .unloading] := by
  cases state <;> decide

section

variable {p : PortId} {s : State} {c : Chan} {flags : Byte} {values : List Byte}

/-- SET DRIVE for a channel that can be set stores the settings and, in LOADED, makes an evaluation due. -/
theorem doSetDrive_stores (defined : flags.toNat ≤ 63) (settable : (s.floor.chan c).state.settable = true) :
    let new := (s.floor.chan c).settings.given (byte c.val :: flags :: values)
    let t := { s with floor := s.floor.setChan c { s.floor.chan c with settings := new } }.reply p new.bytes
    doSetDrive p (byte c.val :: flags :: values) s =
      if (s.floor.chan c).state = .loaded then t.evaluateNow else t := by
  simp only [doSetDrive, readChannel, num_head, num_tail, slot_of_byte, if_neg (not_lt.mpr defined), settable,
    Bool.not_true, Bool.false_eq_true, if_false]

theorem doSetDrive_busy (defined : flags.toNat ≤ 63) (busy : (s.floor.chan c).state.settable = false) :
    doSetDrive p (byte c.val :: flags :: values) s = s.refuse p .driveBusy := by
  simp only [doSetDrive, readChannel, num_head, num_tail, slot_of_byte, if_neg (not_lt.mpr defined), busy,
    Bool.not_false, if_true]

theorem doSetDrive_badValue {v : Byte} (bad : 7 < v.toNat ∨ 63 < flags.toNat) :
    doSetDrive p (v :: flags :: values) s = s.refuse p .badValue := by
  simp only [doSetDrive, readChannel, num_head, num_tail]
  cases read : finOf? 8 v.toNat with
  | none => rfl
  | some c =>
    have low : v.toNat = c.val := finOf?_eq_some_iff.mp read
    exact if_pos (bad.resolve_left (by omega))

end

/-- Each of the six settings is taken from its own byte, clamped, where its flag is given (R100). -/
theorem Settings.given_eq (old : Settings) (v flags v0 v1 v2 v3 v4 v5 : Byte) :
    let pick (i low high : Nat) (v : Byte) (o : Nat) := if flags.getLsbD i then max low (min high v.toNat) else o
    old.given [v, flags, v0, v1, v2, v3, v4, v5] =
      { stepPeriod := pick 0 1 32 v0 old.stepPeriod, settleTime := pick 1 0 63 v1 old.settleTime
        heads := pick 2 1 2 v2 old.heads, cylinderLimit := pick 3 40 84 v3 old.cylinderLimit
        spinupUnits := pick 4 20 255 v4 old.spinupUnits, failStreakLimit := pick 5 0 15 v5 old.failStreakLimit } := by
  simp only [given, givenSetting, Nat.reduceAdd, num_tail, num_head, BitVec.testBit_toNat, clamp]

/-- Settles O44: the settings by `Settings.given_eq`, the states by `ChannelState.settable_iff`. -/
theorem driveSettingsAreClamped : Obligations.DriveSettingsAreClamped := by
  unfold Obligations.DriveSettingsAreClamped
  refine ⟨fun p c flags v0 v1 v2 v3 v4 v5 s ready defined => ?_, fun p v flags values s ready len bad => ?_⟩
  · intro old pick new t
    have stores (settable : (s.floor.chan c).state.settable = true) :
        exec (.setDrive p [byte c.val, flags, v0, v1, v2, v3, v4, v5]) s =
          .next (if (s.floor.chan c).state = .loaded then t.evaluateNow else t) := by
      rw [exec_setDrive ready rfl, doSetDrive_stores defined settable, Settings.given_eq]
      rfl
    refine ⟨fun state => ?_, fun loaded => ?_, fun busy => ?_⟩
    · have settable : (s.floor.chan c).state.settable = true ∧ (s.floor.chan c).state ≠ .loaded := by
        rcases state with h | h | h <;> rw [h] <;> decide
      rw [stores settable.1, if_neg settable.2]
    · rw [stores (by rw [loaded]; rfl), if_pos loaded]
      rfl
    · have unsettable : (s.floor.chan c).state.settable = false :=
        Bool.eq_false_iff.mpr fun settable => (ChannelState.settable_iff _).mp settable busy
      rw [exec_setDrive ready rfl, doSetDrive_busy defined unsettable]
  · rw [exec_setDrive ready (by simp [len]), doSetDrive_badValue bad]

end Sys2Proof.Machine

/-! SUPPORT. A record offered to the ring (R150 to R159): what its job, its channel and the ports see of it when it is
taken (R83, R84, R117 to R119, R153), and the record displaced for it (R154, R156). -/

namespace Sys2Proof.Machine

/-! Events posted (R180). -/

theorem mem_addEvent {set : List EventKind} {e k : EventKind} : k ∈ addEvent set e ↔ k = e ∨ k ∈ set := by
  simp [addEvent, mem_allEvents]

theorem addEvent_nodup (set : List EventKind) (e : EventKind) : (addEvent set e).Nodup :=
  List.Nodup.filter _ (by decide)

theorem Floor.post_port (f : Floor) (e : EventKind) (p : PortId) :
    (f.post e).port p = { f.port p with events := addEvent (f.port p).events e } := by
  cases p <;> rfl

/-! The job of a record (R83, R84). -/

/-- Whether accounting a record ends its job (R84). -/
def Floor.endsJob (f : Floor) (r : RecordBody) : Prop :=
  ∃ j, f.job r.jobId = some j ∧ (j.account r.outcome r.serial).endsBy ≠ none

namespace Floor

variable {f : Floor} {c : Chan}

/-- Accounting changes the jobs, and posts JOB_ENDED just where it ends the job (R83 to R85). -/
theorem accountJob_cases (f : Floor) (r : RecordBody) :
    (¬f.endsJob r ∧ f.accountJob r = { f with jobs := (f.accountJob r).jobs }) ∨
      (f.endsJob r ∧ f.accountJob r = { f with jobs := (f.accountJob r).jobs }.post .jobEnded) := by
  unfold accountJob
  cases job : f.job r.jobId with
  | none => exact .inl ⟨fun ⟨j, named, _⟩ => by simp [job] at named, rfl⟩
  | some j =>
    simp only
    cases ends : (j.account r.outcome r.serial).endsBy with
    | none => exact .inl ⟨fun ⟨k, named, ended⟩ => by simp_all, rfl⟩
    | some cause => exact .inr ⟨⟨j, job, by simp [ends]⟩, rfl⟩

theorem accountJob_frame (f : Floor) (r : RecordBody) : f.accountJob r =
    { f with jobs := (f.accountJob r).jobs, portA := (f.accountJob r).portA, portB := (f.accountJob r).portB } := by
  obtain ⟨-, eq⟩ | ⟨-, eq⟩ := f.accountJob_cases r
  · rw [eq]
  · rw [eq]
    rfl

theorem accountJob_port (f : Floor) (r : RecordBody) (p : PortId) :
    ∃ events, (f.accountJob r).port p = { f.port p with events := events } ∧
      ∀ e, e ∈ events ↔ e ∈ (f.port p).events ∨ (e = .jobEnded ∧ f.endsJob r) := by
  obtain ⟨stands, eq⟩ | ⟨ends, eq⟩ := f.accountJob_cases r
  · refine ⟨(f.port p).events, ?_, fun e => by simp [stands]⟩
    rw [eq]
    cases p <;> rfl
  · refine ⟨addEvent (f.port p).events .jobEnded, ?_, fun e => by simp [mem_addEvent, ends, or_comm]⟩
    rw [eq, post_port]
    cases p <;> rfl

/-- The job that a record names accounts it; no other job does. -/
theorem accountJob_jobs (distinct : (f.jobs.map (·.id)).Nodup) (r : RecordBody) : (f.accountJob r).jobs =
    f.jobs.map fun q => if q.id = r.jobId then (q.account r.outcome r.serial).afterEndTest else q := by
  cases job : f.job r.jobId with
  | none =>
    have other := (f.job_eq_none_iff _).mp job
    have same : f.accountJob r = f := by rw [accountJob, job]
    rw [same]
    exact ((List.map_congr_left fun q hq => if_neg (other q hq)).trans (List.map_id' f.jobs)).symm
  | some j =>
    obtain ⟨mem, id⟩ := Floor.job_eq_some job
    have sameId : (j.account r.outcome r.serial).afterEndTest.id = j.id := (Job.afterEndTest_same _).1
    rw [show (f.accountJob r).jobs = _ from congrArg Works.jobs (works_accountJob job), putIn]
    refine List.map_congr_left fun q hq => ?_
    by_cases own : q.id = r.jobId
    · have same : q = j := List.inj_on_of_nodup_map distinct hq mem (own.trans id.symm)
      rw [if_pos own, same, sameId, if_pos (by simp)]
    · rw [if_neg own, sameId, if_neg (by simpa [id] using own)]

end Floor

/-! The channel of a record (R117 to R119). -/

theorem failCountAfter_eq (outcome : DiskOutcome) (count : Nat) : failCountAfter outcome count =
    if outcome = .fail then min 255 (count + 1) else if outcome = .aborted then count else 0 := by
  cases outcome <;> rfl

/-- A fault pending stands, and only a FAIL that brings the count to the limit makes one (R119, entry 9). -/
theorem faultAfter_eq (x : Channel) (outcome : DiskOutcome) : faultAfter x outcome =
    x.fault.or (if outcome = .fail ∧ x.settings.failStreakLimit ≠ 0 ∧
      x.settings.failStreakLimit ≤ failCountAfter outcome x.failCount then some .failStreak else none) := by
  unfold faultAfter
  cases x.fault <;> cases outcome <;> simp

namespace Floor

variable {f : Floor} {c : Chan} {outcome : DiskOutcome}

theorem completePosting_held (held : (f.chan c).removed = false) : f.completePosting c outcome =
    (f.setChan c { (f.chan c).afterPosting outcome with state := .unloading }).modDrive c
      fun d => d.startUnload outcome.bin := by
  simp [completePosting, Channel.afterPosting, held]

theorem completePosting_faulty (pulled : (f.chan c).removed = true) (fault : faultAfter (f.chan c) outcome ≠ none) :
    f.completePosting c outcome = (f.setChan c { (f.chan c).afterPosting outcome with
      state := .fault, motor := false, dir := false, stepOut := false, side := false, wgate := false
      wdata := none }).post .driveFault := by
  have faulty : (faultAfter (f.chan c) outcome).isSome = true := Option.isSome_iff_ne_none.mpr fault
  simp [completePosting, Channel.afterPosting, pulled, faulty, enterFault, modChan]

theorem completePosting_seated (pulled : (f.chan c).removed = true) (sane : faultAfter (f.chan c) outcome = none)
    (seated : (f.drive c).seated = true) : f.completePosting c outcome =
      { f.setChan c { (f.chan c).afterPosting outcome with state := .loaded } with
        waiting := f.waiting ++ [c], evalDue := true } := by
  simp [completePosting, Channel.afterPosting, pulled, sane, seated, enterLoaded, modChan]

theorem completePosting_empty (pulled : (f.chan c).removed = true) (sane : faultAfter (f.chan c) outcome = none)
    (empty : (f.drive c).seated = false) : f.completePosting c outcome =
      f.setChan c { (f.chan c).afterPosting outcome with state := .empty } := by
  simp [completePosting, Channel.afterPosting, pulled, sane, empty]

/-- What becomes of a channel whose record is taken: four cases (R117). -/
theorem completePosting_cases {P : Floor → Prop} (f : Floor) (c : Chan) (outcome : DiskOutcome)
    (held : (f.chan c).removed = false →
      P ((f.setChan c { (f.chan c).afterPosting outcome with state := .unloading }).modDrive c
        fun d => d.startUnload outcome.bin))
    (faulty : (f.chan c).removed = true → faultAfter (f.chan c) outcome ≠ none →
      P ((f.setChan c { (f.chan c).afterPosting outcome with
        state := .fault, motor := false, dir := false, stepOut := false, side := false, wgate := false
        wdata := none }).post .driveFault))
    (seated : (f.chan c).removed = true → faultAfter (f.chan c) outcome = none → (f.drive c).seated = true →
      P { f.setChan c { (f.chan c).afterPosting outcome with state := .loaded } with
        waiting := f.waiting ++ [c], evalDue := true })
    (empty : (f.chan c).removed = true → faultAfter (f.chan c) outcome = none → (f.drive c).seated = false →
      P (f.setChan c { (f.chan c).afterPosting outcome with state := .empty })) :
    P (f.completePosting c outcome) := by
  cases removed : (f.chan c).removed with
  | false =>
    rw [completePosting_held removed]
    exact held removed
  | true =>
    by_cases fault : faultAfter (f.chan c) outcome = none
    · cases seat : (f.drive c).seated with
      | true =>
        rw [completePosting_seated removed fault seat]
        exact seated removed fault seat
      | false =>
        rw [completePosting_empty removed fault seat]
        exact empty removed fault seat
    · rw [completePosting_faulty removed fault]
      exact faulty removed fault

theorem completePosting_frame (f : Floor) (c : Chan) (outcome : DiskOutcome) : f.completePosting c outcome =
    let t := f.completePosting c outcome
    { f with waiting := t.waiting, channels := t.channels, drives := t.drives, portA := t.portA, portB := t.portB
             evalDue := t.evalDue } := by
  refine f.completePosting_cases (P := fun t => t = { f with
    waiting := t.waiting, channels := t.channels, drives := t.drives, portA := t.portA, portB := t.portB
    evalDue := t.evalDue }) c outcome ?_ ?_ ?_ ?_ <;> intros <;> rfl

/-- No other channel and no other drive's lines change. -/
theorem completePosting_other (f : Floor) {c d : Chan} (outcome : DiskOutcome) (h : d ≠ c) :
    (f.completePosting c outcome).chan d = f.chan d ∧ (f.completePosting c outcome).drive d = f.drive d := by
  have set (x : Channel) : (f.setChan c x).chan d = f.chan d := f.chan_setChan_other c d x h
  refine f.completePosting_cases (P := fun t => t.chan d = f.chan d ∧ t.drive d = f.drive d) c outcome
    (fun _ => ⟨set _, drive_modDrive_other _ c d _ h⟩) (fun _ _ => ⟨set _, rfl⟩) (fun _ _ _ => ⟨set _, rfl⟩)
    fun _ _ _ => ⟨set _, rfl⟩

/-- A drive whose disk was pulled keeps its lines (R117). -/
theorem completePosting_drive_pulled (pulled : (f.chan c).removed = true) :
    (f.completePosting c outcome).drive c = f.drive c := by
  refine f.completePosting_cases (P := fun t => t.drive c = f.drive c) c outcome (fun held => ?_) (fun _ _ => rfl)
    (fun _ _ _ => rfl) fun _ _ _ => rfl
  rw [pulled] at held
  cases held

theorem completePosting_port (f : Floor) (c : Chan) (outcome : DiskOutcome) (p : PortId) :
    ∃ events, (f.completePosting c outcome).port p = { f.port p with events := events } ∧
      ∀ e, e ∈ events ↔ e ∈ (f.port p).events ∨
        (e = .driveFault ∧ (f.chan c).removed = true ∧ faultAfter (f.chan c) outcome ≠ none) := by
  refine f.completePosting_cases (P := fun t => ∃ events, t.port p = { f.port p with events := events } ∧
      ∀ e, e ∈ events ↔ e ∈ (f.port p).events ∨
        (e = .driveFault ∧ (f.chan c).removed = true ∧ faultAfter (f.chan c) outcome ≠ none)) c outcome
    (fun held => ⟨(f.port p).events, by cases p <;> rfl, fun e => by simp [held]⟩)
    (fun pulled fault => ⟨addEvent (f.port p).events .driveFault, ?_, fun e => by
      simp [mem_addEvent, pulled, fault, or_comm]⟩)
    (fun _ sane _ => ⟨(f.port p).events, by cases p <;> rfl, fun e => by simp [sane]⟩)
    fun _ sane _ => ⟨(f.port p).events, by cases p <;> rfl, fun e => by simp [sane]⟩
  rw [post_port]
  cases p <;> rfl

end Floor

/-! A record taken (R153). -/

namespace Floor

variable {f : Floor} {c : Chan} {body : RecordBody}

/-- The floor on which the ring has the record and its job has accounted it: the channel is as it stood. -/
def accounted (f : Floor) (c : Chan) (body : RecordBody) : Floor :=
  { f with ring := f.ring.append c body (f.chan c).elapsedNow }.accountJob body

theorem takeRecord_eq (f : Floor) (c : Chan) (body : RecordBody) : f.takeRecord c body =
    { ((f.accounted c body).completePosting c body.outcome).post .resultsWaiting with evalDue := true } := rfl

theorem accounted_frame (f : Floor) (c : Chan) (body : RecordBody) : f.accounted c body =
    { f with
      ring := f.ring.append c body (f.chan c).elapsedNow, jobs := (f.accounted c body).jobs
      portA := (f.accounted c body).portA, portB := (f.accounted c body).portB } :=
  accountJob_frame _ body

theorem accounted_chan (f : Floor) (c : Chan) (body : RecordBody) (d : Chan) :
    (f.accounted c body).chan d = f.chan d := chan_accountJob _ body d

theorem accounted_drive (f : Floor) (c : Chan) (body : RecordBody) (d : Chan) :
    (f.accounted c body).drive d = f.drive d := (congrArg (drive · d) (f.accounted_frame c body) :)

/-- Taking a record leaves the offers, the Layout Engine and the line, and makes an evaluation due. -/
theorem takeRecord_frame (f : Floor) (c : Chan) (body : RecordBody) : f.takeRecord c body =
    let t := f.takeRecord c body
    { f with
      ring := f.ring.append c body (f.chan c).elapsedNow, evalDue := true, jobs := t.jobs, waiting := t.waiting
      channels := t.channels, drives := t.drives, portA := t.portA, portB := t.portB } := by
  rw [takeRecord_eq, completePosting_frame, accounted_frame]
  rfl

theorem takeRecord_jobs (f : Floor) (c : Chan) (body : RecordBody) :
    (f.takeRecord c body).jobs = (f.accounted c body).jobs :=
  (congrArg Floor.jobs ((f.accounted c body).completePosting_frame c body.outcome) :)

theorem takeRecord_chan (f : Floor) (c : Chan) (body : RecordBody) (d : Chan) :
    (f.takeRecord c body).chan d = ((f.accounted c body).completePosting c body.outcome).chan d := rfl

theorem takeRecord_drive (f : Floor) (c : Chan) (body : RecordBody) (d : Chan) :
    (f.takeRecord c body).drive d = ((f.accounted c body).completePosting c body.outcome).drive d := rfl

theorem takeRecord_waiting (f : Floor) (c : Chan) (body : RecordBody) :
    (f.takeRecord c body).waiting = ((f.accounted c body).completePosting c body.outcome).waiting := rfl

theorem takeRecord_other (f : Floor) {c d : Chan} (body : RecordBody) (h : d ≠ c) :
    (f.takeRecord c body).chan d = f.chan d ∧ (f.takeRecord c body).drive d = f.drive d := by
  obtain ⟨chan, drive⟩ := (f.accounted c body).completePosting_other body.outcome h
  exact ⟨chan.trans (f.accounted_chan c body d), drive.trans (f.accounted_drive c body d)⟩

/-- A port's events are those it had, RESULTS_WAITING, and JOB_ENDED and DRIVE_FAULT where they occur; nothing else of
a port changes. -/
theorem takeRecord_port (f : Floor) (c : Chan) (body : RecordBody) (p : PortId) :
    ∃ events, (f.takeRecord c body).port p = { f.port p with events := events } ∧
      ∀ e, e ∈ events ↔ e ∈ (f.port p).events ∨ e = .resultsWaiting ∨ (e = .jobEnded ∧ f.endsJob body) ∨
        (e = .driveFault ∧ (f.chan c).removed = true ∧ faultAfter (f.chan c) body.outcome ≠ none) := by
  obtain ⟨fromJob, job, jobEvents⟩ :=
    accountJob_port { f with ring := f.ring.append c body (f.chan c).elapsedNow } body p
  obtain ⟨fromChannel, channel, channelEvents⟩ := (f.accounted c body).completePosting_port c body.outcome p
  have port : (f.accounted c body).port p = { f.port p with events := fromJob } :=
    job.trans (by cases p <;> rfl)
  refine ⟨addEvent fromChannel .resultsWaiting, ?_, fun e => ?_⟩
  · calc (f.takeRecord c body).port p
        = (((f.accounted c body).completePosting c body.outcome).post .resultsWaiting).port p := by cases p <;> rfl
      _ = _ := by rw [post_port, channel, port]
  · have before : e ∈ fromJob ↔ e ∈ (f.port p).events ∨ (e = .jobEnded ∧ f.endsJob body) :=
      (jobEvents e).trans (by cases p <;> rfl)
    rw [mem_addEvent, channelEvents, port, before, accounted_chan]
    tauto

/-! A record offered (R152, R154, R157). -/

theorem offer_room (record : (f.chan c).record = some body) (room : f.ring.records.length < 64) :
    f.offer c = f.takeRecord c body := by
  simp only [offer, record]
  exact if_pos room

theorem offer_full (record : (f.chan c).record = some body) (full : 64 ≤ f.ring.records.length) : f.offer c =
    if f.followed then { f with ring := { f.ring with waiters := f.ring.waiters ++ [c] } }
    else f.displace.takeRecord c body := by
  simp only [offer, record]
  exact if_neg (not_lt.mpr full)

theorem offer_nothing (nothing : (f.chan c).record = none) : f.offer c = f := by
  simp only [offer, nothing]

/-- Displacement makes room for the record at hand (R154). -/
theorem offer_displace (record : (f.chan c).record = some body) (full : f.ring.records.length = 64) :
    f.displace.offer c = f.displace.takeRecord c body := by
  have left : f.displace.ring.records = f.ring.records.tail := rfl
  exact offer_room (f := f.displace) record (by rw [left, List.length_tail, full]; decide)

/-- Sequence numbers run on, so the oldest number rises by one as the oldest record goes (R150). -/
theorem oldest_tail {r : Ring} {oldest : ResultRecord} {rest : List ResultRecord} (law : r.consecutive = true)
    (records : r.records = oldest :: rest) : ({ r with records := rest } : Ring).oldest = oldest.sequence + 1 := by
  have first : r.oldest = oldest.sequence := by rw [Ring.oldest, records]
  simp only [Ring.consecutive, Bool.and_eq_true, decide_eq_true_eq, first, records] at law
  obtain ⟨numbers, writePos⟩ := law
  cases rest with
  | nil => exact writePos
  | cons second rest =>
    simp only [List.length_cons, List.range_succ_eq_map, List.map_cons, List.map_map, List.cons.injEq] at numbers
    exact numbers.2.1

/-- A cursor is moved up by one record only from the record that goes (R156). -/
theorem moveUp_succ (x : PortContext) (free : x.follow = false) (old : Word32) : x.moveUp old (old + 1) =
    { x with resultCursor := if x.resultCursor = old then old + 1 else x.resultCursor } := by
  have one : (old + 1 - old).toNat = 1 := by rw [add_sub_cancel_left]; rfl
  have before : (x.resultCursor - old).toNat < (old + 1 - old).toNat ↔ x.resultCursor = old := by
    rw [one, Nat.lt_one_iff, ← BitVec.toNat_inj.trans sub_eq_zero]
    rfl
  have moved : (!x.follow && decide ((x.resultCursor - old).toNat < (old + 1 - old).toNat)) =
      decide (x.resultCursor = old) := by
    rw [free, Bool.not_false, Bool.true_and, decide_eq_decide]
    exact before
  rw [PortContext.moveUp, moved]
  by_cases same : x.resultCursor = old <;> simp [same]

theorem displace_eq {oldest : ResultRecord} {rest : List ResultRecord} (law : f.ring.consecutive = true)
    (records : f.ring.records = oldest :: rest) (freeA : f.portA.follow = false) (freeB : f.portB.follow = false) :
    let moved (x : PortContext) : PortContext := { x with
      events := addEvent x.events .resultsDropped
      resultCursor := if x.resultCursor = oldest.sequence then oldest.sequence + 1 else x.resultCursor }
    f.displace = { f with
      ring := { f.ring with records := rest, dropped := min 65535 (f.ring.dropped + 1) }
      portA := moved f.portA, portB := moved f.portB } := by
  have first : f.ring.oldest = oldest.sequence := by rw [Ring.oldest, records]
  have next := oldest_tail law records
  simp only [displace, keepRecords, post, records, List.tail_cons, first, next, moveUp_succ _ freeA,
    moveUp_succ _ freeB, satAdd]

end Floor

theorem Bin.line1_eq (bin : Bin) : bin.line1 = decide (bin = .reject ∨ bin = .hold) := by cases bin <;> rfl

theorem Bin.line0_eq (bin : Bin) : bin.line0 = decide (bin = .accept ∨ bin = .hold) := by cases bin <;> rfl

theorem Floor.followed_iff (f : Floor) : f.followed = true ↔ f.portA.follow = true ∨ f.portB.follow = true := by
  rw [followed, Bool.or_eq_true]

/-- Settles O57: a record taken by the lemmas of `Floor.takeRecord` and the four cases of its channel, one displaced by
`Floor.displace_eq`. -/
theorem theRingTakesOrHoldsARecord : Obligations.TheRingTakesOrHoldsARecord := by
  unfold Obligations.TheRingTakesOrHoldsARecord
  refine ⟨fun f c body record => ?_, fun f oldest rest law records freeA freeB => ?_⟩
  · intro x t taken left count fault bin cleared d
    refine ⟨fun room => ?_, fun full followed => ?_, fun full freeA freeB => ?_⟩
    · have take : t = f.takeRecord c body := Floor.offer_room record room
      have frame := f.takeRecord_frame c body
      have counted : failCountAfter body.outcome x.failCount = count := failCountAfter_eq _ _
      have faulted : faultAfter x body.outcome = fault := by rw [faultAfter_eq, counted]
      have binned : body.outcome.bin = bin := by cases h : body.outcome <;> simp only [bin, h] <;> rfl
      have posted : x.afterPosting body.outcome = { x with
          failCount := count, fault := fault, bin := if x.removed then .none else bin, disk := none
          record := none } := by
        rw [Channel.afterPosting, counted, faulted, binned]
      have chan : (f.accounted c body).chan c = x := f.accounted_chan c body c
      have drive : (f.accounted c body).drive c = d := f.accounted_drive c body c
      have waiting : (f.accounted c body).waiting = f.waiting := (congrArg Floor.waiting (f.accounted_frame c body) :)
      rw [take]
      refine ⟨(congrArg Floor.ring frame :), rfl, (congrArg Floor.offers frame :), (congrArg Floor.engine frame :),
        (congrArg Floor.line frame :), fun e p => ?_, fun p => ?_, fun distinct => ?_,
        fun d hd => f.takeRecord_other body hd, fun held => ?_, fun pulled => ?_⟩
      · obtain ⟨events, port, mem⟩ := f.takeRecord_port c body p
        rw [port, ← faulted]
        exact mem e
      · obtain ⟨events, port, -⟩ := f.takeRecord_port c body p
        rw [port]
        exact ⟨rfl, rfl⟩
      · rw [Floor.takeRecord_jobs]
        exact Floor.accountJob_jobs (f := { f with ring := f.ring.append c body (f.chan c).elapsedNow }) distinct body
      · rw [Floor.takeRecord_waiting, Floor.takeRecord_chan, Floor.takeRecord_drive,
          Floor.completePosting_held (chan ▸ held), chan, posted, if_neg (Bool.eq_false_iff.mp held)]
        refine ⟨waiting, Floor.chan_setChan_same _ c _, ?_⟩
        rw [Floor.drive_modDrive_same, DriveLines.startUnload, binned, Bin.line1_eq, Bin.line0_eq, ← drive]
        rfl
      · rw [Floor.takeRecord_waiting, Floor.takeRecord_chan, Floor.takeRecord_drive]
        have pulled' : ((f.accounted c body).chan c).removed = true := chan ▸ pulled
        have faulted' : faultAfter ((f.accounted c body).chan c) body.outcome = fault := chan ▸ faulted
        refine ⟨?_, fun faulty => ?_, fun sane seated => ?_, fun sane empty => ?_⟩
        · rw [Floor.completePosting_drive_pulled pulled', drive]
        · rw [Floor.completePosting_faulty pulled' (faulted' ▸ faulty), chan, posted, if_pos pulled]
          exact ⟨waiting, Floor.chan_setChan_same _ c _⟩
        · rw [Floor.completePosting_seated pulled' (faulted' ▸ sane) (drive ▸ seated), chan, posted,
            if_pos pulled, waiting]
          exact ⟨rfl, Floor.chan_setChan_same _ c _⟩
        · rw [Floor.completePosting_empty pulled' (faulted' ▸ sane) (drive ▸ empty), chan, posted, if_pos pulled]
          exact ⟨waiting, Floor.chan_setChan_same _ c _⟩
    · have full' := Floor.offer_full record full
      rw [if_pos (f.followed_iff.mpr followed)] at full'
      exact full'
    · have unfollowed : ¬f.followed = true := by simp [f.followed_iff, freeA, freeB]
      have full' := Floor.offer_full record full.ge
      rw [if_neg unfollowed, ← Floor.offer_displace record full] at full'
      exact full'
  · simp only [Floor.cursorLaw, Bool.and_eq_true] at law
    obtain ⟨⟨⟨-, consecutive⟩, -⟩, -⟩ := law
    exact Floor.displace_eq consecutive records freeA freeB

end Sys2Proof.Machine

/-! SUPPORT. Assignment (R76 to R81, R109): which jobs take a channel, what an assignment does to the floor, and what a
pass through the waiting list leaves. -/

namespace Sys2Proof.Machine

/-! The jobs that take a channel (R75, R77). -/

namespace Job

variable {b : Base} {x : Settings} {c : Chan} {j : Job}

theorem takes_iff : takes b x c j = true ↔ j.issuable = true ∧ j.drives.getLsbD c.val = true ∧
    ∃ o, (b.image j.slot).opening = some o ∧ o.heads ≤ x.heads ∧
      o.cylinders * b.maxMultiplier (b.image j.slot) ≤ x.cylinderLimit := by
  unfold takes canCarry
  cases (b.image j.slot).opening <;> simp [and_assoc]

/-- A disk issued never makes its job issuable (R75, R80). -/
theorem issuable_of_afterIssue (h : j.afterIssue.issuable = true) : j.issuable = true := by
  rw [issuable_iff] at h ⊢
  obtain ⟨state, room, few, numbers⟩ := h
  simp only [afterIssue] at state room few numbers
  refine ⟨state, by omega, by omega, fun st serial => ?_⟩
  cases reclaim : st.reclaim with
  | cons r rest => exact .inl (List.cons_ne_nil r rest)
  | nil =>
    have left := numbers st.draw.2 (by rw [serial]; rfl)
    simp only [SerialState.draw, reclaim, ne_eq, not_true_eq_false, false_or] at left
    exact .inr (by omega)

theorem takes_of_afterIssue (h : takes b x c j.afterIssue = true) : takes b x c j = true := by
  rw [takes_iff] at h ⊢
  exact ⟨issuable_of_afterIssue h.1, h.2⟩

theorem verifiesNext_iff : j.verifiesNext = true ↔
    j.verifyEvery ≠ 0 ∧ (j.afterIssue.issued - 1) % j.verifyEvery = 0 := by
  simp [verifiesNext, afterIssue]

end Job

/-! One assignment (R80, R109). -/

namespace Floor

variable {b : Base} {f : Floor} {c : Chan} {j : Job}

/-- The channel of an assignment enters SPINUP. -/
theorem assign_free (free : b.wprot.getLsbD c.val = false) : f.assign b c j =
    { f.setChan c (({ f.chan c with removed := false, disk := some (newDisk b j) } : Channel).startSpinup false) with
      jobs := putIn j.afterIssue f.jobs, waiting := f.waiting.filter fun d => decide (d ≠ c) } := by
  simp only [assign, startDisk, free, Bool.false_eq_true, if_false, modChan, chan_setChan_same, setChan_setChan]
  rfl

/-- The channel of an assignment finds its disk write-protected and posts it. -/
theorem assign_protected (wprot : b.wprot.getLsbD c.val = true) : f.assign b c j =
    { f.setChan c (({ f.chan c with
        removed := false, disk := some ((newDisk b j).takeEvent true .writeProtected none) } : Channel).toPosting c .fail)
      with
      jobs := putIn j.afterIssue f.jobs, waiting := f.waiting.filter fun d => decide (d ≠ c)
      offers := f.offers ++ [c]
      burst := f.burst.map fun w => if BurstWork.isFetchOf c w.work then { w with live := false } else w } := by
  simp only [assign, startDisk, wprot, if_true, modChan, chan_setChan_same, setChan_setChan, enterPosting,
    orphanBurst_eq]
  rfl

/-- An assignment changes its channel, the jobs, the waiting list, the offers and the burst in progress. -/
theorem assign_frame (b : Base) (f : Floor) (c : Chan) (j : Job) : f.assign b c j =
    { f with
      jobs := putIn j.afterIssue f.jobs, waiting := f.waiting.filter fun d => decide (d ≠ c)
      channels := (f.assign b c j).channels, offers := (f.assign b c j).offers, burst := (f.assign b c j).burst } := by
  cases wprot : b.wprot.getLsbD c.val with
  | false =>
    rw [assign_free wprot]
    rfl
  | true =>
    rw [assign_protected wprot]
    rfl

theorem assign_other (b : Base) (f : Floor) {c d : Chan} (j : Job) (h : d ≠ c) :
    (f.assign b c j).chan d = f.chan d := by
  cases wprot : b.wprot.getLsbD c.val with
  | false =>
    rw [assign_free wprot]
    exact f.chan_setChan_other c d _ h
  | true =>
    rw [assign_protected wprot]
    exact f.chan_setChan_other c d _ h

/-- The channel of an assignment has a disk that was not pulled, in SPINUP or in POSTING. -/
theorem assign_own (b : Base) (f : Floor) (c : Chan) (j : Job) :
    ((f.assign b c j).chan c).removed = false ∧ ((f.assign b c j).chan c).settings = (f.chan c).settings ∧
      ((f.assign b c j).chan c).frozen = (f.chan c).frozen := by
  cases wprot : b.wprot.getLsbD c.val with
  | false =>
    have own := (congrArg (chan · c) (assign_free (f := f) (j := j) wprot) :).trans (f.chan_setChan_same c _)
    rw [own]
    exact ⟨rfl, rfl, rfl⟩
  | true =>
    have own := (congrArg (chan · c) (assign_protected (f := f) (j := j) wprot) :).trans (f.chan_setChan_same c _)
    rw [own]
    exact ⟨rfl, rfl, rfl⟩

/-! One channel of an evaluation (R77, R78). -/

theorem consider_passed_over (h : (f.chan c).frozen = true ∨ f.lineHeld = true ∨
    ∀ j ∈ f.jobs, Job.takes b (f.chan c).settings c j = false) : consider b f c = f := by
  unfold consider eligible
  rcases h with frozen | held | refused
  · simp [frozen]
  · simp [held]
  · have none : f.jobs.find? (Job.takes b (f.chan c).settings c) = none :=
      List.find?_eq_none.mpr fun j hj => by simp [refused j hj]
    simp [none]

/-- The first job in queue order that takes the channel has it. -/
theorem consider_first {front back : List Job} (free : (f.chan c).frozen = false) (line : f.lineHeld = false)
    (jobs : f.jobs = front ++ j :: back) (refused : ∀ q ∈ front, Job.takes b (f.chan c).settings c q = false)
    (takes : Job.takes b (f.chan c).settings c j = true) : consider b f c = f.assign b c j := by
  have first : f.jobs.find? (Job.takes b (f.chan c).settings c) = some j := by
    rw [jobs, List.find?_append, List.find?_eq_none.mpr fun q hq => by simp [refused q hq]]
    simp [takes]
  simp [consider, eligible, free, line, first]

/-- A channel considered is passed over, or a job of the queue that takes it has it. -/
theorem consider_cases (b : Base) (f : Floor) (c : Chan) :
    (consider b f c = f ∧ ((f.chan c).frozen = false → f.lineHeld = false →
      ∀ j ∈ f.jobs, Job.takes b (f.chan c).settings c j = false)) ∨
    ∃ j ∈ f.jobs, Job.takes b (f.chan c).settings c j = true ∧ consider b f c = f.assign b c j := by
  unfold consider eligible
  by_cases can : (!(f.chan c).frozen && !f.lineHeld) = true
  · rw [if_pos can]
    cases first : f.jobs.find? (Job.takes b (f.chan c).settings c) with
    | none => exact .inl ⟨rfl, fun _ _ j hj => by simpa using List.find?_eq_none.mp first j hj⟩
    | some j => exact .inr ⟨j, List.mem_of_find?_eq_some first, List.find?_some first, rfl⟩
  · rw [if_neg can]
    exact .inl ⟨rfl, fun free line => absurd (by simp [free, line]) can⟩

/-! One pass through the waiting list (R78). -/

/-- A floor comes of another by assignments alone: the line, the settings and the frozen flags stand, the waiting list
at most loses channels, and no job takes a channel that none took before. -/
structure Assigned (b : Base) (f g : Floor) : Prop where
  line : g.lineHeld = f.lineHeld
  settings : ∀ d, (g.chan d).settings = (f.chan d).settings
  frozen : ∀ d, (g.chan d).frozen = (f.chan d).frozen
  waiting : ∀ d ∈ g.waiting, d ∈ f.waiting
  ids : g.jobs.map (·.id) = f.jobs.map (·.id)
  refused : (f.jobs.map (·.id)).Nodup → ∀ x d, (∀ j ∈ f.jobs, Job.takes b x d j = false) →
    ∀ j ∈ g.jobs, Job.takes b x d j = false

theorem Assigned.refl (b : Base) (f : Floor) : f.Assigned b f where
  line := rfl
  settings _ := rfl
  frozen _ := rfl
  waiting _ h := h
  ids := rfl
  refused _ _ _ h := h

theorem Assigned.trans {g h : Floor} (fg : f.Assigned b g) (gh : g.Assigned b h) : f.Assigned b h where
  line := gh.line.trans fg.line
  settings d := (gh.settings d).trans (fg.settings d)
  frozen d := (gh.frozen d).trans (fg.frozen d)
  waiting d hd := fg.waiting d (gh.waiting d hd)
  ids := gh.ids.trans fg.ids
  refused distinct x d none := gh.refused (fg.ids ▸ distinct) x d (fg.refused distinct x d none)

theorem assigned_assign (mem : j ∈ f.jobs) : f.Assigned b (f.assign b c j) := by
  have frame := f.assign_frame b c j
  have jobs : (f.assign b c j).jobs = putIn j.afterIssue f.jobs := (congrArg Floor.jobs frame :)
  have waiting : (f.assign b c j).waiting = f.waiting.filter fun d => decide (d ≠ c) :=
    (congrArg Floor.waiting frame :)
  obtain ⟨-, settings, frozen⟩ := f.assign_own b c j
  refine ⟨(congrArg lineHeld frame :), fun d => ?_, fun d => ?_, fun d hd => ?_, ?_, fun distinct x d none k hk => ?_⟩
  · by_cases own : d = c
    · rw [own, settings]
    · rw [f.assign_other b j own]
  · by_cases own : d = c
    · rw [own, frozen]
    · rw [f.assign_other b j own]
  · rw [waiting] at hd
    exact List.mem_of_mem_filter hd
  · rw [jobs, putIn_ids]
  · rw [jobs] at hk
    rcases mem_putIn hk with rfl | ⟨old, -⟩
    · exact Bool.eq_false_iff.mpr fun takes =>
        Bool.eq_false_iff.mp (none j mem) (Job.takes_of_afterIssue takes)
    · exact none k old

theorem assigned_consider (b : Base) (f : Floor) (c : Chan) : f.Assigned b (consider b f c) := by
  obtain ⟨eq, -⟩ | ⟨j, mem, -, eq⟩ := consider_cases b f c
  · rw [eq]
    exact .refl b f
  · rw [eq]
    exact assigned_assign mem

theorem assigned_pass (b : Base) (f : Floor) (l : List Chan) : f.Assigned b (l.foldl (consider b) f) := by
  induction l generalizing f with
  | nil => exact .refl b f
  | cons c rest ih => exact (assigned_consider b f c).trans (ih _)

/-- Just considered, an eligible channel that still waits is one that no job takes. -/
theorem consider_exhausts (free : (f.chan c).frozen = false) (line : f.lineHeld = false)
    (waits : c ∈ (consider b f c).waiting) :
    ∀ j ∈ (consider b f c).jobs, Job.takes b (f.chan c).settings c j = false := by
  obtain ⟨eq, refused⟩ | ⟨j, -, -, eq⟩ := consider_cases b f c
  · rw [eq]
    exact refused free line
  · rw [eq, (congrArg Floor.waiting (f.assign_frame b c j) :)] at waits
    exact absurd rfl (of_decide_eq_true (List.mem_filter.mp waits).2)

/-- After a pass no eligible channel of its list waits that a job takes. -/
theorem pass_exhausts (l : List Chan) (distinct : (f.jobs.map (·.id)).Nodup) (line : f.lineHeld = false) :
    let t := l.foldl (consider b) f
    ∀ c ∈ l, c ∈ t.waiting → (t.chan c).frozen = false → ∀ j ∈ t.jobs, Job.takes b (t.chan c).settings c j = false := by
  induction l generalizing f with
  | nil => exact fun c hc => absurd hc List.not_mem_nil
  | cons d rest ih =>
    intro t c hc waits free
    have first := assigned_consider b f d
    have later : (consider b f d).Assigned b t := assigned_pass b _ rest
    have distinct' : ((consider b f d).jobs.map (·.id)).Nodup := first.ids ▸ distinct
    by_cases own : c = d
    · subst own
      have all := first.trans later
      rw [all.settings]
      exact later.refused distinct' _ _
        (consider_exhausts (all.frozen c ▸ free) line (later.waiting c waits))
    · exact ih distinct' (first.line.trans line) c ((List.mem_cons.mp hc).resolve_left own) waits free

/-- While the line is held no channel is eligible (R77). -/
theorem pass_held (l : List Chan) (held : f.lineHeld = true) : l.foldl (consider b) f = f := by
  induction l with
  | nil => rfl
  | cons c rest ih => rw [List.foldl_cons, consider_passed_over (.inr (.inl held)), ih]

end Floor

/-- Settles O41: the pass by `Floor.pass_exhausts`, an assignment by its two outcomes. -/
theorem anEvaluationIssuesDisks : Obligations.AnEvaluationIssuesDisks := by
  unfold Obligations.AnEvaluationIssuesDisks
  refine ⟨fun b f => ⟨rfl, fun held => ?_, fun distinct => ?_⟩,
    fun b f c => ⟨Floor.consider_passed_over, fun front j back free line jobs refused takes => ?_⟩,
    fun b j => ?_, fun b x c j => ?_⟩
  · exact Floor.pass_held (f := { f with evalDue := false }) f.waiting held
  · intro t line c waits free
    have pass : Floor.Assigned b { f with evalDue := false } t := Floor.assigned_pass b _ f.waiting
    exact Floor.pass_exhausts (f := { f with evalDue := false }) f.waiting distinct (pass.line.symm.trans line) c
      (pass.waiting c waits) waits free
  · intro t k
    have assigned : t = f.assign b c j := Floor.consider_first free line jobs refused takes
    have frame := f.assign_frame b c j
    rw [assigned]
    refine ⟨?_, (congrArg Floor.waiting frame :), fun d hd => f.assign_other b j hd, (congrArg Floor.ring frame :),
      (congrArg Floor.portA frame :), (congrArg Floor.portB frame :), (congrArg Floor.engine frame :),
      (congrArg Floor.drives frame :), (congrArg Floor.line frame :), (congrArg Floor.evalDue frame :),
      fun unprotected => ?_, fun wprot => ?_⟩
    · rw [(congrArg Floor.jobs frame :)]
      simp [putIn, Job.afterIssue]
    · rw [Floor.assign_free unprotected]
      exact ⟨rfl, f.chan_setChan_same c _⟩
    · rw [Floor.assign_protected wprot]
      exact ⟨rfl, f.chan_setChan_same c _⟩
  · exact ⟨Job.verifiesNext_iff, rfl, rfl, rfl, rfl, rfl, rfl, rfl, rfl, rfl, rfl, rfl, rfl, rfl, rfl, rfl⟩
  · intro im
    rw [Job.takes_iff, Job.issuable_iff]

end Sys2Proof.Machine

/-! SUPPORT. What a step makes due (R79, R152, R158, R169, R170): the line's update, one thing due after another, and why
sixty-four rounds are enough (entry 21). -/

namespace Sys2Proof.Machine

namespace Floor

variable {b : Base} {f : Floor} {c : Chan}

/-! The line (R158, R169, R170). -/

/-- The level of LINE HOLD once the internal contribution follows the waiter list. -/
def levelDue (f : Floor) : Bool :=
  f.portA.lineHold || f.portB.lineHold || !f.ring.waiters.isEmpty || f.line.handler

/-- No change of the line is left to take. -/
def lineQuiet (f : Floor) : Prop := f.line.recorded = f.lineHeld ∧ f.line.internal = !f.ring.waiters.isEmpty

theorem updateLine_stands (same : f.levelDue = f.line.recorded) :
    f.updateLine = { f with line := { f.line with internal := !f.ring.waiters.isEmpty } } := if_pos same

theorem updateLine_changes (change : f.levelDue ≠ f.line.recorded) : f.updateLine = { f with
    line := { f.line with internal := !f.ring.waiters.isEmpty, recorded := f.levelDue }
    evalDue := f.evalDue || !f.levelDue
    portA := { f.portA with events := addEvent f.portA.events .lineChanged }
    portB := { f.portB with events := addEvent f.portB.events .lineChanged } } := by
  have level : ({ f with line := { f.line with internal := !f.ring.waiters.isEmpty } } : Floor).lineHeld = f.levelDue :=
    rfl
  simp only [updateLine, level, if_neg change]
  cases f.levelDue <;> simp [post]

theorem updateLine_of_lineQuiet (quiet : f.lineQuiet) : f.updateLine = f := by
  obtain ⟨recorded, internal⟩ := quiet
  have level : f.levelDue = f.line.recorded := by rw [recorded, levelDue, ← internal]; rfl
  rw [updateLine_stands level, ← internal]

theorem lineQuiet_updateLine (f : Floor) : f.updateLine.lineQuiet := f.updateLine_spec

/-- The line's update touches neither the channels nor what waits for them. -/
theorem updateLine_frame (f : Floor) : f.updateLine =
    let t := f.updateLine
    { f with line := t.line, evalDue := t.evalDue, portA := t.portA, portB := t.portB } := by
  by_cases same : f.levelDue = f.line.recorded
  · rw [updateLine_stands same]
  · rw [updateLine_changes same]

@[simp] theorem updateLine_offers (f : Floor) : f.updateLine.offers = f.offers :=
  (congrArg Floor.offers f.updateLine_frame :)

/-- Only a line that comes free makes an evaluation due (R170). -/
theorem updateLine_evalDue_of_held (held : f.levelDue = true) : f.updateLine.evalDue = f.evalDue := by
  by_cases same : f.levelDue = f.line.recorded
  · rw [updateLine_stands same]
  · rw [updateLine_changes same]
    simp [held]

theorem updateLine_evalDue_of_due (due : f.evalDue = true) : f.updateLine.evalDue = true := by
  by_cases same : f.levelDue = f.line.recorded
  · rw [updateLine_stands same]
    exact due
  · rw [updateLine_changes same]
    simp [due]

/-! Evaluations and offers. -/

theorem consider_frame (b : Base) (f : Floor) (c : Chan) : consider b f c =
    let t := consider b f c
    { f with jobs := t.jobs, waiting := t.waiting, channels := t.channels, offers := t.offers, burst := t.burst } := by
  obtain ⟨eq, -⟩ | ⟨j, -, -, eq⟩ := consider_cases b f c
  · rw [eq]
  · rw [eq, assign_frame]

theorem pass_frame (b : Base) (l : List Chan) (f : Floor) : l.foldl (consider b) f =
    let t := l.foldl (consider b) f
    { f with jobs := t.jobs, waiting := t.waiting, channels := t.channels, offers := t.offers, burst := t.burst } := by
  induction l generalizing f with
  | nil => rfl
  | cons c rest ih => rw [List.foldl_cons, ih, consider_frame]

theorem evaluate_evalDue (b : Base) (f : Floor) : (f.evaluate b).evalDue = false :=
  (congrArg Floor.evalDue (pass_frame b f.waiting { f with evalDue := false }) :)

/-- An evaluation does not touch the line (R78). -/
theorem lineQuiet_evaluate (b : Base) (quiet : f.lineQuiet) : (f.evaluate b).lineQuiet :=
  (congrArg lineQuiet (pass_frame b f.waiting { f with evalDue := false }) :).mpr quiet

/-- A channel that offers its record has none, waits, or has it taken; what makes room for it touches neither the
channels nor what waits for them. -/
theorem offer_cases (f : Floor) (c : Chan) : f.offer c = f ∨
    f.offer c = { f with ring := { f.ring with waiters := f.ring.waiters ++ [c] } } ∨
    ∃ (g : Floor) (body : RecordBody), g.channels = f.channels ∧ g.waiting = f.waiting ∧ g.offers = f.offers ∧
      (g.chan c).record = some body ∧ f.offer c = g.takeRecord c body := by
  cases record : (f.chan c).record with
  | none => exact .inl (offer_nothing record)
  | some body =>
    by_cases room : f.ring.records.length < 64
    · exact .inr (.inr ⟨f, body, rfl, rfl, rfl, record, offer_room record room⟩)
    · have full := offer_full record (not_lt.mp room)
      by_cases followed : f.followed = true
      · rw [if_pos followed] at full
        exact .inr (.inl full)
      · rw [if_neg followed] at full
        exact .inr (.inr ⟨f.displace, body, rfl, rfl, rfl, record, full⟩)

theorem offer_offers (f : Floor) (c : Chan) : (f.offer c).offers = f.offers := by
  obtain eq | eq | ⟨g, body, -, -, offers, -, eq⟩ := f.offer_cases c
  · rw [eq]
  · rw [eq]
  · rw [eq, (congrArg Floor.offers (g.takeRecord_frame c body) :)]
    exact offers

/-- Where an offer makes no evaluation due, neither does the line after it: at most one channel more waits. -/
theorem updateLine_offer_evalDue (quiet : f.lineQuiet) (notDue : (f.offer c).evalDue = false) :
    (f.offer c).updateLine.evalDue = false := by
  obtain eq | eq | ⟨g, body, -, -, -, -, eq⟩ := f.offer_cases c
  · rw [eq] at notDue ⊢
    rw [updateLine_of_lineQuiet quiet]
    exact notDue
  · rw [eq] at notDue ⊢
    rw [updateLine_evalDue_of_held (by simp [levelDue])]
    exact notDue
  · rw [eq] at notDue
    exact absurd notDue (by simp [takeRecord])

/-! The rounds of settling. -/

theorem settleLoop_stop (n : Nat) (notDue : f.updateLine.evalDue = false) (none : f.offers = []) :
    settleLoop b n f = f.updateLine := by
  cases n with
  | zero => rfl
  | succ n => simp [settleLoop, notDue, none]

theorem settleLoop_evaluate (n : Nat) (due : f.updateLine.evalDue = true) :
    settleLoop b (n + 1) f = settleLoop b n (f.updateLine.evaluate b) := by
  simp [settleLoop, settleOne, due]

theorem settleLoop_offer (n : Nat) {rest : List Chan} (notDue : f.updateLine.evalDue = false)
    (offers : f.offers = c :: rest) :
    settleLoop b (n + 1) f = settleLoop b n ({ f.updateLine with offers := rest }.offer c) := by
  simp [settleLoop, settleOne, notDue, offers]

theorem settleLoop_idle (n : Nat) (line : f.lineQuiet) (notDue : f.evalDue = false) (none : f.offers = []) :
    settleLoop b n f = f := by
  have same := updateLine_of_lineQuiet line
  rw [settleLoop_stop n (same.symm ▸ notDue) none, same]

/-- An evaluation that offers no record is the last thing due. -/
theorem settleLoop_evaluate_last (n : Nat) (due : f.updateLine.evalDue = true)
    (none : (f.updateLine.evaluate b).offers = []) : settleLoop b (n + 1) f = f.updateLine.evaluate b := by
  rw [settleLoop_evaluate n due]
  exact settleLoop_idle n (lineQuiet_evaluate b f.lineQuiet_updateLine) (f.updateLine.evaluate_evalDue b) none

theorem settle_offer_one {b : Base} (offers : f.offers = [c]) (notDue : f.updateLine.evalDue = false) :
    let g := { f.updateLine with offers := [] }.offer c
    (g.evalDue = false → f.settle b = g.updateLine) ∧
      (g.evalDue = true → (g.updateLine.evaluate b).offers = [] → f.settle b = g.updateLine.evaluate b) := by
  intro g
  have first : f.settle b = settleLoop b 63 g := settleLoop_offer 63 notDue offers
  have none : g.offers = [] := offer_offers _ c
  refine ⟨fun taken => ?_, fun due last => ?_⟩
  · rw [first]
    exact settleLoop_stop 63 (updateLine_offer_evalDue (f := { f.updateLine with offers := [] })
      f.lineQuiet_updateLine taken) none
  · rw [first]
    exact settleLoop_evaluate_last 62 (updateLine_evalDue_of_due due) last

/-! Why the rounds end: each round that offers a record spends an offer, each that evaluates spends the evaluation due,
and an evaluation adds an offer only for a channel that it takes out of those still to be assigned. -/

/-- The channels that an evaluation may yet assign within the step: those that wait, and those that may come to wait
because their disk was pulled (R117). -/
def assignable (f : Floor) : Finset Chan := {c | c ∈ f.waiting ∨ (f.chan c).removed = true}

/-- How many rounds what is due can take. -/
def debt (f : Floor) : Nat := 2 * (f.offers.length + f.assignable.card) + if f.evalDue then 1 else 0

/-- The waiting list names channels without a record to post, each once. -/
structure Orderly (f : Floor) : Prop where
  once : f.waiting.Nodup
  none : ∀ c ∈ f.waiting, (f.chan c).record = Option.none

theorem mem_assignable : c ∈ f.assignable ↔ c ∈ f.waiting ∨ (f.chan c).removed = true := by
  simp [assignable]

/-- An assignment leaves one channel fewer to assign and at most one offer more. -/
theorem assign_debt {j : Job} (orderly : f.Orderly) (waits : c ∈ f.waiting) : (f.assign b c j).Orderly ∧
    (f.assign b c j).offers.length + (f.assign b c j).assignable.card ≤ f.offers.length + f.assignable.card := by
  have waiting : (f.assign b c j).waiting = f.waiting.filter fun d => decide (d ≠ c) :=
    (congrArg Floor.waiting (f.assign_frame b c j) :)
  have stays {d : Chan} (hd : d ∈ (f.assign b c j).waiting) : d ∈ f.waiting ∧ d ≠ c := by
    rw [waiting, List.mem_filter] at hd
    exact ⟨hd.1, of_decide_eq_true hd.2⟩
  refine ⟨⟨waiting ▸ orderly.once.filter _, fun d hd => ?_⟩, ?_⟩
  · rw [f.assign_other b j (stays hd).2]
    exact orderly.none d (stays hd).1
  · have fewer : (f.assign b c j).assignable ⊆ f.assignable.erase c := fun d hd => by
      rw [Finset.mem_erase, mem_assignable]
      rcases mem_assignable.mp hd with hd | hd
      · exact ⟨(stays hd).2, .inl (stays hd).1⟩
      · by_cases own : d = c
        · rw [own, (f.assign_own b c j).1] at hd
          cases hd
        · exact ⟨own, .inr (f.assign_other b j own ▸ hd)⟩
    have cards := Finset.card_le_card fewer
    rw [Finset.card_erase_of_mem (mem_assignable.mpr (.inl waits))] at cards
    have some : 0 < f.assignable.card := Finset.card_pos.mpr ⟨c, mem_assignable.mpr (.inl waits)⟩
    have offers : (f.assign b c j).offers.length ≤ f.offers.length + 1 := by
      cases wprot : b.wprot.getLsbD c.val with
      | false => rw [assign_free wprot]; exact Nat.le_succ _
      | true => rw [assign_protected wprot]; simp
    omega

theorem pass_debt (l : List Chan) (orderly : f.Orderly) (distinct : l.Nodup) (waits : ∀ c ∈ l, c ∈ f.waiting) :
    let t := l.foldl (consider b) f
    t.Orderly ∧ t.offers.length + t.assignable.card ≤ f.offers.length + f.assignable.card := by
  induction l generalizing f with
  | nil => exact ⟨orderly, le_rfl⟩
  | cons c rest ih =>
    obtain ⟨new, distinct⟩ := List.nodup_cons.mp distinct
    obtain ⟨eq, -⟩ | ⟨j, -, -, eq⟩ := consider_cases b f c
    · rw [List.foldl_cons, eq]
      exact ih orderly distinct fun d hd => waits d (List.mem_cons_of_mem c hd)
    · obtain ⟨orderly', less⟩ := assign_debt (b := b) (j := j) orderly (waits c List.mem_cons_self)
      rw [List.foldl_cons, eq]
      refine (ih orderly' distinct fun d hd => ?_).imp_right (le_trans · less)
      rw [(congrArg Floor.waiting (f.assign_frame b c j) :), List.mem_filter]
      exact ⟨waits d (List.mem_cons_of_mem c hd), decide_eq_true (ne_of_mem_of_not_mem hd new)⟩

/-- An evaluation spends the one that was due. -/
theorem evaluate_debt (orderly : f.Orderly) (due : f.evalDue = true) :
    (f.evaluate b).Orderly ∧ (f.evaluate b).debt < f.debt := by
  obtain ⟨orderly', less⟩ := pass_debt (b := b) (f := { f with evalDue := false }) f.waiting
    ⟨orderly.once, orderly.none⟩ orderly.once fun _ h => h
  refine ⟨orderly', ?_⟩
  have less' : (f.evaluate b).offers.length + (f.evaluate b).assignable.card ≤
      f.offers.length + f.assignable.card := less
  simp only [debt, f.evaluate_evalDue b, due, Bool.false_eq_true, if_false, if_true]
  omega

/-- A channel whose record is taken has none left, and comes to wait only where its disk was pulled (R117). -/
theorem completePosting_own (f : Floor) (c : Chan) (outcome : DiskOutcome) :
    let t := f.completePosting c outcome
    ((t.chan c).removed = (f.chan c).removed ∧ (t.chan c).record = none) ∧
      (t.waiting = f.waiting ∨ (f.chan c).removed = true ∧ t.waiting = f.waiting ++ [c]) := by
  have set (x : Channel) (removed : x.removed = (f.chan c).removed) (record : x.record = none) :
      ((f.setChan c x).chan c).removed = (f.chan c).removed ∧ ((f.setChan c x).chan c).record = none := by
    rw [chan_setChan_same]
    exact ⟨removed, record⟩
  exact f.completePosting_cases (P := fun t => ((t.chan c).removed = (f.chan c).removed ∧ (t.chan c).record = none) ∧
      (t.waiting = f.waiting ∨ (f.chan c).removed = true ∧ t.waiting = f.waiting ++ [c])) c outcome
    (fun _ => ⟨set _ rfl rfl, .inl rfl⟩) (fun _ _ => ⟨set _ rfl rfl, .inl rfl⟩)
    (fun pulled _ _ => ⟨set _ rfl rfl, .inr ⟨pulled, rfl⟩⟩) fun _ _ _ => ⟨set _ rfl rfl, .inl rfl⟩

theorem takeRecord_own (f : Floor) (c : Chan) (body : RecordBody) :
    let t := f.takeRecord c body
    ((t.chan c).removed = (f.chan c).removed ∧ (t.chan c).record = none) ∧
      (t.waiting = f.waiting ∨ (f.chan c).removed = true ∧ t.waiting = f.waiting ++ [c]) := by
  have waiting : (f.accounted c body).waiting = f.waiting := (congrArg Floor.waiting (f.accounted_frame c body) :)
  rw [← waiting, ← f.accounted_chan c body c]
  exact (f.accounted c body).completePosting_own c body.outcome

/-- An offer leaves the channels to assign as they were. -/
theorem offer_debt (orderly : f.Orderly) (c : Chan) :
    (f.offer c).Orderly ∧ (f.offer c).assignable ⊆ f.assignable := by
  obtain eq | eq | ⟨g, body, channels, waiting, -, record, eq⟩ := f.offer_cases c
  · rw [eq]
    exact ⟨orderly, subset_rfl⟩
  · rw [eq]
    exact ⟨⟨orderly.once, orderly.none⟩, subset_rfl⟩
  · have chan (d : Chan) : g.chan d = f.chan d := congrArg (fun v : Vector Channel 8 => v[d]) channels
    have new : c ∉ f.waiting := fun waits => by
      rw [chan, orderly.none c waits] at record
      cases record
    obtain ⟨⟨removed, taken⟩, list⟩ := g.takeRecord_own c body
    have other {d : Chan} (hd : d ≠ c) : (g.takeRecord c body).chan d = f.chan d :=
      (g.takeRecord_other body hd).1.trans (chan d)
    rw [chan] at removed list
    rw [waiting] at list
    have waits {d : Chan} (hd : d ∈ (g.takeRecord c body).waiting) :
        d ∈ f.waiting ∨ d = c ∧ (f.chan c).removed = true := by
      rcases list with same | ⟨pulled, joined⟩
      · exact .inl (same ▸ hd)
      · rw [joined, List.mem_append, List.mem_singleton] at hd
        exact hd.imp_right fun own => ⟨own, pulled⟩
    rw [eq]
    refine ⟨⟨?_, fun d hd => ?_⟩, fun d hd => ?_⟩
    · rcases list with same | ⟨-, joined⟩
      · rw [same]
        exact orderly.once
      · rw [joined, ← List.concat_eq_append]
        exact orderly.once.concat new
    · by_cases own : d = c
      · rw [own, taken]
      · rw [other own]
        exact orderly.none d ((waits hd).resolve_right fun h => own h.1)
    · rw [mem_assignable] at hd ⊢
      rcases hd with hd | hd
      · exact (waits hd).imp_right fun ⟨own, pulled⟩ => own ▸ pulled
      · by_cases own : d = c
        · rw [own, removed] at hd
          exact .inr (own ▸ hd)
        · rw [other own] at hd
          exact .inr hd

theorem Orderly.updateLine (orderly : f.Orderly) : f.updateLine.Orderly :=
  (congrArg Orderly f.updateLine_frame :).mpr ⟨orderly.once, orderly.none⟩

theorem updateLine_assignable (f : Floor) : f.updateLine.assignable = f.assignable :=
  (congrArg assignable f.updateLine_frame :)

theorem debt_updateLine_le (f : Floor) : f.updateLine.debt ≤ 2 * (f.offers.length + f.assignable.card) + 1 := by
  rw [debt, updateLine_offers, updateLine_assignable]
  split <;> omega

/-- An offer adds to what is due at most the evaluation that follows it. -/
theorem offer_debt_le (orderly : f.Orderly) (c : Chan) :
    (f.offer c).updateLine.debt ≤ 2 * (f.offers.length + f.assignable.card) + 1 := by
  have after := debt_updateLine_le (f.offer c)
  have cards := Finset.card_le_card (offer_debt orderly c).2
  rw [offer_offers] at after
  omega

/-- With a round for each unit of debt, settling leaves nothing due. -/
theorem settleLoop_quiet (n : Nat) (orderly : f.Orderly) (enough : f.updateLine.debt ≤ n) :
    (settleLoop b n f).evalDue = false ∧ (settleLoop b n f).offers = [] ∧ (settleLoop b n f).lineQuiet := by
  induction n generalizing f with
  | zero =>
    obtain ⟨offers, due⟩ := Nat.add_eq_zero_iff.mp (Nat.le_zero.mp enough)
    have none : f.updateLine.offers = [] := List.eq_nil_of_length_eq_zero (by omega)
    have notDue : f.updateLine.evalDue = false := by
      by_contra h
      rw [if_pos (Bool.eq_true_of_not_eq_false h)] at due
      cases due
    exact ⟨notDue, none, f.lineQuiet_updateLine⟩
  | succ n ih =>
    by_cases due : f.updateLine.evalDue = true
    · obtain ⟨orderly', less⟩ := evaluate_debt (b := b) orderly.updateLine due
      rw [settleLoop_evaluate n due]
      refine ih orderly' ?_
      rw [updateLine_of_lineQuiet (lineQuiet_evaluate b f.lineQuiet_updateLine)]
      omega
    · have notDue := Bool.eq_false_iff.mpr due
      cases offers : f.offers with
      | nil =>
        rw [settleLoop_stop (n + 1) notDue offers]
        exact ⟨notDue, (f.updateLine_offers).trans offers, f.lineQuiet_updateLine⟩
      | cons c rest =>
        rw [settleLoop_offer n notDue offers]
        have before : f.updateLine.debt = 2 * (rest.length + 1 + f.updateLine.assignable.card) := by
          simp [debt, offers, notDue]
        have orderly' : Orderly { f.updateLine with offers := rest } :=
          ⟨orderly.updateLine.once, orderly.updateLine.none⟩
        refine ih (offer_debt orderly' c).1 ((offer_debt_le orderly' c).trans ?_)
        change 2 * (rest.length + f.updateLine.assignable.card) + 1 ≤ n
        omega

end Floor

/-- The laws of the Job Queue keep the waiting list in order: a channel that waits has no record (R76, R117). -/
theorem State.JobLaw.orderly {s : State} (law : s.JobLaw) : s.floor.Orderly where
  once := law.waiting.1
  none c waits := by
    have posting := law.jobs.posting c
    rwa [(law.waiting.2 c).mp waits, decide_eq_false (by decide), Option.isSome_eq_false_iff,
      Option.isNone_iff_eq_none] at posting

theorem Floor.settle_quiet (b : Base) {f : Floor} (orderly : f.Orderly) (few : f.offers.length ≤ 8) :
    (f.settle b).evalDue = false ∧ (f.settle b).offers = [] ∧ (f.settle b).lineQuiet := by
  refine settleLoop_quiet 64 orderly ?_
  have most : f.assignable.card ≤ 8 := (Finset.card_le_univ _).trans_eq (Fintype.card_fin 8)
  have start := f.debt_updateLine_le
  omega

/-- Settles O42: the line by its two cases, the rounds one by one, and their end by `Floor.settleLoop_quiet`. -/
theorem settlingTakesWhatIsDue : Obligations.SettlingTakesWhatIsDue := by
  unfold Obligations.SettlingTakesWhatIsDue
  refine ⟨fun s quiet => ?_, fun f => ⟨Floor.updateLine_stands, Floor.updateLine_changes⟩,
    fun b f => ⟨fun none notDue => Floor.settleLoop_stop 64 notDue none,
      fun _ due none => Floor.settleLoop_evaluate_last 63 due none,
      fun c offers notDue => Floor.settle_offer_one offers notDue⟩,
    fun s law few => Floor.settle_quiet s.base law.orderly few, fun f e => rfl,
    fun set e => ⟨fun k => mem_addEvent, addEvent_nodup set e⟩⟩
  obtain ⟨notDue, none, line⟩ := quiet
  exact congrArg (fun f => { s with floor := f }) (Floor.settleLoop_idle 64 line notDue none)

end Sys2Proof.Machine

/-! SUPPORT. Serial numbers (R88 to R90, R95): the number a disk draws, where a returned one goes, and the digits of a
number read back. -/

namespace Sys2Proof.Machine

/-! The number drawn and the number returned (R89, R90). -/

namespace SerialState

variable {st : SerialState}

theorem draw_reclaimed {r : Nat} {rest : List Nat} (reclaim : st.reclaim = r :: rest) :
    st.draw = (r, { st with reclaim := rest }) := by
  rw [draw, reclaim]

theorem draw_next (none : st.reclaim = []) : st.draw = (st.next, { st with next := st.next + st.spec.step }) := by
  rw [draw, none]

/-- An issuable job draws no number above the maximum (R75, R89): one reclaimed was issued before, and with none
reclaimed the job is issuable only while next is within it. -/
theorem draw_le_maximum {j : Job} (serial : j.serial = some st) (issuable : j.issuable = true)
    (within : ∀ v ∈ st.reclaim, v ≤ st.spec.encoding.maximum) : st.draw.1 ≤ st.spec.encoding.maximum := by
  cases reclaim : st.reclaim with
  | nil =>
    rw [draw_next reclaim]
    exact Job.issuable_next issuable serial reclaim
  | cons r rest =>
    rw [draw_reclaimed reclaim]
    exact within r (reclaim ▸ List.mem_cons_self)

end SerialState

/-- Settles O39: a returned number's place by `insertSerial_ascending` and `insertSerial_perm`. -/
theorem serialsAreIssuedAndReturned : Obligations.SerialsAreIssuedAndReturned := by
  unfold Obligations.SerialsAreIssuedAndReturned
  exact fun st => ⟨fun _ _ => SerialState.draw_reclaimed, SerialState.draw_next, fun _ => SerialState.draw_le_maximum,
    fun v ascending new =>
      ⟨insertSerial_ascending ascending new, insertSerial_perm v st.reclaim, rfl, rfl, rfl⟩⟩

/-! The bytes of a serial (R95). -/

theorem asciiDigit_toNat (d : Nat) : (byte (0x30 + d % 10)).toNat = 0x30 + d % 10 :=
  byte_toNat_of_lt (by omega)

theorem asciiDigits_length (w v : Nat) : (asciiDigits w v).length = w := by
  induction w with
  | zero => rfl
  | succ w ih => rw [asciiDigits, List.length_cons, ih]

theorem asciiDigits_digit {w v : Nat} {b : Byte} (h : b ∈ asciiDigits w v) : 0x30 ≤ b.toNat ∧ b.toNat ≤ 0x39 := by
  induction w with
  | zero => cases h
  | succ w ih =>
    rcases List.mem_cons.mp h with rfl | h
    · rw [asciiDigit_toNat]
      omega
    · exact ih h

/-- The digits read back most significant first, after those read before them, modulo what `w` digits hold. -/
theorem asciiDigits_foldl (w v acc : Nat) :
    (asciiDigits w v).foldl (fun n b => n * 10 + (b.toNat - 0x30)) acc = acc * 10 ^ w + v % 10 ^ w := by
  induction w generalizing acc with
  | zero => simp [asciiDigits, Nat.mod_one]
  | succ w ih =>
    rw [asciiDigits, List.foldl_cons, ih, asciiDigit_toNat, Nat.add_sub_cancel_left, Nat.mod_pow_succ]
    ring

/-- Settles O40: the digits by `asciiDigits_foldl`, the four bytes by `num_be_all`; the bound on the number makes
each read it back whole. -/
theorem serialsAreWrittenInFull : Obligations.SerialsAreWrittenInFull := by
  unfold Obligations.SerialsAreWrittenInFull
  refine ⟨fun w v fits => ⟨rfl, asciiDigits_length w v, ?_, fun b => asciiDigits_digit⟩,
    fun v fits => ⟨be_length 4 v, ?_⟩⟩
  · rw [asciiDigits_foldl, Nat.zero_mul, Nat.zero_add, Nat.mod_eq_of_lt fits]
  · exact (num_be_all 4 v).trans (Nat.mod_eq_of_lt fits)

end Sys2Proof.Machine

/-! SUPPORT. The index histories (R104): the work on a track, aborts, postings and the ring leave every channel's
captured intervals as they stand. -/

namespace Sys2Proof.Machine

/-- The captured intervals of each channel (R99, R104). -/
def Floor.histories (f : Floor) (c : Chan) : List Word32 := (f.chan c).intervals

theorem Channel.continueSeek_intervals (x : Channel) (target : Nat) :
    (x.continueSeek target).intervals = x.intervals := by
  unfold continueSeek startSettle
  repeat' split
  all_goals rfl

namespace Floor

variable {b : Base} {f g : Floor} {c : Chan}

/-! The operations on channels, ports, lines and bursts. -/

theorem histories_of_channels (same : g.channels = f.channels) : g.histories = f.histories := by
  funext c
  exact congrArg (fun v : Vector Channel 8 => v[c].intervals) same

theorem histories_setChan {x : Channel} (same : x.intervals = (f.chan c).intervals) :
    (f.setChan c x).histories = f.histories := by
  funext d
  by_cases own : d = c
  · rw [own, histories, chan_setChan_same, same, histories]
  · rw [histories, chan_setChan_other f c d x own, histories]

theorem histories_modChan {change : Channel → Channel} (same : (change (f.chan c)).intervals = (f.chan c).intervals) :
    (f.modChan c change).histories = f.histories := histories_setChan same

/-- A change of one channel, whatever else on the floor changes beside the channels. -/
theorem histories_of_setChan {x : Channel} (channels : g.channels = (f.setChan c x).channels)
    (same : x.intervals = (f.chan c).intervals) : g.histories = f.histories :=
  (histories_of_channels channels).trans (histories_setChan same)

theorem histories_orphanBurst (f : Floor) (mine : BurstWork → Bool) :
    (f.orphanBurst mine).histories = f.histories := by
  rw [orphanBurst_eq]
  rfl

/-! The ring (R150 to R159). -/

theorem histories_completePosting (f : Floor) (c : Chan) (outcome : DiskOutcome) :
    (f.completePosting c outcome).histories = f.histories := by
  have set (state : ChannelState) :
      (f.setChan c { (f.chan c).afterPosting outcome with state := state }).histories = f.histories :=
    histories_setChan rfl
  exact f.completePosting_cases (P := fun t => t.histories = f.histories) c outcome (fun _ => set _)
    (fun _ _ => histories_setChan rfl) (fun _ _ _ => set _) fun _ _ _ => set _

theorem histories_takeRecord (f : Floor) (c : Chan) (body : RecordBody) :
    (f.takeRecord c body).histories = f.histories :=
  ((f.accounted c body).histories_completePosting c body.outcome).trans
    (funext fun d => congrArg Channel.intervals (f.accounted_chan c body d))

theorem histories_offer (f : Floor) (c : Chan) : (f.offer c).histories = f.histories := by
  obtain eq | eq | ⟨g, body, channels, -, -, -, eq⟩ := f.offer_cases c
  · rw [eq]
  · rw [eq]
    rfl
  · rw [eq, histories_takeRecord, histories_of_channels channels]

theorem histories_serveList (l : List Chan) (f : Floor) : (serveList l f).histories = f.histories := by
  induction l generalizing f with
  | nil => rfl
  | cons c rest ih =>
    unfold serveList
    split
    · rfl
    · split
      · rw [ih, histories_takeRecord]
      · split
        · rfl
        · rw [ih, histories_takeRecord]
          rfl

theorem histories_serveRing (f : Floor) : f.serveRing.histories = f.histories := by
  have freed : f.freeRecords.histories = f.histories := by
    unfold freeRecords
    split <;> rfl
  rw [serveRing, histories_serveList, freed]

/-! Posting and aborts (R115, R117). -/

theorem histories_enterPosting (f : Floor) (c : Chan) (outcome : DiskOutcome) :
    (f.enterPosting c outcome).histories = f.histories :=
  (histories_orphanBurst _ _).trans (histories_modChan rfl)

theorem histories_abortDisk (f : Floor) (c : Chan) (cause : Cause) : (f.abortDisk c cause).histories = f.histories := by
  unfold abortDisk
  split
  · exact (histories_enterPosting _ _ _).trans (histories_of_setChan rfl rfl)
  · rfl

theorem histories_abortAll (l : List Chan) (cause : Cause) (f : Floor) :
    (f.abortAll l cause).histories = f.histories := by
  induction l generalizing f with
  | nil => rfl
  | cons c rest ih => rw [abortAll_cons, ih, histories_abortDisk]

/-! Plans, boundaries and recalibration (R102, R103, R110 to R112, R124). -/

theorem histories_seekTrack (b : Base) (f : Floor) (c : Chan) : (f.seekTrack b c).histories = f.histories := by
  refine histories_modChan ?_
  split
  · exact Channel.continueSeek_intervals _ _
  · rfl

theorem histories_beginPlan (b : Base) (f : Floor) (c : Chan) : (f.beginPlan b c).histories = f.histories := by
  have begun := histories_modChan (f := f) (c := c) (change := fun x => { x with
    state := .producing, resuming := false, phase := some .plan
    attempt := { Attempt.none with firstSector := x.attempt.firstSector } }) rfl
  unfold beginPlan
  simp only
  split
  · split
    · split
      · exact begun
      · exact begun
      · exact (histories_seekTrack _ _ _).trans begun
      · exact begun
      · exact begun
    · exact (histories_abortDisk _ _ _).trans begun
  · exact (histories_abortDisk _ _ _).trans begun

theorem histories_boundary (b : Base) (f : Floor) (c : Chan) (i : Nat) :
    (f.boundary b c i).histories = f.histories := by
  unfold boundary
  split
  · rfl
  · simp only
    split
    · split
      · exact (histories_modChan rfl).trans (histories_modChan rfl)
      · exact (histories_beginPlan _ _ _).trans (histories_modChan rfl)
    · exact (histories_enterPosting _ _ _).trans (histories_modChan rfl)

theorem histories_boundaryHere (b : Base) (f : Floor) (c : Chan) : (f.boundaryHere b c).histories = f.histories := by
  unfold boundaryHere
  split
  · rfl
  · exact histories_boundary _ _ _ _

theorem histories_boundaryNext (b : Base) (f : Floor) (c : Chan) : (f.boundaryNext b c).histories = f.histories := by
  unfold boundaryNext
  split
  · rfl
  · exact histories_boundary _ _ _ _

theorem histories_recalSample (b : Base) (f : Floor) (c : Chan) : (f.recalSample b c).histories = f.histories := by
  unfold recalSample
  split
  · exact (histories_boundaryHere _ _ _).trans (histories_modChan rfl)
  · split
    · exact histories_abortDisk _ _ _
    · exact histories_modChan rfl

theorem histories_reachSpeed (b : Base) (f : Floor) (c : Chan) : (f.reachSpeed b c).histories = f.histories := by
  unfold reachSpeed
  split
  · exact (histories_boundaryHere _ _ _).trans (histories_modChan rfl)
  · exact (histories_recalSample _ _ _).trans (histories_modChan rfl)

/-! Attempts and passes (R128 to R143). -/

theorem histories_discardBuffer (f : Floor) (c : Chan) : (f.discardBuffer c).histories = f.histories :=
  (histories_orphanBurst _ _).trans (histories_modChan rfl)

theorem histories_endAttempt (b : Base) (f : Floor) (c : Chan) (r : TrackResult) :
    (f.endAttempt b c r).histories = f.histories := by
  have accept (soft : Option (Cause × Option Byte)) (g : Floor) : (g.acceptTrack b c soft).histories = g.histories :=
    (histories_boundaryNext _ _ _).trans (histories_modChan rfl)
  have retry (g : Floor) : (g.retryTrack b c).histories = g.histories :=
    (histories_beginPlan _ _ _).trans (histories_modChan rfl)
  have fail (cause : Cause) (sector : Option Byte) (g : Floor) : (g.failTrack c cause sector).histories = g.histories :=
    (histories_enterPosting _ _ _).trans (histories_modChan rfl)
  have ended (first : Option Byte) : ((f.discardBuffer c).modChan c fun x => { x with
      wgate := false, wdata := none, attempt := { Attempt.none with firstSector := first } }).histories = f.histories :=
    (histories_modChan rfl).trans (f.histories_discardBuffer c)
  unfold endAttempt
  split
  · rfl
  · simp only
    split
    · exact (accept _ _).trans (ended _)
    · split
      · exact (retry _).trans (ended _)
      · exact (accept _ _).trans (ended _)
    · split
      · exact (retry _).trans (ended _)
      · exact (fail _ _ _).trans (ended _)

theorem histories_writeByte (b : Base) (f : Floor) (c : Chan) (st : WriteStream) :
    (f.writeByte b c st).histories = f.histories := by
  unfold writeByte
  simp only
  split
  · exact histories_setChan rfl
  · split
    · exact histories_endAttempt _ _ _ _
    · rfl

theorem histories_readByte (b : Base) (f : Floor) (c : Chan) (flux : List (BitVec 9)) :
    (f.readByte b c flux).histories = f.histories := by
  unfold readByte
  simp only
  split
  · split
    · rfl
    · split
      · rfl
      · split
        · exact histories_setChan rfl
        · exact histories_endAttempt _ _ _ _
  · rfl

theorem histories_giveSlotResult (f : Floor) (c : Chan) (p : TrackPlan) (r : ReadSide) (j : Nat) (rest : List Nat)
    (result : SlotResult) : (f.giveSlotResult c p r j rest result).histories = f.histories :=
  (histories_orphanBurst _ _).trans (histories_modChan rfl)

theorem histories_producingEdge (b : Base) (f : Floor) (c : Chan) : (f.producingEdge b c).histories = f.histories := by
  unfold producingEdge
  simp only
  split
  · split
    · exact histories_of_setChan rfl rfl
    · unfold endWrite
      split
      · exact histories_endAttempt _ _ _ _
      · split
        · exact histories_endAttempt _ _ _ _
        · split
          · exact histories_modChan rfl
          · exact histories_endAttempt _ _ _ _
  · split
    · unfold endVerifyPass
      simp only
      split
      · exact (histories_modChan rfl).trans (histories_discardBuffer _ _)
      · exact histories_endAttempt _ _ _ _
    · rfl
  · rfl

theorem histories_finishPlan (b : Base) (f : Floor) : (f.finishPlan b).histories = f.histories := by
  unfold finishPlan
  split
  · rfl
  · simp only
    split
    · rfl
    · unfold handPlan
      simp only
      split
      · split
        · exact (histories_seekTrack _ _ _).trans (histories_setChan rfl)
        · exact (histories_modChan rfl).trans (histories_setChan rfl)
      · rfl

/-! Timers, the handler and the drive requests (R102, R107, R111, R117, R121, R165). -/

theorem histories_stepExpiry (b : Base) (f : Floor) (c : Chan) : (f.stepExpiry b c).histories = f.histories := by
  unfold stepExpiry
  simp only
  split
  · exact (histories_recalSample _ _ _).trans (histories_modChan rfl)
  · exact (histories_modChan (Channel.continueSeek_intervals _ _)).trans (histories_modChan rfl)
  · exact histories_modChan rfl

theorem histories_enterBySeat (f : Floor) (c : Chan) : (f.enterBySeat c).histories = f.histories := by
  unfold enterBySeat
  split <;> exact histories_of_setChan rfl rfl

theorem histories_resetDrive (f : Floor) (c : Chan) : (f.resetDrive c).histories = f.histories := by
  unfold resetDrive
  split
  case h_5 => exact (histories_enterBySeat _ _).trans (histories_modChan rfl)
  case h_1 | h_2 | h_3 | h_4 =>
    exact (histories_modChan rfl).trans ((histories_offer _ _).trans (f.histories_abortDisk c .driveReset))
  all_goals exact histories_modChan rfl

theorem histories_seatChange (f : Floor) (c : Chan) (active : Bool) :
    (f.seatChange c active).histories = f.histories := by
  unfold seatChange
  split
  case h_3 | h_4 | h_5 | h_6 => exact histories_abortDisk _ _ _
  case h_1 | h_2 | h_7 => exact histories_of_setChan rfl rfl
  case h_8 =>
    have emptied := histories_modChan (f := f) (c := c) (change := fun x => { x with bin := .none }) rfl
    refine Eq.trans ?_ emptied
    simp only
    split <;> exact histories_of_setChan rfl rfl
  all_goals rfl

theorem histories_debounceExpiry (f : Floor) (c : Chan) : (f.debounceExpiry c).histories = f.histories := by
  unfold debounceExpiry
  simp only
  split
  · rfl
  · exact histories_seatChange _ _ _

end Floor

end Sys2Proof.Machine

/-! SUPPORT. A channel keeps the four newest intervals (R104): every request, every command and so every step leaves
each history with four intervals or fewer. -/

namespace Sys2Proof.Machine

/-! The capture of an INDEX edge (R104). -/

theorem Channel.captureEdge_first {x : Channel} (now : Word32) (few : x.intervals.length ≤ 4)
    (first : x.lastStamp = none) : x.captureEdge now = { x with lastStamp := some now } := by
  simp only [captureEdge, first, if_neg (show x.intervals.length ≠ 5 by omega)]

/-- The newest interval joins at the end, and a fifth drops the oldest. -/
theorem Channel.captureEdge_next {x : Channel} (now : Word32) (few : x.intervals.length ≤ 4) {stamp : Word32}
    (next : x.lastStamp = some stamp) : x.captureEdge now =
      { x with lastStamp := some now, intervals := (x.intervals ++ [now - stamp]).drop (x.intervals.length - 3) } := by
  simp only [captureEdge, next, List.length_append, List.length_singleton]
  by_cases full : x.intervals.length = 4
  · rw [full, if_pos rfl, List.drop_one]
  · rw [if_neg (by omega), show x.intervals.length - 3 = 0 by omega, List.drop_zero]

theorem Channel.captureEdge_few {x : Channel} (now : Word32) (few : x.intervals.length ≤ 4) :
    (x.captureEdge now).intervals.length ≤ 4 := by
  cases stamp : x.lastStamp with
  | none => rwa [captureEdge_first now few stamp]
  | some stamp' =>
    rw [captureEdge_next now few stamp, List.length_drop, List.length_append, List.length_singleton]
    omega

theorem Channel.reloadWatchdog_intervals (x : Channel) : x.reloadWatchdog.intervals = x.intervals := by
  unfold reloadWatchdog
  split <;> rfl

/-! The law of the histories. -/

/-- Each channel has captured four intervals or fewer (R104). -/
def Floor.HistoryLaw (f : Floor) : Prop := ∀ c, (f.chan c).intervals.length ≤ 4

namespace Floor.HistoryLaw

variable {b : Base} {f g : Floor}

theorem congr (h : f.HistoryLaw) (same : g.histories = f.histories) : g.HistoryLaw := fun c =>
  (congrArg List.length (congrFun same c) :).trans_le (h c)

theorem setChan (h : f.HistoryLaw) (c : Chan) {x : Channel} (few : x.intervals.length ≤ 4) :
    (f.setChan c x).HistoryLaw := by
  intro d
  by_cases own : d = c
  · rwa [own, chan_setChan_same]
  · rw [chan_setChan_other f c d x own]
    exact h d

/-- A disk assigned starts with no interval, or with those of before when it is posted at once (R109, R110). -/
theorem assign (h : f.HistoryLaw) (c : Chan) (j : Job) : (f.assign b c j).HistoryLaw := by
  cases wprot : b.wprot.getLsbD c.val with
  | false =>
    rw [assign_free wprot]
    exact (h.setChan c (x := Channel.startSpinup _ false) (Nat.zero_le 4)).congr rfl
  | true =>
    rw [assign_protected wprot]
    exact h.congr (histories_of_setChan rfl rfl)

theorem evaluate (h : f.HistoryLaw) : (f.evaluate b).HistoryLaw := by
  have pass (l : List Chan) {g : Floor} (h : g.HistoryLaw) : (l.foldl (consider b) g).HistoryLaw := by
    induction l generalizing g with
    | nil => exact h
    | cons c rest ih =>
      refine ih ?_
      obtain ⟨eq, -⟩ | ⟨j, -, -, eq⟩ := consider_cases b g c
      · rwa [eq]
      · rw [eq]
        exact h.assign c j
  exact pass f.waiting (h.congr rfl)

theorem settle (h : f.HistoryLaw) : (f.settle b).HistoryLaw := by
  refine settle_induction (P := HistoryLaw) (fun g hg => ?_) (fun g hg => ?_) f h
  · exact hg.congr (histories_of_channels g.updateLine_channels)
  · unfold settleOne
    split
    · exact hg.evaluate
    · split
      · exact hg
      · next c rest _ => exact hg.congr (histories_offer { g with offers := rest } c)

theorem indexEdge (h : f.HistoryLaw) (c : Chan) : (f.indexEdge b c).HistoryLaw := by
  have captured : (f.modChan c fun x => (x.captureEdge b.timebase).reloadWatchdog).HistoryLaw := by
    refine h.setChan c ?_
    rw [Channel.reloadWatchdog_intervals]
    exact Channel.captureEdge_few _ (h c)
  unfold Floor.indexEdge
  simp only
  split
  · split
    · exact captured.congr (histories_reachSpeed _ _ _)
    · exact captured
  · exact captured.congr (histories_producingEdge _ _ _)
  · exact captured

theorem tick {s : State} (h : s.floor.HistoryLaw) : s.tick.floor.HistoryLaw := fun c => by
  rw [State.tick_chan]
  exact h c

theorem of_reset (reset : ∀ c, f.chan c = Channel.reset) : f.HistoryLaw := fun c => by
  rw [reset]
  exact Nat.zero_le 4

end Floor.HistoryLaw

/-! The requests (R176, R178). -/

/-- The requests that can change a channel. -/
def Request.onChannels : List Request :=
  [.portReset, .setLineHold, .startJob, .cancelJob, .setDrive, .enableDrive, .disableDrive, .freezeDrive, .resumeDrive,
    .resetDrive, .readResult, .setResultFollow]

theorem State.runChecks_channels (n : Nat) (s : State) : (s.runChecks n).floor.channels = s.floor.channels := by
  induction n generalizing s with
  | zero => rfl
  | succ n ih =>
    rw [runChecks]
    split
    · simp only
      split
      · exact ih _
      · rfl
    · rfl

/-- The other requests leave every channel as it stands. -/
theorem perform_channels {r : Request} (other : r ∉ Request.onChannels) (p : PortId) (payload : List Byte)
    (s : State) : (perform r p payload s).floor.channels = s.floor.channels := by
  cases r with
  | portReset | setLineHold | startJob | cancelJob | setDrive | enableDrive | disableDrive | freezeDrive | resumeDrive
  | resetDrive | readResult | setResultFollow => exact absurd (by decide) other
  | finishImage | deleteImage =>
    simp only [perform, doFinishImage, doDeleteImage]
    repeat' split
    all_goals simp [State.nextCheck, State.runChecks_channels, State.abandon, Floor.orphanBurst_eq]
  | _ =>
    simp only [perform, doReadDevice, doReadEvents, doSetEventMask, doReadLine, doDefineFormat, doReadFormat,
      doRemoveFormat, doPlanQuery, doOpenImage, doDefineTrack, doSetCursor, doWriteData, doReadData,
      doReadImage, doReadTrackEntry, doReadStoreMap, doSetStore, doDefineJob, doStopJob, doRemoveJob, doReadJob,
      doReadDrive, doReadRing]
    repeat' split
    all_goals simp [State.startTransfer, State.countWrite, Floor.endJob, Floor.putJob, Floor.dropJob,
      State.addJob]

section

variable {s : State} {p : PortId} {payload : List Byte}

theorem Floor.HistoryLaw.answer {f : Floor} (h : f.HistoryLaw) (p : PortId) (r : Reply) : (f.answer p r).HistoryLaw :=
  h.congr (histories_of_channels (f.answer_channels p r))

theorem Floor.HistoryLaw.setPort {f : Floor} (h : f.HistoryLaw) (p : PortId) (x : PortContext) :
    (f.setPort p x).HistoryLaw := h.congr (histories_of_channels (f.setPort_channels p x))

theorem Floor.HistoryLaw.serveRing {f : Floor} (h : f.HistoryLaw) : f.serveRing.HistoryLaw :=
  h.congr f.histories_serveRing

theorem Channel.resume_few {x : Channel} (few : x.intervals.length ≤ 4) : x.resume.intervals.length ≤ 4 := by
  unfold resume
  split
  · exact Nat.zero_le 4
  · exact few

/-! The requests on jobs, the line and the ring (R69, R71, R160, R161, R171, R186). -/

theorem doStartJob_historyLaw (h : s.floor.HistoryLaw) : (doStartJob p payload s).floor.HistoryLaw := by
  unfold doStartJob
  split
  · exact h.answer p _
  · split
    · exact h.answer p _
    · split
      · exact h.answer p _
      · next j _ _ _ =>
        have running : Floor.HistoryLaw { s.floor.putJob { j with state := .running } with evalDue := true } :=
          h.congr rfl
        exact (running.answer p _).settle

theorem doCancelJob_historyLaw (h : s.floor.HistoryLaw) : (doCancelJob p payload s).floor.HistoryLaw := by
  unfold doCancelJob
  split
  · exact h.answer p _
  · split
    · exact h.answer p _
    · next j _ _ =>
      have cancelled : ((s.floor.endJob j .cancelled .cancelled).cancelNotices j.id).HistoryLaw :=
        h.congr (Floor.histories_abortAll _ _ _)
      exact (cancelled.answer p _).settle

theorem doSetLineHold_historyLaw (h : s.floor.HistoryLaw) : (doSetLineHold p payload s).floor.HistoryLaw := by
  unfold doSetLineHold
  split
  · exact h.answer p _
  · exact ((h.setPort p _).settle).answer p _

theorem doReadResult_historyLaw (h : s.floor.HistoryLaw) : (doReadResult p payload s).floor.HistoryLaw := by
  unfold doReadResult
  simp only
  split
  · exact h.answer p _
  · split
    · exact ((h.setPort p _).answer p _).serveRing.settle
    · exact (h.setPort p _).answer p _

theorem doSetResultFollow_historyLaw (h : s.floor.HistoryLaw) : (doSetResultFollow p payload s).floor.HistoryLaw := by
  unfold doSetResultFollow
  split
  · exact h.answer p _
  · exact ((h.setPort p _).answer p _).serveRing.settle

theorem doPortReset_historyLaw (h : s.floor.HistoryLaw) : (doPortReset p payload s).floor.HistoryLaw := by
  have orphaned := h.congr (s.floor.histories_orphanBurst (BurstWork.isTransferOf p))
  exact ((orphaned.setPort p _).serveRing.answer p _).settle

/-! The drive requests (R100, R107, R113, R114, R121). -/

theorem doSetDrive_historyLaw (h : s.floor.HistoryLaw) : (doSetDrive p payload s).floor.HistoryLaw := by
  unfold doSetDrive
  split
  · exact h.answer p _
  · next c _ =>
    have set (settings : Settings) := h.setChan c (x := { s.floor.chan c with settings := settings }) (h c)
    simp only
    split
    · exact h.answer p _
    · split
      · exact h.answer p _
      · split
        · exact Floor.HistoryLaw.settle (((set _).answer p _).congr rfl)
        · exact (set _).answer p _

theorem doEnableDrive_historyLaw (h : s.floor.HistoryLaw) : (doEnableDrive p payload s).floor.HistoryLaw := by
  unfold doEnableDrive
  split
  · exact h.answer p _
  · next c _ =>
    have entered : (s.floor.enterBySeat c).HistoryLaw := h.congr (Floor.histories_enterBySeat _ c)
    split
    · exact h.answer p _
    · simp only
      split
      · exact (entered.answer p _).settle
      · exact entered.answer p _

theorem doDisableDrive_historyLaw (h : s.floor.HistoryLaw) : (doDisableDrive p payload s).floor.HistoryLaw := by
  unfold doDisableDrive
  split
  · exact h.answer p _
  · next c _ =>
    have disabled : (s.floor.chan c).disable.intervals = (s.floor.chan c).intervals := by
      unfold Channel.disable
      split <;> rfl
    have law : ((s.floor.leaveWaiting c).modChan c Channel.disable).HistoryLaw :=
      h.congr (Floor.histories_of_setChan rfl disabled)
    split
    · exact h.answer p _
    · exact law.answer p _

theorem doFreezeDrive_historyLaw (h : s.floor.HistoryLaw) : (doFreezeDrive p payload s).floor.HistoryLaw := by
  unfold doFreezeDrive
  split
  · exact h.answer p _
  · exact (h.congr (Floor.histories_modChan rfl)).answer p _

theorem doResumeDrive_historyLaw (h : s.floor.HistoryLaw) : (doResumeDrive p payload s).floor.HistoryLaw := by
  unfold doResumeDrive
  split
  · exact h.answer p _
  · next c _ =>
    have resumed := h.setChan c (Channel.resume_few (h c))
    simp only
    split
    · exact Floor.HistoryLaw.settle ((resumed.answer p _).congr rfl)
    · exact resumed.answer p _

theorem doResetDrive_historyLaw (h : s.floor.HistoryLaw) : (doResetDrive p payload s).floor.HistoryLaw := by
  unfold doResetDrive
  split
  · exact h.answer p _
  · split
    · exact h.answer p _
    · exact ((h.congr (Floor.histories_resetDrive _ _)).answer p _).settle

/-! Every request and every frame taken (R176, R178). -/

theorem perform_historyLaw (r : Request) (h : s.floor.HistoryLaw) : (perform r p payload s).floor.HistoryLaw := by
  by_cases onChannels : r ∈ Request.onChannels
  · simp only [Request.onChannels, List.mem_cons, List.not_mem_nil, or_false] at onChannels
    rcases onChannels with rfl | rfl | rfl | rfl | rfl | rfl | rfl | rfl | rfl | rfl | rfl | rfl
    exacts [doPortReset_historyLaw (payload := payload) h, doSetLineHold_historyLaw h, doStartJob_historyLaw h,
      doCancelJob_historyLaw h, doSetDrive_historyLaw h, doEnableDrive_historyLaw h, doDisableDrive_historyLaw h,
      doFreezeDrive_historyLaw h,
      doResumeDrive_historyLaw h, doResetDrive_historyLaw h, doReadResult_historyLaw (payload := payload) h,
      doSetResultFollow_historyLaw h]
  · exact h.congr (Floor.histories_of_channels (perform_channels onChannels p payload s))

theorem State.take_historyLaw (h : s.floor.HistoryLaw) (p : PortId) (frame : HeldFrame) :
    (s.take p frame).floor.HistoryLaw := by
  cases frame with
  | request r payload => exact perform_historyLaw r h
  | error status => exact h.answer p _

theorem State.receive_historyLaw (h : s.floor.HistoryLaw) (p : PortId) (frame : HeldFrame) :
    (s.receive p frame).floor.HistoryLaw := by
  unfold receive
  split
  · exact perform_historyLaw .portReset h
  · split
    · exact h.setPort p _
    · exact State.take_historyLaw h p _

theorem State.station_historyLaw (h : s.floor.HistoryLaw) (r : Request) (p : PortId) (payload : List Byte) :
    (s.station r p payload).floor.HistoryLaw := by
  unfold station
  split
  · exact h
  · exact State.receive_historyLaw h p _

theorem State.drainHolds_historyLaw {t : State} (h : t.floor.HistoryLaw) : (s.drainHolds t).floor.HistoryLaw := by
  have drained {u : State} (h : u.floor.HistoryLaw) (p : PortId) (n : Nat) : (State.drain p n u).floor.HistoryLaw :=
    State.drain_induction (P := fun u => u.floor.HistoryLaw) p
      (fun _ frame _ hu _ _ => State.take_historyLaw (hu.setPort p _) p frame) n u h
  have ended {u : State} (h : u.floor.HistoryLaw) (p : PortId) : (s.drainEnded u p).floor.HistoryLaw := by
    unfold drainEnded
    split
    · exact drained h p _
    · exact h
  exact ended (ended h .a) .b

/-! The store's bursts (R37, R38). -/

theorem startBurst_channels (b : Base) (f : Floor) (g : Grant) : (startBurst b f g).channels = f.channels := by
  have port (p : PortId) : (grantPort b f p).channels = f.channels := by
    unfold grantPort
    split
    · split
      · simp only
        split <;> rfl
      · exact f.setPort_channels p _
    · split <;> rfl
  cases g with
  | refresh => rfl
  | channel c =>
    simp only [startBurst, grantChannel]
    split <;> rfl
  | background client =>
    cases client with
    | portA => exact port .a
    | portB => exact port .b
    | checkUnit =>
      simp only [startBurst, grantCheck]
      repeat' split
      all_goals rfl

theorem State.grant_historyLaw (h : s.floor.HistoryLaw) : s.grant.floor.HistoryLaw := by
  unfold grant
  split
  · exact h
  · split
    · exact h.congr (Floor.histories_of_channels (startBurst_channels _ _ _))
    · exact h

theorem State.checkBurst_channels (s : State) (bytes : List Byte) :
    (s.checkBurst bytes).floor.channels = s.floor.channels := by
  unfold checkBurst
  split
  · rfl
  · simp only
    split
    · exact runChecks_channels _ _
    · rfl

theorem State.completeBurst_historyLaw (h : s.floor.HistoryLaw) (w : Burst) : (s.completeBurst w).floor.HistoryLaw := by
  have idle : Floor.HistoryLaw { s.floor with burst := none } := h.congr rfl
  unfold completeBurst
  simp only
  split
  · cases w.work with
    | refresh | clear slot => exact idle
    | fetch c slot => exact idle.setChan c (h c)
    | write p | read p => exact idle.setPort p _
    | check => exact idle.congr (Floor.histories_of_channels (checkBurst_channels _ _))
  · exact idle

/-! Every command and every step. -/

theorem State.taken_historyLaw (h : s.floor.HistoryLaw) {g : State → State}
    (running : s.base.resetActive = false → (g s).floor.HistoryLaw) : (s.taken g).floor.HistoryLaw := by
  unfold taken
  split
  · exact h
  · next active => exact running (by simpa using active)

theorem State.channelEvent_historyLaw (h : s.floor.HistoryLaw) {occurs : Bool} {g : Base → Floor → Floor}
    (event : (g s.base s.floor).HistoryLaw) : (s.channelEvent occurs g).floor.HistoryLaw := by
  refine State.taken_historyLaw h fun _ => ?_
  split
  · exact event.settle
  · exact h

theorem execStoreBurstComplete_historyLaw (h : s.floor.HistoryLaw) {t : State}
    (next : execStoreBurstComplete s = .next t) : t.floor.HistoryLaw := by
  unfold execStoreBurstComplete at next
  split at next
  · cases next
    exact h
  · next w _ =>
    split at next
    · cases next
      exact h
    · split at next
      · cases next
        exact State.drainHolds_historyLaw (State.completeBurst_historyLaw h w)
      · cases next

theorem exec_historyLaw (h : s.floor.HistoryLaw) (i : Instr) {t : State} (next : exec i s = .next t) :
    t.floor.HistoryLaw := by
  cases i with
  | powerOn pins =>
    cases next
    exact .of_reset (s.powerOn_chan pins)
  | resetPinAssert =>
    cases next
    exact .of_reset s.assertReset_chan
  | resetPinRelease =>
    cases next
    split <;> exact h
  | timebaseTick trk0 wprot =>
    cases next
    exact State.taken_historyLaw (s := { s with base := s.base.sense trk0 wprot }) h fun _ => Floor.HistoryLaw.tick h
  | refreshTimerExpiry =>
    cases next
    exact State.taken_historyLaw h fun _ => h
  | arbiterGrant =>
    cases next
    exact State.taken_historyLaw h fun _ => State.drainHolds_historyLaw (State.grant_historyLaw h)
  | storeBurstComplete => exact execStoreBurstComplete_historyLaw h next
  | planBuildComplete =>
    cases next
    exact State.taken_historyLaw h fun _ => h.congr (Floor.histories_finishPlan _ _)
  | indexEdge c =>
    cases next
    exact State.channelEvent_historyLaw h (h.indexEdge c)
  | writeStreamByte c =>
    cases next
    refine State.channelEvent_historyLaw h ?_
    split
    · exact h.congr (Floor.histories_writeByte _ _ _ _)
    · exact h
  | writeUnderrun c =>
    cases next
    refine State.channelEvent_historyLaw h ?_
    split
    · exact h.congr (Floor.histories_endAttempt _ _ _ _)
    · exact h
  | readBackByte c flux =>
    cases next
    exact State.channelEvent_historyLaw h (h.congr (Floor.histories_readByte _ _ _ _))
  | verifySlotResult c =>
    cases next
    refine State.taken_historyLaw h fun _ => ?_
    split
    · split
      · exact h.congr (Floor.histories_giveSlotResult _ _ _ _ _ _ _)
      · exact h
    · exact h
  | verifyUnderrun c =>
    cases next
    refine State.channelEvent_historyLaw h ?_
    split
    · exact h.congr (Floor.histories_endAttempt _ _ _ _)
    · exact h
  | stepPulseTimerExpiry c | settleTimerExpiry c =>
    cases next
    refine State.taken_historyLaw h fun _ => ?_
    split
    · exact h.congr (Floor.histories_of_setChan rfl rfl)
    · exact h
  | stepTimerExpiry c =>
    cases next
    exact State.channelEvent_historyLaw h (h.congr (Floor.histories_stepExpiry _ _ _))
  | spinupTimerExpiry c | indexWatchdogExpiry c =>
    cases next
    exact State.channelEvent_historyLaw h
      (h.congr ((Floor.histories_abortDisk _ _ _).trans (Floor.histories_modChan rfl)))
  | lineHoldPinChange pulls =>
    cases next
    have pulled : (s.floor.handlerPulls pulls).HistoryLaw := h.congr rfl
    exact State.taken_historyLaw (s := { s with floor := s.floor.handlerPulls pulls }) pulled fun _ => pulled.settle
  | seatedEdge c level =>
    cases next
    repeat' split
    all_goals exact h
  | debounceTimerExpiry c =>
    cases next
    exact State.channelEvent_historyLaw h (h.congr (Floor.histories_debounceExpiry _ _))
  | fetchStart p =>
    cases next
    exact State.taken_historyLaw h fun _ => h.setPort p _
  | fetchWindowEnd p clocks =>
    cases next
    exact State.taken_historyLaw h fun _ => h.setPort p _
  | frameRejected p bits =>
    cases next
    refine State.taken_historyLaw h fun _ => ?_
    unfold State.reject
    split
    · exact State.receive_historyLaw h p _
    all_goals exact h
  | _ =>
    cases next
    exact State.station_historyLaw h _ _ _

theorem step_historyLaw (h : s.floor.HistoryLaw) {t : State} (next : step s = .next t) : t.floor.HistoryLaw := by
  unfold step at next
  split at next
  · cases next
    exact h
  · next i rest _ => exact exec_historyLaw (s := { s with pending := rest }) h i next

end

end Sys2Proof.Machine

/-! SUPPORT. INDEX edges (R104 to R106, R110, R111, R128): what an edge does by the channel's state, and when a channel
is at speed. -/

namespace Sys2Proof.Machine

/-! Speed (R105). -/

/-- A period is in the window of an entry's format, or in the open window where no format is named (R105, R124). -/
theorem entryWindow_iff (b : Base) (e : Option FormatId) (period : Nat) : entryWindow b e period = true ↔
    match e.bind b.format with
    | some d => d.pmin ≤ period ∧ period ≤ d.pmax
    | none => 158332 ≤ period ∧ period ≤ 210000 := by
  unfold entryWindow
  change (match e.bind b.format with | some d => d.inWindow period | none => openWindow period) = true ↔ _
  cases e.bind b.format with
  | none => simp [openWindow]
  | some d => exact d.inWindow_iff period

theorem Channel.atSpeed_iff (b : Base) (x : Channel) : x.atSpeed b = true ↔
    x.intervals.length = 4 ∧ ∀ i ∈ x.intervals, entryWindow b (referenceFormat b x) i.toNat = true := by
  simp [atSpeed]

theorem referenceFormat_disk {b : Base} {x : Channel} {k : Disk} (disk : x.disk = some k) : referenceFormat b x =
    (((b.image k.slot).trackMap.drop ((b.image k.slot).trackIndex k.cylinder k.head)).filterMap
      TrackEntry.format?).head? := by
  simp only [referenceFormat, disk, List.head?_filterMap]

/-! An edge by the channel's state. -/

section

variable {s : State} {f : Floor} {b : Base} {c : Chan}

theorem exec_indexEdge (running : s.base.resetActive = false) (motor : (s.floor.chan c).motor = true) :
    exec (.indexEdge c) s = .next { s with floor := s.floor.indexEdge s.base c }.settle :=
  congrArg _ (State.channelEvent_occurs running motor _)

/-- An edge with MOTOR inactive is no event (entry 1). -/
theorem exec_indexEdge_idle (running : s.base.resetActive = false) (motor : (s.floor.chan c).motor = false) :
    exec (.indexEdge c) s = .next s := congrArg _ (State.channelEvent_idle running motor _)

namespace Floor

/-- In RECAL an edge does no more than its capture (R104, R106). -/
theorem indexEdge_recal (recal : (f.chan c).state = .recal) : f.indexEdge b c =
    f.setChan c { (f.chan c).captureEdge b.timebase with watchdog := some 500000 } := by
  have state : ((f.chan c).captureEdge b.timebase).state = .recal := recal
  simp only [indexEdge, modChan, Channel.reloadWatchdog, state, chan_setChan_same]
  rfl

theorem indexEdge_producing (producing : (f.chan c).state = .producing) : f.indexEdge b c =
    (f.setChan c { (f.chan c).captureEdge b.timebase with watchdog := some 500000 }).producingEdge b c := by
  have state : ((f.chan c).captureEdge b.timebase).state = .producing := producing
  simp only [indexEdge, modChan, Channel.reloadWatchdog, state, chan_setChan_same]
  rfl

/-- In SPINUP an edge that finds the drive at speed ends the spin-up (R110). -/
theorem indexEdge_spinup (spinup : (f.chan c).state = .spinup) : f.indexEdge b c =
    let y := (f.chan c).captureEdge b.timebase
    if y.atSpeed b then (f.setChan c y).reachSpeed b c else f.setChan c y := by
  have state : ((f.chan c).captureEdge b.timebase).state = .spinup := spinup
  simp only [indexEdge, modChan, Channel.reloadWatchdog, state, chan_setChan_same]

/-- Before the write pass an edge waits for no one (R125, R126). -/
theorem producingEdge_before (phase : (f.chan c).phase = some .plan ∨ (f.chan c).phase = some .seek ∨
    (f.chan c).phase = some .settle) : f.producingEdge b c = f := by
  rcases phase with h | h | h <;> simp only [producingEdge, h]

/-- In WRITE before its pass an edge begins it (R128). -/
theorem producingEdge_starts {k : Disk} (write : (f.chan c).phase = some .write) (disk : (f.chan c).disk = some k)
    (none : (f.chan c).attempt.stream = none) : f.producingEdge b c = f.startWrite c := by
  simp only [producingEdge, write, disk, none]

theorem reachSpeed_resuming {k : Disk} (resuming : (f.chan c).resuming = true) (disk : (f.chan c).disk = some k) :
    f.reachSpeed b c = (f.setChan c { f.chan c with spinupTimer := none, watchdog := some 500000 }).boundary b c
      ((b.image k.slot).trackIndex k.cylinder k.head) := by
  rw [reachSpeed, if_pos resuming]
  exact boundaryHere_disk ((congrArg Channel.disk (f.chan_setChan_same c _)).trans disk)

theorem reachSpeed_first (first : (f.chan c).resuming = false) : f.reachSpeed b c =
    (f.setChan c { f.chan c with
      state := .recal, spinupTimer := none, watchdog := some 500000, dir := false, cylinder := none
      recalSteps := 0 }).recalSample b c := by
  rw [reachSpeed, if_neg (by rw [first]; exact Bool.false_ne_true)]
  rfl

end Floor

end

/-- Settles O47: every step keeps the four intervals by `step_historyLaw`; the edge by the channel's state. -/
theorem indexEdgesAreCaptured : Obligations.IndexEdgesAreCaptured := by
  unfold Obligations.IndexEdgesAreCaptured
  refine ⟨fun s t few next => step_historyLaw few next, fun c s running few => ?_⟩
  intro x captured
  have capture : (s.floor.chan c).captureEdge s.base.timebase = captured := by
    cases stamp : x.lastStamp with
    | none => exact (Channel.captureEdge_first (x := x) _ few stamp).trans (by simp only [captured, stamp])
    | some now => exact (Channel.captureEdge_next (x := x) _ few stamp).trans (by simp only [captured, stamp])
  have edge (motor : x.motor = true) := exec_indexEdge (c := c) running motor
  refine ⟨exec_indexEdge_idle running, fun motor state => ?_, fun k motor producing write disk none => ?_,
    fun motor spinup slow => ?_, fun k motor spinup fast disk => ?_, ?_, fun k disk => referenceFormat_disk disk⟩
  · rw [edge motor]
    rcases state with recal | ⟨producing, phase⟩
    · rw [Floor.indexEdge_recal recal, capture]
    · rw [Floor.indexEdge_producing producing, capture, Floor.producingEdge_before (by rwa [Floor.chan_setChan_same])]
  · rw [edge motor, Floor.indexEdge_producing producing, capture, Floor.producingEdge_starts
      (by rwa [Floor.chan_setChan_same]) (by rwa [Floor.chan_setChan_same]) (by rwa [Floor.chan_setChan_same]),
      Floor.startWrite, Floor.modChan, Floor.chan_setChan_same, Floor.setChan_setChan]
    rfl
  · rw [edge motor, Floor.indexEdge_spinup spinup, capture]
    simp only [slow, Bool.false_eq_true, if_false]
  · intro place
    have reach : s.floor.indexEdge s.base c = (s.floor.setChan c captured).reachSpeed s.base c := by
      rw [Floor.indexEdge_spinup spinup, capture]
      exact if_pos fast
    have own := s.floor.chan_setChan_same c captured
    refine ⟨fun resuming => ?_, fun first => ?_⟩
    · rw [edge motor, reach, Floor.reachSpeed_resuming (by rwa [own]) (by rwa [own]), own, Floor.setChan_setChan]
    · intro entered
      have recal : s.floor.indexEdge s.base c = (s.floor.setChan c entered).recalSample s.base c := by
        rw [reach, Floor.reachSpeed_first (by rwa [own]), own, Floor.setChan_setChan]
      have own := s.floor.chan_setChan_same c entered
      refine ⟨fun on => ?_, fun off => ?_⟩
      · rw [edge motor, recal, Floor.recalSample_done on (by rwa [own]), own, Floor.setChan_setChan]
      · rw [edge motor, recal, Floor.recalSample_step off (by rw [own]; exact Nat.zero_lt_succ 89), own,
          Floor.setChan_setChan]
        rfl
  · exact (Channel.atSpeed_iff _ _).trans (and_congr_right fun _ => forall₂_congr fun _ _ => entryWindow_iff _ _ _)

end Sys2Proof.Machine

/-! SUPPORT. What follows a good track (R105, R112, R113, R123, R124, R141 to R143, R146): the end of an attempt, the
next track of the image, the boundary and the beginning of a track. -/

namespace Sys2Proof.Machine

namespace Floor

variable {b : Base} {f : Floor} {c : Chan} {k : Disk}

/-! The end of an attempt (R127, R140 to R143). -/

@[simp] theorem chan_orphanBurst (f : Floor) (mine : BurstWork → Bool) (c : Chan) :
    (f.orphanBurst mine).chan c = f.chan c := by
  rw [orphanBurst_eq]
  rfl

theorem orphanBurst_setChan (f : Floor) (c : Chan) (x : Channel) (mine : BurstWork → Bool) :
    (f.setChan c x).orphanBurst mine = (f.orphanBurst mine).setChan c x := by
  rw [orphanBurst_eq, orphanBurst_eq]
  rfl

/-- The floor as a channel's attempt has ended, with its disk and the first attempt's sector: nothing is buffered,
wanted or written (R123, R127). -/
def attemptOver (f : Floor) (c : Chan) (k : Disk) (first : Option Byte) : Floor :=
  (f.orphanBurst (BurstWork.isFetchOf c)).setChan c { f.chan c with
    wgate := false, wdata := none, buffer := [], fetch := []
    attempt := { Attempt.none with firstSector := first }, disk := some k }

theorem attemptOver_disk (f : Floor) (c : Chan) (k : Disk) (first : Option Byte) :
    ((f.attemptOver c k first).chan c).disk = some k := congrArg Channel.disk (chan_setChan_same _ c _)

theorem attemptOver_modChan (f : Floor) (c : Chan) (k : Disk) (first : Option Byte) (change : Disk → Disk) :
    ((f.attemptOver c k first).modChan c fun x => { x with disk := x.disk.map change }) =
      f.attemptOver c (change k) first := by
  rw [modChan, attemptOver, chan_setChan_same, setChan_setChan]
  rfl

theorem discardBuffer_attemptOver (disk : (f.chan c).disk = some k) (first : Option Byte) :
    ((f.discardBuffer c).modChan c fun x => { x with
      wgate := false, wdata := none, attempt := { Attempt.none with firstSector := first } }) =
      f.attemptOver c k first := by
  rw [discardBuffer, modChan, modChan, orphanBurst_setChan, setChan_setChan, chan_setChan_same, attemptOver, ← disk]

theorem boundaryNext_disk (disk : (f.chan c).disk = some k) :
    f.boundaryNext b c = f.boundary b c ((b.image k.slot).trackIndex k.cylinder k.head + 1) := by
  simp only [boundaryNext, disk]

theorem acceptTrack_plain (first : Option Byte) : (f.attemptOver c k first).acceptTrack b c none =
    (f.attemptOver c { k with tracksWritten := k.tracksWritten + 1 } first).boundary b c
      ((b.image k.slot).trackIndex k.cylinder k.head + 1) := by
  rw [acceptTrack, attemptOver_modChan, boundaryNext_disk (attemptOver_disk _ _ _ _)]

/-- A track accepted with a soft event (R143, R145). -/
theorem acceptTrack_soft (first : Option Byte) (cause : Cause) (sector : Option Byte) :
    (f.attemptOver c k first).acceptTrack b c (some (cause, sector)) =
      (f.attemptOver c { k with
        capture := k.capture.take ⟨false, cause, k.cylinder, k.head, sector⟩
        softCount := min 255 (k.softCount + 1), tracksWritten := k.tracksWritten + 1 } first).boundary b c
          ((b.image k.slot).trackIndex k.cylinder k.head + 1) := by
  rw [acceptTrack, attemptOver_modChan, boundaryNext_disk (attemptOver_disk _ _ _ _)]
  rfl

theorem retryTrack_attemptOver (first : Option Byte) : (f.attemptOver c k first).retryTrack b c =
    (f.attemptOver c { k with retries := k.retries + 1, totalRetries := min 65535 (k.totalRetries + 1) }
      first).beginPlan b c := by
  rw [retryTrack, attemptOver_modChan]
  rfl

theorem endAttempt_clean_first (disk : (f.chan c).disk = some k) (first : k.retries = 0) :
    f.endAttempt b c .clean = (f.attemptOver c k none).acceptTrack b c none := by
  simp only [endAttempt, disk, discardBuffer_attemptOver disk, TrackResult.sector, first, if_true, Nat.lt_irrefl,
    if_false]

/-- A CLEAN attempt after retries is RECOVERED at the sector of the first attempt (R143). -/
theorem endAttempt_clean_retried (disk : (f.chan c).disk = some k) (retried : 0 < k.retries) :
    f.endAttempt b c .clean = (f.attemptOver c k (f.chan c).attempt.firstSector).acceptTrack b c
      (some (.recovered, (f.chan c).attempt.firstSector)) := by
  simp only [endAttempt, disk, discardBuffer_attemptOver disk, if_neg (Nat.pos_iff_ne_zero.mp retried), retried,
    if_true]

theorem endAttempt_marginal (disk : (f.chan c).disk = some k) (sector : Option Byte) :
    f.endAttempt b c (.marginal sector) =
      let ended := f.attemptOver c k (if k.retries = 0 then sector else (f.chan c).attempt.firstSector)
      if k.retries < k.retryLimit then ended.retryTrack b c
      else ended.acceptTrack b c (some (.marginalAccepted, sector)) := by
  simp only [endAttempt, disk, discardBuffer_attemptOver disk, TrackResult.sector]

/-! Posting (R117). -/

theorem enterPosting_chan_same (f : Floor) (c : Chan) (outcome : DiskOutcome) :
    (f.enterPosting c outcome).chan c = (f.chan c).toPosting c outcome :=
  (chan_orphanBurst _ _ c).trans (f.chan_modChan_same c _)

theorem enterPosting_chan_other (f : Floor) {c d : Chan} (outcome : DiskOutcome) (h : d ≠ c) :
    (f.enterPosting c outcome).chan d = f.chan d :=
  (chan_orphanBurst _ _ d).trans (f.chan_modChan_other c d _ h)

theorem enterPosting_offers (f : Floor) (c : Chan) (outcome : DiskOutcome) :
    (f.enterPosting c outcome).offers = f.offers ++ [c] := by
  rw [enterPosting, orphanBurst_eq]
  rfl

end Floor

/-! The next track (R112). -/

theorem nextTrack_none {map : List TrackEntry} {i : Nat} (skips : ∀ e ∈ map.drop i, e = .skip) :
    nextTrack map i = none := by
  rw [nextTrack, Option.map_eq_none_iff, List.findIdx?_eq_none_iff]
  intro e he
  simp [skips e he]

theorem nextTrack_some {map : List TrackEntry} {i n : Nat} {e : TrackEntry} (low : i ≤ n) (entry : map[n]? = some e)
    (used : e ≠ .skip) (skips : ∀ q ∈ (map.take n).drop i, q = .skip) : nextTrack map i = some n := by
  obtain ⟨inMap, rfl⟩ := List.getElem?_eq_some_iff.mp entry
  have found : (map.drop i).findIdx? (fun e => decide (e ≠ .skip)) = some (n - i) := by
    rw [List.findIdx?_eq_some_iff_getElem]
    refine ⟨by rw [List.length_drop]; omega, ?_, fun j before => ?_⟩
    · simpa [Nat.add_sub_cancel' low] using used
    · have skip := skips map[i + j] (List.mem_iff_getElem.mpr ⟨j, by simp; omega, by simp⟩)
      simpa using skip
  rw [nextTrack, found, Option.map_some, Nat.sub_add_cancel low]

namespace Floor

variable {b : Base} {f : Floor} {c : Chan} {k : Disk}

/-! Boundaries (R112, R113, R123). -/

/-- With no track left the disk is finished (R146). -/
theorem boundary_finished (disk : (f.chan c).disk = some k) {i : Nat}
    (none : nextTrack (b.image k.slot).trackMap i = none) : f.boundary b c i =
      (f.setChan c { f.chan c with disk := some { k with retries := 0 } }).enterPosting c k.finishedOutcome := by
  simp only [boundary, disk, none]
  rfl

theorem boundary_next (disk : (f.chan c).disk = some k) {i n : Nat} {o : Opening}
    (next : nextTrack (b.image k.slot).trackMap i = some n) (opening : (b.image k.slot).opening = some o) :
    f.boundary b c i =
      let g := f.setChan c { f.chan c with
        disk := some { k with cylinder := n / o.heads, head := n % o.heads, retries := 0 }
        attempt := Attempt.none, recalSteps := 0 }
      if (f.chan c).frozen then g.modChan c Channel.pause else g.beginPlan b c := by
  simp only [boundary, disk, next, opening]
  rfl

end Floor

/-! The beginning of a track (R105, R124). -/

theorem Channel.meanPeriod_eq_some_iff {x : Channel} {mean : Nat} : x.meanPeriod = some mean ↔
    x.intervals.length = 4 ∧ mean = (x.intervals.map BitVec.toNat).sum / 4 := by
  unfold meanPeriod
  split
  · next four => simp [four, eq_comm]
  · next other => simp [other]

theorem BurstWork.isFetchOf_iff {c : Chan} {work : BurstWork} :
    work.isFetchOf c = true ↔ ∃ j, work = .fetch c j := by
  cases work <;> simp [isFetchOf]

/-- A channel as it begins a track: in PLAN, the first attempt's sector kept (R123, R124). -/
def Channel.planning (x : Channel) : Channel :=
  { x with
    state := .producing, resuming := false, phase := some .plan
    attempt := { Attempt.none with firstSector := x.attempt.firstSector } }

namespace Floor

variable {b : Base} {f : Floor} {c : Chan} {k : Disk} {mean : Nat}

theorem modChan_planning (f : Floor) (c : Chan) : (f.modChan c fun x => { x with
    state := .producing, resuming := false, phase := some .plan
    attempt := { Attempt.none with firstSector := x.attempt.firstSector } }) = f.setChan c (f.chan c).planning := rfl

theorem beginPlan_noMean (disk : (f.chan c).disk = some k) (none : (f.chan c).meanPeriod = none) :
    f.beginPlan b c = (f.setChan c (f.chan c).planning).abortDisk c .speed := by
  have held : (f.chan c).planning.disk = some k := disk
  have stands : (f.chan c).planning.meanPeriod = .none := none
  simp only [beginPlan, modChan_planning, chan_setChan_same, held, stands]

section

variable (disk : (f.chan c).disk = some k) (measured : (f.chan c).meanPeriod = some mean)

include disk measured

/-- The speed check fails the disk (R124). -/
theorem beginPlan_slow (out : entryWindow b (((b.image k.slot).entry k.cylinder k.head).bind TrackEntry.format?) mean =
    false) : f.beginPlan b c = (f.setChan c (f.chan c).planning).abortDisk c .speed := by
  have held : (f.chan c).planning.disk = some k := disk
  have stands : (f.chan c).planning.meanPeriod = some mean := measured
  simp only [beginPlan, modChan_planning, chan_setChan_same, held, stands, currentEntry, out, Bool.false_eq_true,
    if_false]

theorem beginPlan_data {format : FormatId} {offset len : Nat}
    (entry : (b.image k.slot).entry k.cylinder k.head = some (.data format offset len))
    (speed : entryWindow b (some format) mean = true) : f.beginPlan b c =
      (f.setChan c (f.chan c).planning).requestPlan b
        { channel := c, format := format, cylinder := k.cylinder, head := k.head, data := some (k.slot, offset),
          period := mean, serial := k.serial } := by
  have held : (f.chan c).planning.disk = some k := disk
  have stands : (f.chan c).planning.meanPeriod = some mean := measured
  simp only [beginPlan, modChan_planning, chan_setChan_same, held, stands, currentEntry, entry, Option.bind_some,
    TrackEntry.format?, speed, if_true]

theorem beginPlan_formatOnly {format : FormatId}
    (entry : (b.image k.slot).entry k.cylinder k.head = some (.formatOnly format))
    (speed : entryWindow b (some format) mean = true) : f.beginPlan b c =
      (f.setChan c (f.chan c).planning).requestPlan b
        { channel := c, format := format, cylinder := k.cylinder, head := k.head, data := none,
          period := mean, serial := k.serial } := by
  have held : (f.chan c).planning.disk = some k := disk
  have stands : (f.chan c).planning.meanPeriod = some mean := measured
  simp only [beginPlan, modChan_planning, chan_setChan_same, held, stands, currentEntry, entry, Option.bind_some,
    TrackEntry.format?, speed, if_true]

theorem beginPlan_erase (entry : (b.image k.slot).entry k.cylinder k.head = some .erase)
    (speed : entryWindow b none mean = true) : f.beginPlan b c =
      (f.setChan c (f.chan c).planning).setChan c
        ((f.chan c).planning.startSeek (k.cylinder * b.maxMultiplier (b.image k.slot)) k.head) := by
  have held : (f.chan c).planning.disk = some k := disk
  have stands : (f.chan c).planning.meanPeriod = some mean := measured
  have seeks : f.beginPlan b c = (f.setChan c (f.chan c).planning).seekTrack b c := by
    simp only [beginPlan, modChan_planning, chan_setChan_same, held, stands, currentEntry, entry, Option.bind_some,
      TrackEntry.format?, speed, if_true]
  rw [seeks, seekTrack, modChan, chan_setChan_same]
  simp only [held, physicalCylinder_erase entry]

end

end Floor

/-- Settles O52: the attempt's end by `Floor.endAttempt_clean_first`, `_retried` and `Floor.endAttempt_marginal`, the
boundary by the next track of the map, the beginning of a track by its entry. -/
theorem goodTracksLeadToTheNext : Obligations.GoodTracksLeadToTheNext := by
  unfold Obligations.GoodTracksLeadToTheNext
  refine ⟨fun b f c k disk => ?_, fun b f c k o i disk opening => ?_, fun b f c k disk => ?_,
    fun x mean => Channel.meanPeriod_eq_some_iff, fun c work => BurstWork.isFetchOf_iff⟩
  · refine ⟨fun fresh => ?_, fun used => ?_, fun sector spent => ?_, fun sector left => ?_⟩
    · rw [Floor.endAttempt_clean_first disk fresh]
      exact Floor.acceptTrack_plain (f := f) (c := c) (k := k) _
    · rw [Floor.endAttempt_clean_retried disk used]
      exact Floor.acceptTrack_soft (f := f) (c := c) (k := k) _ _ _
    · rw [Floor.endAttempt_marginal disk]
      simp only [if_neg (not_lt.mpr spent)]
      exact Floor.acceptTrack_soft (f := f) (c := c) (k := k) _ _ _
    · rw [Floor.endAttempt_marginal disk]
      simp only [if_pos left]
      exact Floor.retryTrack_attemptOver (f := f) (c := c) (k := k) _
  · refine ⟨fun skips => ?_, fun n e low entry used skips => ?_⟩
    · intro t
      have posted : t = _ := Floor.boundary_finished disk (nextTrack_none skips)
      have own := (congrArg (Floor.chan · c) posted :).trans (Floor.enterPosting_chan_same _ c _)
      rw [Floor.chan_setChan_same] at own
      refine ⟨?_, ?_, ?_, ?_, ?_, fun d other => ?_⟩
      · rw [own]
        rfl
      · rw [own]
        rfl
      · rw [own]
        rfl
      · rw [own]
        rfl
      · rw [posted, Floor.enterPosting_offers]
        rfl
      · rw [posted, Floor.enterPosting_chan_other _ _ other, Floor.chan_setChan_other _ _ _ _ other]
    · have next := Floor.boundary_next disk (nextTrack_some low entry used skips) opening
      refine ⟨fun frozen => ?_, fun going => ?_⟩
      · rw [next]
        simp only [frozen, if_true, Floor.modChan, Floor.chan_setChan_same, Floor.setChan_setChan]
        rfl
      · rw [next]
        simp only [going, Bool.false_eq_true, if_false]
  · refine ⟨Floor.beginPlan_noMean disk, fun mean measured => ⟨fun out => ?_,
      fun format offset len entry speed => ?_, fun format entry speed => ?_, fun entry speed => ?_⟩⟩
    · exact Floor.beginPlan_slow disk measured
        (Bool.eq_false_iff.mpr fun speed => out ((entryWindow_iff _ _ _).mp speed))
    · exact Floor.beginPlan_data disk measured entry ((entryWindow_iff _ _ _).mpr speed)
    · exact Floor.beginPlan_formatOnly disk measured entry ((entryWindow_iff _ _ _).mpr speed)
    · refine (Floor.beginPlan_erase disk measured entry ((entryWindow_iff _ _ _).mpr speed)).trans ?_
      rw [Floor.chan_setChan_same]
      rfl

end Sys2Proof.Machine

/-! SUPPORT. The requests that move a channel (R107, R113, R114, R121): what each answers at a ready port, by the
channel's state. -/

namespace Sys2Proof.Machine

section

variable {p : PortId} {s : State} {c : Chan} {v : Byte}

/-! The requests at a ready port. -/

theorem exec_enableDrive (ready : s.ready p) : exec (.enableDrive p [v]) s = .next (doEnableDrive p [v] s) :=
  next_station_ready .enableDrive ready rfl

theorem exec_disableDrive (ready : s.ready p) : exec (.disableDrive p [v]) s = .next (doDisableDrive p [v] s) :=
  next_station_ready .disableDrive ready rfl

theorem exec_freezeDrive (ready : s.ready p) : exec (.freezeDrive p [v]) s = .next (doFreezeDrive p [v] s) :=
  next_station_ready .freezeDrive ready rfl

theorem exec_resumeDrive (ready : s.ready p) : exec (.resumeDrive p [v]) s = .next (doResumeDrive p [v] s) :=
  next_station_ready .resumeDrive ready rfl

theorem exec_resetDrive (ready : s.ready p) : exec (.resetDrive p [v]) s = .next (doResetDrive p [v] s) :=
  next_station_ready .resetDrive ready rfl

theorem readChannel_byte (c : Chan) : readChannel [byte c.val] = some c := by
  rw [readChannel, num_head, slot_of_byte]

theorem readChannel_beyond (beyond : 7 < v.toNat) : readChannel [v] = none := by
  rw [readChannel, num_head, slot_beyond beyond]

/-! ENABLE DRIVE and DISABLE DRIVE (R107). -/

theorem Floor.enterBySeat_empty {f : Floor} (empty : (f.drive c).seated = false) :
    f.enterBySeat c = f.setChan c { f.chan c with state := .empty } := by
  rw [enterBySeat, empty]
  rfl

theorem Floor.enterBySeat_seated {f : Floor} (seated : (f.drive c).seated = true) : f.enterBySeat c =
    { f.setChan c { f.chan c with state := .loaded } with waiting := f.waiting ++ [c], evalDue := true } := by
  rw [enterBySeat, seated]
  rfl

theorem Floor.enterBySeat_setChan_empty {f : Floor} (x : Channel) (empty : (f.drive c).seated = false) :
    (f.setChan c x).enterBySeat c = f.setChan c { x with state := .empty } := by
  rw [Floor.enterBySeat_empty (f := f.setChan c x) empty, chan_setChan_same, setChan_setChan]

theorem Floor.enterBySeat_setChan_seated {f : Floor} (x : Channel) (seated : (f.drive c).seated = true) :
    (f.setChan c x).enterBySeat c =
      { f.setChan c { x with state := .loaded } with waiting := f.waiting ++ [c], evalDue := true } := by
  rw [Floor.enterBySeat_seated (f := f.setChan c x) seated, chan_setChan_same, setChan_setChan]
  rfl

/-- A channel that enters by its seat with the state it then has (R107, R121, entry 19). -/
theorem State.replyState_enterBySeat (s : State) (p : PortId) (c : Chan) :
    { s with floor := s.floor.enterBySeat c }.replyState p c =
      { s with floor := s.floor.enterBySeat c }.reply p [if (s.floor.drive c).seated then 2 else 1] := by
  rw [replyState]
  cases seat : (s.floor.drive c).seated with
  | false =>
    rw [Floor.enterBySeat_empty seat, Floor.chan_setChan_same]
    rfl
  | true =>
    have own : ((s.floor.enterBySeat c).chan c).state = .loaded := by
      rw [Floor.enterBySeat_seated seat]
      exact congrArg Channel.state (s.floor.chan_setChan_same c _)
    rw [own]
    rfl

theorem doEnableDrive_channel (disabled : (s.floor.chan c).state = .disabled) : doEnableDrive p [byte c.val] s =
    let t := { s with floor := s.floor.enterBySeat c }.reply p [if (s.floor.drive c).seated then 2 else 1]
    if (s.floor.drive c).seated then t.settle else t := by
  simp only [doEnableDrive, readChannel_byte, disabled, ne_eq, not_true_eq_false, if_false,
    State.replyState_enterBySeat]

theorem doEnableDrive_enabled (enabled : (s.floor.chan c).state ≠ .disabled) :
    doEnableDrive p [byte c.val] s = s.refuse p .wrongState := by
  simp only [doEnableDrive, readChannel_byte, if_pos enabled]

theorem ChannelState.disablable_iff (state : ChannelState) :
    state.disablable = true ↔ state ∉ [.disabled, .spinup, .recal, .producing, .paused, .posting, .unloading] := by
  cases state <;> decide

theorem doDisableDrive_busy (busy : (s.floor.chan c).state.disablable = false) :
    doDisableDrive p [byte c.val] s = s.refuse p .driveBusy := by
  simp only [doDisableDrive, readChannel_byte, busy, Bool.not_false, if_true]

theorem doDisableDrive_taken (disablable : (s.floor.chan c).state.disablable = true) :
    doDisableDrive p [byte c.val] s = { s with floor := { s.floor.setChan c (s.floor.chan c).disable with
      waiting := s.floor.waiting.filter fun d => decide (d ≠ c) } }.reply p [] := by
  simp only [doDisableDrive, readChannel_byte, disablable, Bool.not_true, Bool.false_eq_true, if_false]
  rfl

theorem Channel.disable_sound {x : Channel} (sound : x.state ≠ .fault) : x.disable = { x with state := .disabled } :=
  if_neg sound

theorem Channel.disable_fault {x : Channel} (fault : x.state = .fault) :
    x.disable = { x with state := .disabled, fault := none, failCount := 0 } := if_pos fault

/-! FREEZE DRIVE and RESUME DRIVE (R113, R114). -/

theorem State.replyState_setChan (s : State) (f : Floor) (p : PortId) (x : Channel) :
    { s with floor := f.setChan c x }.replyState p c =
      { s with floor := f.setChan c x }.reply p [x.state.code] := by
  rw [replyState, Floor.chan_setChan_same]

theorem State.reply_evaluateNow (s : State) (p : PortId) (payload : List Byte) : (s.reply p payload).evaluateNow =
    ({ s with floor := { s.floor with evalDue := true } }.reply p payload).settle := by
  cases p <;> rfl

theorem doFreezeDrive_channel : doFreezeDrive p [byte c.val] s =
    { s with floor := s.floor.setChan c { s.floor.chan c with frozen := true } }.reply p
      [(s.floor.chan c).state.code] := by
  simp only [doFreezeDrive, readChannel_byte]
  exact State.replyState_setChan s s.floor p _

theorem doResumeDrive_channel : doResumeDrive p [byte c.val] s =
    let t := { s with floor := s.floor.setChan c (s.floor.chan c).resume }.reply p [(s.floor.chan c).resume.state.code]
    if (s.floor.chan c).state = .loaded then t.evaluateNow else t := by
  simp only [doResumeDrive, readChannel_byte, State.replyState_setChan]

theorem Channel.resume_paused {x : Channel} (paused : x.state = .paused) :
    x.resume = { x.startSpinup true with frozen := false } := if_pos paused

theorem Channel.resume_other {x : Channel} (other : x.state ≠ .paused) : x.resume = { x with frozen := false } :=
  if_neg other

/-! RESET DRIVE (R121). -/

theorem doResetDrive_disabled (disabled : (s.floor.chan c).state = .disabled) :
    doResetDrive p [byte c.val] s = s.refuse p .wrongState := by
  simp only [doResetDrive, readChannel_byte, if_pos disabled]

theorem doResetDrive_enabled (enabled : (s.floor.chan c).state ≠ .disabled) : doResetDrive p [byte c.val] s =
    ({ s with floor := s.floor.resetDrive c }.replyState p c).settle := by
  simp only [doResetDrive, readChannel_byte, if_neg enabled]

theorem Floor.resetDrive_rest {f : Floor} (rest : (f.chan c).state ∈ [.empty, .loaded, .posting, .unloading]) :
    f.resetDrive c = f.setChan c (f.chan c).clearFaults := by
  simp only [List.mem_cons, List.not_mem_nil, or_false] at rest
  rcases rest with state | state | state | state <;> simp only [resetDrive, state, modChan]

theorem Floor.resetDrive_fault {f : Floor} (fault : (f.chan c).state = .fault) :
    f.resetDrive c = (f.setChan c (f.chan c).clearFaults).enterBySeat c := by
  simp only [resetDrive, fault, modChan]

/-- The state shown is the one entered by the seat, before the evaluation (entry 19). -/
theorem doResetDrive_fault (fault : (s.floor.chan c).state = .fault) : doResetDrive p [byte c.val] s =
    ({ s with floor := (s.floor.setChan c (s.floor.chan c).clearFaults).enterBySeat c }.reply p
      [if (s.floor.drive c).seated then 2 else 1]).settle := by
  rw [doResetDrive_enabled (by rw [fault]; decide), Floor.resetDrive_fault fault]
  exact congrArg State.settle
    (State.replyState_enterBySeat { s with floor := s.floor.setChan c (s.floor.chan c).clearFaults } p c)

/-- The disk of a channel in production is aborted and its record offered at once (R117, R121). -/
theorem Floor.resetDrive_busy {f : Floor} (busy : (f.chan c).state ∈ [.spinup, .recal, .producing, .paused]) :
    f.resetDrive c =
      let t := { f.abortDisk c .driveReset with offers := f.offers }.offer c
      t.setChan c (t.chan c).clearFaults := by
  simp only [List.mem_cons, List.not_mem_nil, or_false] at busy
  rcases busy with state | state | state | state <;> simp only [resetDrive, state, modChan]

end

/-- Settles O45: each request by what it does at the states its rule names. -/
theorem driveRequestsMoveTheChannel : Obligations.DriveRequestsMoveTheChannel := by
  unfold Obligations.DriveRequestsMoveTheChannel
  refine ⟨fun p c s ready => ?_, fun p v s ready beyond => ?_⟩
  · intro x
    refine ⟨fun disabled empty => ?_, fun disabled seated => ?_, fun enabled => ?_, fun idle => ?_, fun fault => ?_,
      fun busy => ?_, ?_, fun paused => ?_, fun loaded => ?_, fun notPaused notLoaded => ?_, fun disabled => ?_,
      fun rest => ?_, fun fault empty => ?_, fun fault seated => ?_, fun busy => ?_⟩
    · rw [exec_enableDrive ready, doEnableDrive_channel disabled, Floor.enterBySeat_empty empty]
      simp only [empty, Bool.false_eq_true, if_false]
      rfl
    · rw [exec_enableDrive ready, doEnableDrive_channel disabled, Floor.enterBySeat_seated seated]
      simp only [seated, if_true]
      rfl
    · rw [exec_enableDrive ready, doEnableDrive_enabled enabled]
    · rw [exec_disableDrive ready, doDisableDrive_taken (by rcases idle with h | h <;> rw [h] <;> rfl),
        Channel.disable_sound (by rcases idle with h | h <;> rw [h] <;> decide)]
    · rw [exec_disableDrive ready, doDisableDrive_taken (by rw [fault]; rfl), Channel.disable_fault fault]
    · rw [exec_disableDrive ready, doDisableDrive_busy (Bool.eq_false_iff.mpr fun disablable =>
        (ChannelState.disablable_iff _).mp disablable busy)]
    · rw [exec_freezeDrive ready, doFreezeDrive_channel]
    · rw [exec_resumeDrive ready, doResumeDrive_channel, Channel.resume_paused paused]
      exact congrArg _ (if_neg (by rw [paused]; decide))
    · rw [exec_resumeDrive ready, doResumeDrive_channel, Channel.resume_other (by rw [loaded]; decide), if_pos loaded,
        State.reply_evaluateNow]
      have code : ({ x with frozen := false } : Channel).state.code = 2 := congrArg ChannelState.code loaded
      rw [code]
    · rw [exec_resumeDrive ready, doResumeDrive_channel, Channel.resume_other notPaused, if_neg notLoaded]
    · rw [exec_resetDrive ready, doResetDrive_disabled disabled]
    · rw [exec_resetDrive ready, doResetDrive_enabled (fun h => by rw [h] at rest; revert rest; decide),
        Floor.resetDrive_rest rest, State.replyState_setChan]
      rfl
    · rw [exec_resetDrive ready, doResetDrive_fault fault, Floor.enterBySeat_setChan_empty _ empty, empty]
      rfl
    · rw [exec_resetDrive ready, doResetDrive_fault fault, Floor.enterBySeat_setChan_seated _ seated, seated]
      rfl
    · rw [exec_resetDrive ready, doResetDrive_enabled (fun h => by rw [h] at busy; revert busy; decide),
        Floor.resetDrive_busy busy]
      exact congrArg (fun t => Host.Outcome.next (State.settle t)) (State.replyState_setChan s _ p _)
  · have unread := readChannel_beyond beyond
    simp only [List.mem_cons, List.not_mem_nil, or_false, forall_eq_or_imp, forall_eq]
    rw [exec_enableDrive ready, exec_disableDrive ready, exec_freezeDrive ready, exec_resumeDrive ready,
      exec_resetDrive ready]
    simp only [doEnableDrive, doDisableDrive, doFreezeDrive, doResumeDrive, doResetDrive, unread, and_self]

end Sys2Proof.Machine

/-! SUPPORT. The handler's lines: the debounced SEATED change by the channel's state (R165, R166), and the level of
LINE HOLD once its change is taken (R169 to R171). -/

namespace Sys2Proof.Machine

section

variable {s : State} {c : Chan} {p : PortId}

/-! The raw level and its timer (R165). -/

theorem exec_seatedEdge_same {level : Bool} (same : (s.floor.drive c).rawSeated = level) :
    exec (.seatedEdge c level) s = .next s := congrArg _ (if_pos same)

theorem exec_seatedEdge_changes {level : Bool} (running : s.base.resetActive = false)
    (change : (s.floor.drive c).rawSeated ≠ level) : exec (.seatedEdge c level) s =
      .next { s with floor := s.floor.modDrive c fun d => d.edge level } := by
  have up : ¬s.base.resetActive = true := by rw [running]; decide
  exact congrArg _ ((if_neg change).trans (if_neg up))

theorem exec_debounceTimerExpiry (running : s.base.resetActive = false)
    (due : (s.floor.drive c).debounce = some 0) : exec (.debounceTimerExpiry c) s =
      .next { s with floor := s.floor.debounceExpiry c }.settle :=
  congrArg _ (State.channelEvent_occurs running ((timerExpired_iff _).mpr due) _)

theorem exec_debounceTimerExpiry_early (running : s.base.resetActive = false)
    (early : (s.floor.drive c).debounce ≠ some 0) : exec (.debounceTimerExpiry c) s = .next s :=
  congrArg _ (State.channelEvent_idle running (timerExpired_not early) _)

end

namespace Floor

section

variable {f : Floor} {c : Chan}

/-- The floor with the debounce timer stopped and the debounced level taken (R165). -/
def debounced (f : Floor) (c : Chan) (seated : Bool) : Floor :=
  f.modDrive c fun d => { d with debounce := none, seated := seated }

theorem debounceExpiry_same (same : (f.drive c).rawSeated = (f.drive c).seated) :
    f.debounceExpiry c = f.debounced c (f.drive c).seated := by
  rw [debounceExpiry, if_pos same, debounced, modDrive, modDrive, same]

theorem debounceExpiry_changes {level : Bool} (raw : (f.drive c).rawSeated = level)
    (change : (f.drive c).seated = !level) : f.debounceExpiry c = (f.debounced c level).seatChange c level := by
  have differ : (f.drive c).rawSeated ≠ (f.drive c).seated := by rw [raw, change]; cases level <;> decide
  rw [debounceExpiry, if_neg differ, debounced, modDrive, modDrive, raw]

/-! A debounced change, by the channel's state (R166). -/

theorem seatChange_loads (empty : (f.chan c).state = .empty) : f.seatChange c true = f.enterLoaded c := by
  simp only [seatChange, empty]

theorem seatChange_seated (other : (f.chan c).state ≠ .empty) : f.seatChange c true = f := by
  cases state : (f.chan c).state with
  | empty => exact absurd state other
  | _ => simp only [seatChange, state]

theorem seatChange_empties (loaded : (f.chan c).state = .loaded) :
    f.seatChange c false = (f.leaveWaiting c).modChan c fun x => { x with state := .empty } := by
  simp only [seatChange, loaded]

theorem seatChange_aborts (busy : (f.chan c).state ∈ [.spinup, .recal, .producing, .paused]) :
    f.seatChange c false = f.abortDisk c .diskPulled := by
  simp only [List.mem_cons, List.not_mem_nil, or_false] at busy
  rcases busy with state | state | state | state <;> simp only [seatChange, state]

theorem seatChange_marks (posting : (f.chan c).state = .posting) :
    f.seatChange c false = f.modChan c fun x => { x with removed := true } := by
  simp only [seatChange, posting]

/-- The disk has left an unloading drive: its release and bin lines fall (R118). -/
def unloaded (f : Floor) (c : Chan) : Floor :=
  (f.modChan c fun x => { x with bin := .none }).modDrive c fun d =>
    { d with release := false, bin1 := false, bin0 := false }

theorem seatChange_unloads (unloading : (f.chan c).state = .unloading) (sound : (f.chan c).fault = none) :
    f.seatChange c false = (f.unloaded c).modChan c fun x => { x with state := .empty } := by
  simp only [seatChange, unloading, sound, Option.isSome_none, Bool.false_eq_true, if_false]
  rfl

theorem seatChange_faults (unloading : (f.chan c).state = .unloading) (fault : (f.chan c).fault ≠ none) :
    f.seatChange c false = (f.unloaded c).enterFault c := by
  simp only [seatChange, unloading]
  exact if_pos (Option.isSome_iff_ne_none.mpr fault)

theorem seatChange_ignored (idle : (f.chan c).state ∈ [.disabled, .empty, .fault]) : f.seatChange c false = f := by
  simp only [List.mem_cons, List.not_mem_nil, or_false] at idle
  rcases idle with state | state | state <;> simp only [seatChange, state]

/-- The handler's lines of a drive whose disk has gone and that no longer unloads (R118). -/
def quietDrive (f : Floor) (c : Chan) : DriveLines :=
  { f.drive c with debounce := none, seated := false, release := false, bin1 := false, bin0 := false }

theorem modChan_modChan (g h : Channel → Channel) :
    (f.modChan c g).modChan c h = f.setChan c (h (g (f.chan c))) := by
  rw [modChan, modChan, chan_setChan_same, setChan_setChan]

theorem modDrive_debounced (g : DriveLines → DriveLines) : ((f.debounced c false).modDrive c g).drives =
    f.drives.set c.val (g { f.drive c with debounce := none, seated := false }) := by
  simp [debounced, modDrive, drive]

theorem modChan_unloaded_debounced (g : Channel → Channel) : ((f.debounced c false).unloaded c).modChan c g =
    { f.setChan c (g { f.chan c with bin := .none }) with drives := f.drives.set c.val (f.quietDrive c) } := by
  have chan := f.modChan_modChan (c := c) (fun x => { x with bin := .none }) g
  have lines := f.modDrive_debounced (c := c) fun d => { d with release := false, bin1 := false, bin0 := false }
  exact congr (congrArg (fun (h : Floor) (drives : Vector DriveLines 8) => { h with drives := drives }) chan) lines

/-! A change of the line in a floor whose internal contribution follows its waiter list (R169, R170). -/

theorem levelDue_eq (internal : f.line.internal = !f.ring.waiters.isEmpty) : f.levelDue = f.lineHeld := by
  rw [levelDue, ← internal]
  rfl

theorem updateLine_rises (internal : f.line.internal = !f.ring.waiters.isEmpty) (held : f.lineHeld = true)
    (free : f.line.recorded = false) :
    f.updateLine = { f with line := { f.line with recorded := true } }.post .lineChanged := by
  have level : f.levelDue = true := (levelDue_eq internal).trans held
  rw [updateLine_changes (by rw [level, free]; decide), level, ← internal, Bool.not_true, Bool.or_false]
  rfl

theorem updateLine_frees (internal : f.line.internal = !f.ring.waiters.isEmpty) (free : f.lineHeld = false)
    (held : f.line.recorded = true) : f.updateLine =
      { { f with line := { f.line with recorded := false } }.post .lineChanged with evalDue := true } := by
  have level : f.levelDue = false := (levelDue_eq internal).trans free
  rw [updateLine_changes (by rw [level, held]; decide), level, ← internal, Bool.not_false, Bool.or_true]
  rfl

theorem settle_lineRises (b : Base) (internal : f.line.internal = !f.ring.waiters.isEmpty)
    (held : f.lineHeld = true) (free : f.line.recorded = false) (notDue : f.evalDue = false)
    (none : f.offers = []) :
    f.settle b = { f with line := { f.line with recorded := true } }.post .lineChanged := by
  have taken := updateLine_rises internal held free
  exact (settleLoop_stop 64 (by rw [taken]; exact notDue) none).trans taken

/-- The line's coming free makes an evaluation due, and one that offers nothing is all that follows (R170). -/
theorem settle_lineFrees {b : Base} (internal : f.line.internal = !f.ring.waiters.isEmpty)
    (free : f.lineHeld = false) (held : f.line.recorded = true)
    (none : (({ f with line := { f.line with recorded := false } }.post .lineChanged).evaluate b).offers = []) :
    f.settle b = ({ f with line := { f.line with recorded := false } }.post .lineChanged).evaluate b := by
  have taken := updateLine_frees internal free held
  have evaluated : f.updateLine.evaluate b =
      ({ f with line := { f.line with recorded := false } }.post .lineChanged).evaluate b := by rw [taken]; rfl
  exact (settleLoop_evaluate_last 63 (by rw [taken]) (by rw [evaluated]; exact none)).trans evaluated

end

end Floor

section

variable {s : State} {p : PortId}

theorem exec_lineHoldPinChange (running : s.base.resetActive = false) (pulls : Bool) :
    exec (.lineHoldPinChange pulls) s = .next { s with floor := s.floor.handlerPulls pulls }.settle :=
  congrArg _ (State.taken_running (s := { s with floor := s.floor.handlerPulls pulls }) running _)

/-! SET LINE HOLD (R171). -/

/-- The port's own contribution to the line. -/
def Floor.pull (f : Floor) (p : PortId) (v : Bool) : Floor := f.setPort p { f.port p with lineHold := v }

theorem readFlag_flagByte (v : Bool) : readFlag [flagByte v] = some v := by
  rw [readFlag, num_head]
  cases v <;> rfl

theorem readFlag_beyond {v : Byte} (notZero : v ≠ 0) (notOne : v ≠ 1) : readFlag [v] = none := by
  have zero : v.toNat ≠ 0 := fun h => notZero (BitVec.eq_of_toNat_eq h)
  have one : v.toNat ≠ 1 := fun h => notOne (BitVec.eq_of_toNat_eq h)
  rw [readFlag, num_head]
  split
  · contradiction
  · contradiction
  · rfl

theorem exec_setLineHold (ready : s.ready p) (v : Bool) : exec (.setLineHold p [flagByte v]) s =
    let t := { s with floor := s.floor.pull p v }.settle
    .next (t.reply p [flagByte v, flagByte t.floor.lineHeld]) := by
  have done : doSetLineHold p [flagByte v] s =
      let t := { s with floor := s.floor.pull p v }.settle
      t.reply p [flagByte v, flagByte t.floor.lineHeld] := by
    rw [doSetLineHold, readFlag_flagByte]
    rfl
  exact (next_station_ready .setLineHold ready rfl).trans (congrArg Host.Outcome.next done)

/-- A pull that settles with the line held shows it held. -/
theorem exec_setLineHold_held (ready : s.ready p) {g : Floor} (settled : (s.floor.pull p true).settle s.base = g)
    (held : g.lineHeld = true) : exec (.setLineHold p [1]) s = .next ({ s with floor := g }.reply p [1, 1]) := by
  rw [show exec (.setLineHold p [1]) s = _ from exec_setLineHold ready true, State.settle]
  simp only [settled, held]
  rfl

theorem exec_setLineHold_beyond (ready : s.ready p) {v : Byte} (notZero : v ≠ 0) (notOne : v ≠ 1) :
    exec (.setLineHold p [v]) s = .next (s.refuse p .badValue) := by
  have done : doSetLineHold p [v] s = s.refuse p .badValue := by
    rw [doSetLineHold, readFlag_beyond notZero notOne]
  exact (next_station_ready .setLineHold ready rfl).trans (congrArg Host.Outcome.next done)

theorem Floor.pull_lineHeld (f : Floor) (p : PortId) : (f.pull p true).lineHeld = true := by
  cases p <;> simp [pull, setPort, lineHeld, partPulls]

/-- A pull of a line that is free holds it, and the change is taken before the reply (R170, R171). -/
theorem Floor.settle_pull_free {f : Floor} (b : Base) (p : PortId)
    (internal : f.line.internal = !f.ring.waiters.isEmpty) (free : f.line.recorded = false)
    (notDue : f.evalDue = false) (none : f.offers = []) : (f.pull p true).settle b =
      { f.pull p true with line := { f.line with recorded := true } }.post .lineChanged := by
  have held := f.pull_lineHeld p
  cases p <;> exact settle_lineRises b internal held free notDue none

theorem Floor.pull_taken_lineHeld (f : Floor) (p : PortId) :
    ({ f.pull p true with line := { f.line with recorded := true } }.post .lineChanged).lineHeld = true := by
  cases p <;> simp [pull, setPort, lineHeld, partPulls, post]

/-- A pull of a line that is held changes no level (R170). -/
theorem Floor.settle_pull_held {f : Floor} (b : Base) (p : PortId)
    (internal : f.line.internal = !f.ring.waiters.isEmpty) (held : f.line.recorded = true)
    (notDue : f.evalDue = false) (none : f.offers = []) : (f.pull p true).settle b = f.pull p true := by
  have level := f.pull_lineHeld p
  cases p <;> exact settleLoop_idle 64 ⟨held.trans level.symm, internal⟩ notDue none

end

/-- Settles O58: the SEATED timer and `Floor.seatChange` by the channel's state, then LINE HOLD by the level it had. -/
theorem theHandlersLinesAreTaken : Obligations.TheHandlersLinesAreTaken := by
  unfold Obligations.TheHandlersLinesAreTaken
  refine ⟨fun c level s running => ?_, fun pulls s running => exec_lineHoldPinChange running pulls,
    fun s running quiet free => ?_, fun s running quiet held part => ?_, fun p v s ready => exec_setLineHold ready v,
    fun p s ready quiet free => ?_, fun p s ready quiet held => ?_,
    fun p v s ready notZero notOne => exec_setLineHold_beyond ready notZero notOne⟩
  · intro d x expiry lines quietLines
    have changed {seated : Bool} (due : d.debounce = some 0) (raw : d.rawSeated = seated)
        (was : d.seated = !seated) :
        expiry = .next { s with floor := (s.floor.debounced c seated).seatChange c seated }.settle := by
      rw [← Floor.debounceExpiry_changes raw was]
      exact exec_debounceTimerExpiry running due
    refine ⟨exec_seatedEdge_same, exec_seatedEdge_changes running, exec_debounceTimerExpiry_early running,
      fun due same => ?_, fun due raw was => ?_, fun due raw was => ?_⟩
    · rw [show expiry = _ from exec_debounceTimerExpiry running due, Floor.debounceExpiry_same same]
      rfl
    · rw [changed due raw was]
      refine ⟨fun empty => ?_, fun other => ?_⟩
      · rw [Floor.seatChange_loads (f := s.floor.debounced c true) empty]
        rfl
      · rw [Floor.seatChange_seated (f := s.floor.debounced c true) other]
        rfl
    · rw [changed due raw was]
      refine ⟨fun loaded => ?_, fun busy => ?_, fun posting => ?_, fun unloading sound => ?_,
        fun unloading fault => ?_, fun idle => ?_⟩
      · rw [Floor.seatChange_empties (f := s.floor.debounced c false) loaded]
        rfl
      · rw [Floor.seatChange_aborts (f := s.floor.debounced c false) busy]
        rfl
      · rw [Floor.seatChange_marks (f := s.floor.debounced c false) posting]
        rfl
      · rw [Floor.seatChange_unloads (f := s.floor.debounced c false) unloading sound,
          Floor.modChan_unloaded_debounced]
        rfl
      · rw [Floor.seatChange_faults (f := s.floor.debounced c false) unloading fault,
          Floor.enterFault, Floor.modChan_unloaded_debounced]
        rfl
      · rw [Floor.seatChange_ignored (f := s.floor.debounced c false) idle]
        rfl
  · obtain ⟨notDue, none, recorded, internal⟩ := quiet
    rw [exec_lineHoldPinChange running, State.settle,
      Floor.settle_lineRises (f := s.floor.handlerPulls true) s.base internal (Bool.or_true _)
        (recorded.trans free) notDue none]
    rfl
  · intro freed last
    obtain ⟨notDue, none, recorded, internal⟩ := quiet
    rw [exec_lineHoldPinChange running, State.settle,
      Floor.settle_lineFrees (f := s.floor.handlerPulls false) internal ((Bool.or_false _).trans part)
        (recorded.trans held) last]
    rfl
  · obtain ⟨notDue, none, recorded, internal⟩ := quiet
    rw [exec_setLineHold_held ready (Floor.settle_pull_free s.base p internal (recorded.trans free) notDue none)
      (s.floor.pull_taken_lineHeld p)]
    rfl
  · obtain ⟨notDue, none, recorded, internal⟩ := quiet
    exact exec_setLineHold_held ready (Floor.settle_pull_held s.base p internal (recorded.trans held) notDue none)
      (s.floor.pull_lineHeld p)

end Sys2Proof.Machine

/-! SUPPORT. The capture record and the soft count over a run of events (R144, R145). -/

namespace Sys2Proof.Machine

/-- After a first event, a hard one takes the place of a soft one, and any one sets the second error flag. -/
theorem Capture.take_held (old e : CaptureEvent) (second : Bool) :
    Capture.take { held := some old, second := second } e =
      { held := some (if e.hard && !old.hard then e else old), second := true } := by
  simp only [take]
  split <;> rfl

/-- A record that holds an event, after a run of events: as if its own event had begun the run. -/
theorem Capture.foldl_take_held (events : List CaptureEvent) (old : CaptureEvent) (second : Bool) :
    events.foldl Capture.take { held := some old, second := second } =
      { held := ((old :: events).find? CaptureEvent.hard).or (some old), second := second || !events.isEmpty } := by
  induction events generalizing old second with
  | nil => cases hard : old.hard <;> simp [hard]
  | cons e rest ih =>
    rw [List.foldl_cons, take_held, ih]
    cases oldHard : old.hard <;> cases newHard : e.hard <;> simp [oldHard, newHard]

theorem Capture.foldl_take (events : List CaptureEvent) :
    events.foldl Capture.take { held := none, second := false } =
      { held := (events.find? CaptureEvent.hard).or events.head?, second := decide (2 ≤ events.length) } := by
  match events with
  | [] => rfl
  | [e] => cases hard : e.hard <;> simp [Capture.take, hard]
  | e :: f :: rest => exact (foldl_take_held (f :: rest) e false).trans (by simp)

theorem Disk.takeEvent_softCount (k : Disk) (hard : Bool) (cause : Cause) (sector : Option Byte) :
    (k.takeEvent hard cause sector).softCount = if hard then k.softCount else min 255 (k.softCount + 1) := rfl

/-- The soft count rises by one for each soft event and stays at 255 (R145). -/
theorem Disk.foldl_takeEvent_softCount (events : List (Bool × Cause × Option Byte)) (k : Disk)
    (low : k.softCount ≤ 255) : (events.foldl (fun d e => Disk.takeEvent d e.1 e.2.1 e.2.2) k).softCount =
      min 255 (k.softCount + (events.filter fun e => !e.1).length) := by
  induction events generalizing k with
  | nil => simpa using low
  | cons e rest ih =>
    have counted := k.takeEvent_softCount e.1 e.2.1 e.2.2
    cases hard : e.1 with
    | true =>
      rw [hard, if_pos rfl] at counted
      rw [List.foldl_cons, hard, ih _ (by rwa [counted]), counted, List.filter_cons_of_neg (by simp [hard])]
    | false =>
      rw [hard, if_neg Bool.false_ne_true] at counted
      rw [List.foldl_cons, hard, ih _ (by rw [counted]; omega), counted, List.filter_cons_of_pos (by simp [hard]),
        List.length_cons]
      omega

/-- Settles O56: a run of events by `Capture.foldl_take`, the soft events by `Disk.foldl_takeEvent_softCount`. -/
theorem theCaptureKeepsTheFirstHardEvent : Obligations.TheCaptureKeepsTheFirstHardEvent := by
  unfold Obligations.TheCaptureKeepsTheFirstHardEvent
  refine ⟨fun events => ?_, fun b j => ⟨rfl, rfl⟩, fun k events none => ?_⟩
  · intro record
    have run : record = _ := Capture.foldl_take events
    rw [run]
    exact ⟨rfl, rfl⟩
  · rw [Disk.foldl_takeEvent_softCount events k (by omega), none, Nat.zero_add]

end Sys2Proof.Machine

/-! SUPPORT. Underruns and BAD attempts (R131, R136, R140 to R142): the underrun a drive reports, and what becomes of
the disk when its attempt ends BAD. -/

namespace Sys2Proof.Machine

/-! Underruns (R131, R136). -/

theorem TrackPlan.sectorOf_slot {p : TrackPlan} {j : Nat} {sl : SlotPlan} (slot : p.slots[j]? = some sl) :
    p.sectorOf j = some sl.sector := by
  rw [sectorOf, slot]
  rfl

/-- An image byte is missing unless it stands at the front of the buffer (R127, R131, R136). -/
theorem SlotPlan.nextData_missing {sl : SlotPlan} {slot offset : Nat} {buffer : List (Nat × Byte)} (i : Nat)
    (source : sl.source = .image offset) (missing : ∀ raw rest, buffer ≠ (slot, raw) :: rest) :
    sl.nextData slot i buffer = none := by
  simp only [nextData, source, Option.map_eq_none_iff]
  match buffer with
  | [] => rfl
  | (t, raw) :: rest => exact if_neg fun same => missing raw rest (by rw [same])

theorem Channel.verifying_eq {x : Channel} (state : x.state = .producing) (phase : x.phase = some .verify) :
    x.verifying = true := by
  simp [verifying, state, phase]

section

variable {s : State} {c : Chan} {p : TrackPlan} {j : Nat}

theorem exec_writeUnderrun (running : s.base.resetActive = false)
    (due : (s.floor.chan c).underrunDue s.base = some (p, j)) : exec (.writeUnderrun c) s =
      .next { s with floor := s.floor.endAttempt s.base c (.bad .underrun (p.sectorOf j)) }.settle := by
  refine (congrArg _ (State.channelEvent_occurs running (by rw [due]; rfl) _)).trans ?_
  simp only [due]
  rfl

theorem exec_verifyUnderrun (running : s.base.resetActive = false) (verifying : (s.floor.chan c).verifying = true)
    (at0 : (s.floor.chan c).verifyUnderrunSlot = some (p, j)) : exec (.verifyUnderrun c) s =
      .next { s with floor := s.floor.endAttempt s.base c (.bad .underrun (p.sectorOf j)) }.settle := by
  refine (congrArg _ (State.channelEvent_occurs running (by rw [verifying, at0]; rfl) _)).trans ?_
  simp only [at0]

end

namespace Channel

variable {x : Channel} {p : TrackPlan} {sl : SlotPlan} {j i : Nat}

/-- The write pass underruns at a DATA byte that is due and not there (R131). -/
theorem underrunDue_dataByte {b : Base} {st : WriteStream} (state : x.state = .producing)
    (phase : x.phase = some .write) (stream : x.attempt.stream = some st) (plan : x.attempt.plan = some p)
    (due : st.position * 8000 ≤ sinceEdge b x * p.layout.rate) (item : p.layout.itemAt st.position = .dataByte j i)
    (slot : p.slots[j]? = some sl) (missing : sl.nextData j i x.buffer = none) : x.underrunDue b = some (p, j) := by
  have writing := writing_eq state phase stream
  have come : x.byteDue b = true := by
    simp only [byteDue, writing, writeLayout_planned b plan, reached, due, decide_true]
  have stands : x.underrunSlot st = some j := by
    simp [underrunSlot, writeItem, plan, item, slot, missing]
  simp only [underrunDue, writing, plan, come, if_true, stands, Option.map_some]

/-- The verify pass underruns at a DATA byte whose expected byte is not there (R136). -/
theorem verifyUnderrunSlot_data {r : ReadSide} {rest : List Nat} {crc : Word16} {differs : Bool}
    (plan : x.attempt.plan = some p) (read : x.attempt.read = some r) (slots : r.slots = j :: rest)
    (phase : r.phase = .data i crc differs) (slot : p.slots[j]? = some sl)
    (missing : sl.nextData j i x.buffer = none) : x.verifyUnderrunSlot = some (p, j) := by
  simp [verifyUnderrunSlot, plan, read, slots, phase, slot, missing]

end Channel

/-! A BAD attempt (R140 to R142). -/

namespace Floor

variable {b : Base} {f : Floor} {c : Chan} {k : Disk}

theorem attemptOver_chan_other (f : Floor) {c d : Chan} (k : Disk) (first : Option Byte) (other : d ≠ c) :
    (f.attemptOver c k first).chan d = f.chan d :=
  (chan_setChan_other _ c d _ other).trans (chan_orphanBurst f _ d)

/-- The end of an attempt changes nothing but the channel and the burst. -/
theorem attemptOver_frame (f : Floor) (c : Chan) (k : Disk) (first : Option Byte) : f.attemptOver c k first =
    { f with channels := (f.attemptOver c k first).channels, burst := (f.attemptOver c k first).burst } := by
  rw [attemptOver, orphanBurst_eq]
  rfl

/-- Posting changes nothing but the channel, the burst and the offers. -/
theorem enterPosting_frame (f : Floor) (c : Chan) (outcome : DiskOutcome) : f.enterPosting c outcome =
    { f with
      channels := (f.enterPosting c outcome).channels, burst := (f.enterPosting c outcome).burst
      offers := f.offers ++ [c] } := by
  rw [enterPosting, orphanBurst_eq]
  rfl

theorem endAttempt_bad (disk : (f.chan c).disk = some k) (cause : Cause) (sector : Option Byte) :
    f.endAttempt b c (.bad cause sector) =
      let ended := f.attemptOver c k (if k.retries = 0 then sector else (f.chan c).attempt.firstSector)
      if k.retries < k.retryLimit then ended.retryTrack b c else ended.failTrack c cause sector := by
  simp only [endAttempt, disk, discardBuffer_attemptOver disk, TrackResult.sector]

theorem failTrack_attemptOver (first : Option Byte) (cause : Cause) (sector : Option Byte) :
    (f.attemptOver c k first).failTrack c cause sector =
      (f.attemptOver c (k.takeEvent true cause sector) first).enterPosting c .fail := by
  rw [failTrack, attemptOver_modChan]

/-- With no retries left the disk fails (R141). -/
theorem endAttempt_fails (disk : (f.chan c).disk = some k) (spent : k.retryLimit ≤ k.retries) (cause : Cause)
    (sector : Option Byte) : f.endAttempt b c (.bad cause sector) =
      (f.attemptOver c (k.takeEvent true cause sector)
        (if k.retries = 0 then sector else (f.chan c).attempt.firstSector)).enterPosting c .fail := by
  rw [endAttempt_bad disk]
  exact (if_neg (not_lt.mpr spent)).trans (failTrack_attemptOver _ cause sector)

/-- With retries left the track is planned again (R142). -/
theorem endAttempt_retries (disk : (f.chan c).disk = some k) (left : k.retries < k.retryLimit) (cause : Cause)
    (sector : Option Byte) : f.endAttempt b c (.bad cause sector) =
      (f.attemptOver c { k with retries := k.retries + 1, totalRetries := min 65535 (k.totalRetries + 1) }
        (if k.retries = 0 then sector else (f.chan c).attempt.firstSector)).beginPlan b c := by
  rw [endAttempt_bad disk]
  exact (if_pos left).trans (retryTrack_attemptOver _)

end Floor

/-- Settles O53: the underruns by what `SlotPlan.nextData_missing` says of an empty buffer, a BAD attempt by
`Floor.endAttempt_fails` and `Floor.endAttempt_retries`. -/
theorem underrunsEndTheAttempt : Obligations.UnderrunsEndTheAttempt := by
  unfold Obligations.UnderrunsEndTheAttempt
  refine ⟨fun c st p sl j i offset s running state phase stream plan due item slot source empty => ?_,
    fun c r p sl j count offset rest crc differs s running state phase read plan slots data slot source empty => ?_,
    fun b f c k cause sector disk => ?_⟩
  · have missing := sl.nextData_missing (slot := j) (buffer := (s.floor.chan c).buffer) i source (by simp [empty])
    rw [exec_writeUnderrun running (Channel.underrunDue_dataByte state phase stream plan due item slot missing),
      TrackPlan.sectorOf_slot slot]
  · have missing := sl.nextData_missing (slot := j) (buffer := (s.floor.chan c).buffer) count source (by simp [empty])
    rw [exec_verifyUnderrun running (Channel.verifying_eq state phase)
      (Channel.verifyUnderrunSlot_data plan read slots data slot missing), TrackPlan.sectorOf_slot slot]
  · intro t
    refine ⟨fun spent => ?_, fun fmt offset len mean left entry measured speed => ?_⟩
    · have posted : t = _ := Floor.endAttempt_fails disk spent cause sector
      have own := (congrArg (Floor.chan · c) posted).trans (Floor.enterPosting_chan_same _ c _)
      rw [Floor.attemptOver, Floor.chan_setChan_same] at own
      have frame := posted.trans ((Floor.enterPosting_frame _ c _).trans (by rw [Floor.attemptOver_frame]))
      refine ⟨?_, ?_, ?_, ?_, ?_, ?_, ?_, ?_, ?_, fun d other => ?_, ?_, ?_, ?_⟩
      iterate 5 · rw [own]; rfl
      · rw [frame]
      iterate 3 · rw [own]; rfl
      · rw [posted, Floor.enterPosting_chan_other _ _ other, Floor.attemptOver_chan_other _ _ _ other]
      iterate 3 · rw [frame]
    · have planned := (Floor.endAttempt_retries (b := b) disk left cause sector).trans
        (Floor.beginPlan_data (mean := mean) (Floor.attemptOver_disk _ _ _ _) (by
          rw [Floor.attemptOver, Floor.chan_setChan_same]; exact measured) entry ((entryWindow_iff _ _ _).mpr speed))
      have own : (t.chan c) = _ := (congrArg (Floor.chan · c) planned).trans (Floor.chan_setChan_same _ c _)
      rw [Floor.attemptOver, Floor.chan_setChan_same] at own
      have frame : t = _ := planned.trans (by rw [Floor.attemptOver_frame])
      refine ⟨?_, ?_, ?_, ?_, ?_, ?_, fun d other => ?_, ?_, ?_, ?_, ?_⟩
      iterate 6 · rw [own]; rfl
      · exact (congrArg (Floor.chan · d) planned).trans ((Floor.chan_setChan_other _ c d _ other).trans
          (Floor.attemptOver_chan_other _ _ _ other))
      iterate 4 · rw [frame]; rfl

end Sys2Proof.Machine

/-! SUPPORT. Passes that end at the INDEX edge (R130, R132, R133, R135, R137 to R140): the slot an overrun names, the
results a pass closes with, and the track result or the second pass they lead to. -/

namespace Sys2Proof.Machine

/-! The results a pass closes with (R135, R138). -/

theorem getElem?_foldl_set {α : Type} (slots : List Nat) (v : α) (l : List α) (j : Nat) :
    (slots.foldl (fun rs i => rs.set i v) l)[j]? = if j ∈ slots then l[j]?.map fun _ => v else l[j]? := by
  induction slots generalizing l with
  | nil => simp
  | cons i rest ih =>
    rw [List.foldl_cons, ih, List.getElem?_set']
    by_cases here : i = j
    · cases l[j]? <;> simp [here]
    · simp [here, Ne.symm here]

/-- The results with every slot still to be read MISSING. -/
def ReadSide.missed (r : ReadSide) (results : List (Option SlotResult)) : List (Option SlotResult) :=
  r.slots.foldl (fun rs j => rs.set j (some .missing)) results

theorem ReadSide.getElem?_missed (r : ReadSide) (results : List (Option SlotResult)) (j : Nat) :
    (r.missed results)[j]? =
      if j ∈ r.slots then results[j]?.map fun _ => some SlotResult.missing else results[j]? :=
  getElem?_foldl_set r.slots (some SlotResult.missing) results j

namespace Attempt

variable {a : Attempt} {r : ReadSide} {j : Nat}

theorem closeResults_ended {i : Nat} {result : SlotResult} (read : a.read = some r) (first : r.slots.head? = some i)
    (ended : r.phase = .ended result) :
    a.closeResults = (r.missed a.results).set i (some (verdict a.pass result)) := by
  obtain ⟨rest, slots⟩ := List.head?_eq_some_iff.mp first
  simp only [closeResults, ReadSide.missed, read, slots, ended]

theorem closeResults_reading (read : a.read = some r)
    (reading : ∀ i result, r.slots.head? = some i → r.phase ≠ .ended result) :
    a.closeResults = r.missed a.results := by
  simp only [closeResults, read]
  split
  · next i rest result slots ended => exact absurd ended (reading i result (by rw [slots]; rfl))
  · rfl

/-- Only the slot whose reading has just ended has a result of its own; the others to be read are MISSING. -/
theorem getElem?_closeResults (read : a.read = some r)
    (here : ∀ result, r.slots.head? = some j → r.phase ≠ .ended result) :
    a.closeResults[j]? = (r.missed a.results)[j]? := by
  by_cases ended : ∃ i result, r.slots.head? = some i ∧ r.phase = .ended result
  · obtain ⟨i, result, first, phase⟩ := ended
    rw [closeResults_ended read first phase, List.getElem?_set_ne]
    rintro rfl
    exact here result first phase
  · rw [closeResults_reading read fun i result first phase => ended ⟨i, result, first, phase⟩]

end Attempt

/-! The slots that failed (R137 to R139). -/

theorem SlotResult.any_good_iff (r : Option SlotResult) :
    r.any SlotResult.good = true ↔ r = some .ok ∨ r = some .marginal := by
  cases r with
  | none => simp
  | some r => cases r <;> simp [good]

theorem failedSlots_eq (results : List (Option SlotResult)) : failedSlots results =
    (List.range results.length).filter fun j => !(results.getD j none).any SlotResult.good := by
  unfold failedSlots
  congr 1
  funext j
  cases results.getD j none <;> rfl

theorem mem_failedSlots {results : List (Option SlotResult)} {j : Nat} (within : j < results.length) :
    j ∈ failedSlots results ↔ results[j]? ≠ some (some .ok) ∧ results[j]? ≠ some (some .marginal) := by
  rw [failedSlots_eq, List.mem_filter, List.mem_range, and_iff_right within, Bool.not_eq_true', ← Bool.not_eq_true,
    SlotResult.any_good_iff, not_or, List.getElem?_eq_getElem within, List.getD_eq_getElem _ _ within]
  simp

theorem failedSlots_ascend (results : List (Option SlotResult)) : (failedSlots results).Pairwise (· < ·) :=
  List.pairwise_lt_range.filter _

theorem curable_iff (results : List (Option SlotResult)) (j : Nat) :
    ((results.getD j none).map SlotResult.curable).getD false = true ↔
      results[j]? ∈ [some (some .missing), some (some .headerCrc), some (some .dataCrc)] := by
  rw [List.getD_eq_getElem?_getD]
  match results[j]? with
  | none => simp
  | some none => simp
  | some (some r) => cases r <;> simp [SlotResult.curable]

/-- When a verify pass is followed by a second one (R137). -/
def Disk.WantsSecondPass (k : Disk) (pass : Nat) (results : List (Option SlotResult)) : Prop :=
  pass = 1 ∧ k.window ≠ .full ∧ failedSlots results ≠ [] ∧ ∀ j ∈ failedSlots results,
    results[j]? ∈ [some (some .missing), some (some .headerCrc), some (some .dataCrc)]

theorem Disk.wantsSecondPass_iff {k : Disk} {pass : Nat} {results : List (Option SlotResult)} :
    k.WantsSecondPass pass results ↔ pass = 1 ∧ k.window ≠ .full ∧ failedSlots results ≠ [] ∧
      (failedSlots results).all (fun j => ((results.getD j none).map SlotResult.curable).getD false) = true := by
  simp only [WantsSecondPass, List.all_eq_true, curable_iff]

/-! The track result (R140). -/

section

variable {results front back : List (Option SlotResult)}

theorem failedSlots_good (good : ∀ r ∈ results, r.any SlotResult.good = true) : failedSlots results = [] := by
  rw [failedSlots_eq, List.filter_eq_nil_iff]
  intro j mem
  have within := List.mem_range.mp mem
  rw [List.getD_eq_getElem _ _ within, good _ (List.getElem_mem within)]
  exact Bool.false_ne_true

theorem failedSlots_first {bad : Option SlotResult} (good : ∀ r ∈ front, r.any SlotResult.good = true)
    (failed : bad.any SlotResult.good = false) :
    (failedSlots (front ++ bad :: back)).head? = some front.length := by
  rw [failedSlots_eq, List.head?_filter, List.find?_range_eq_some]
  refine ⟨by simp [failed], by simp, fun j before => ?_⟩
  rw [List.getD_append _ _ _ _ before, List.getD_eq_getElem _ _ before, good _ (List.getElem_mem before)]
  rfl

theorem verifyResult_bad {p : TrackPlan} {result : SlotResult} (good : ∀ r ∈ front, r.any SlotResult.good = true)
    (failed : result.good = false) :
    verifyResult p (front ++ some result :: back) = .bad result.cause (p.sectorOf front.length) := by
  have first := failedSlots_first (bad := some result) (back := back) good failed
  obtain ⟨rest, slots⟩ := List.head?_eq_some_iff.mp first
  simp [verifyResult, slots]

theorem verifyResult_clean (p : TrackPlan) (ok : ∀ r ∈ results, r = some .ok) : verifyResult p results = .clean := by
  have noMarginal : results.findIdx? (fun r => decide (r = some SlotResult.marginal)) = none := by
    rw [List.findIdx?_eq_none_iff]
    intro r mem
    simp [ok r mem]
  simp only [verifyResult, failedSlots_good fun r mem => (SlotResult.any_good_iff r).mpr (.inl (ok r mem)), noMarginal]

theorem verifyResult_marginal (p : TrackPlan) (ok : ∀ r ∈ front, r = some .ok)
    (good : ∀ r ∈ back, r.any SlotResult.good = true) :
    verifyResult p (front ++ some .marginal :: back) = .marginal (p.sectorOf front.length) := by
  have noneFailed : failedSlots (front ++ some .marginal :: back) = [] := failedSlots_good fun r mem => by
    rcases List.mem_append.mp mem with before | rest
    · rw [ok r before]
      rfl
    · rcases List.mem_cons.mp rest with rfl | after
      · rfl
      · exact good r after
  have firstMarginal : (front ++ some SlotResult.marginal :: back).findIdx?
      (fun r => decide (r = some SlotResult.marginal)) = some front.length := by
    rw [List.findIdx?_append, List.findIdx?_eq_none_iff.mpr fun r mem => by simp [ok r mem], List.findIdx?_cons]
    simp
  simp only [verifyResult, noneFailed, firstMarginal]

end

/-- The failures and the causes they give a BAD track (R140). -/
def failureCauses : List (SlotResult × Cause) :=
  [(.missing, .missing), (.headerMismatch, .headerMismatch), (.headerCrc, .headerCrc),
   (.markMismatch, .markMismatch), (.dataCrc, .dataCrc), (.dataMismatch, .dataMismatch)]

theorem failureCauses_spec : ∀ v ∈ failureCauses, v.1.good = false ∧ v.1.cause = v.2 := by decide

/-! The slot an overrun names (R132, entries 11 and 15). -/

theorem overrunSlot_lt {p : TrackPlan} {position : Nat} (draws : Nat) (early : position < p.layout.fixedPart)
    (sectors : 0 < p.layout.sectors) : overrunSlot p position draws < p.layout.sectors := by
  rw [overrunSlot, if_pos early]
  exact Nat.mod_lt _ sectors

theorem overrunSlot_sector {p : TrackPlan} {position j : Nat} (draws : Nat)
    (start : p.layout.fixedPart + j * p.layout.sectorLen ≤ position)
    (before : position < p.layout.fixedPart + (j + 1) * p.layout.sectorLen) : overrunSlot p position draws = j := by
  rw [overrunSlot, if_neg (by omega)]
  exact Nat.div_eq_of_lt_le (by omega) (by omega)

/-! The end of a pass by its phase. -/

/-- The interval history after an edge: the newest four (R104). -/
def Channel.intervalsAfter (x : Channel) (now : Word32) : List Word32 :=
  match x.lastStamp with
  | none => x.intervals
  | some stamp => (x.intervals ++ [now - stamp]).drop (x.intervals.length - 3)

theorem Channel.captureEdge_eq {x : Channel} (now : Word32) (few : x.intervals.length ≤ 4) :
    x.captureEdge now = { x with lastStamp := some now, intervals := x.intervalsAfter now } := by
  cases stamp : x.lastStamp with
  | none => rw [captureEdge_first now few stamp, intervalsAfter, stamp]
  | some last => rw [captureEdge_next now few stamp, intervalsAfter, stamp]

theorem startRead_allSlots (p : TrackPlan) : startRead p.layout p.allSlots =
    { slots := List.range p.slots.length, phase := .seekHeader, prefixes := 0, spill := false
      searchFrom := p.layout.fixedPart - markAllowance p.layout.encoding } := by
  have first : (List.range p.slots.length).headD 0 = 0 := by
    cases p.slots.length <;> simp [List.range_succ_eq_map]
  rw [startRead, TrackPlan.allSlots, first, Descriptor.headerAt, Nat.zero_mul, Nat.add_zero]

namespace Floor

variable {b : Base} {f : Floor} {c : Chan} {k : Disk} {st : WriteStream} {p : TrackPlan}

theorem producingEdge_endsWrite (write : (f.chan c).phase = some .write) (disk : (f.chan c).disk = some k)
    (stream : (f.chan c).attempt.stream = some st) : f.producingEdge b c = f.endWrite b c k st := by
  simp only [producingEdge, write, disk, stream]

theorem producingEdge_endsVerify (verify : (f.chan c).phase = some .verify) (disk : (f.chan c).disk = some k)
    (plan : (f.chan c).attempt.plan = some p) : f.producingEdge b c = f.endVerifyPass b c p k := by
  simp only [producingEdge, verify, disk, plan]

theorem endWrite_erase (erase : (f.chan c).attempt.plan = none) : f.endWrite b c k st = f.endAttempt b c .clean := by
  simp only [endWrite, erase]

theorem endWrite_overrun (plan : (f.chan c).attempt.plan = some p)
    (early : st.position < p.layout.used - p.layout.sectorGap) : f.endWrite b c k st =
      { f with freeDraws := f.freeDraws + 1 }.endAttempt b c
        (.bad .overrun (p.sectorOf (overrunSlot p st.position f.freeDraws))) := by
  simp only [endWrite, plan]
  exact if_pos (by omega)

section

variable (plan : (f.chan c).attempt.plan = some p) (written : p.layout.used - p.layout.sectorGap ≤ st.position)

include plan written

theorem endWrite_unverified (unverified : k.verified = false) : f.endWrite b c k st = f.endAttempt b c .clean := by
  simp only [endWrite, plan, unverified, Bool.false_eq_true, if_false]
  exact if_neg (by omega)

theorem endWrite_verified (verified : k.verified = true) :
    f.endWrite b c k st = f.setChan c ((f.chan c).startVerify p) := by
  simp only [endWrite, plan, verified, if_true]
  exact if_neg (by omega)

end

theorem endVerifyPass_again (again : k.WantsSecondPass (f.chan c).attempt.pass (f.chan c).attempt.closeResults) :
    f.endVerifyPass b c p k = f.startSecondPass c p (f.chan c).attempt.closeResults
      (failedSlots (f.chan c).attempt.closeResults) := if_pos (Disk.wantsSecondPass_iff.mp again)

theorem endVerifyPass_last (last : ¬k.WantsSecondPass (f.chan c).attempt.pass (f.chan c).attempt.closeResults) :
    f.endVerifyPass b c p k = f.endAttempt b c (verifyResult p (f.chan c).attempt.closeResults) :=
  if_neg fun again => last (Disk.wantsSecondPass_iff.mpr again)

/-- The second pass begins with an empty buffer and the bytes of the failed slots to fetch (R138). -/
theorem startSecondPass_eq (f : Floor) (c : Chan) (p : TrackPlan) (results : List (Option SlotResult))
    (failed : List Nat) : f.startSecondPass c p results failed =
      (f.orphanBurst (BurstWork.isFetchOf c)).setChan c { f.chan c with
        buffer := [], fetch := p.fetchList failed
        attempt := { (f.chan c).attempt with
          pass := 2, results := results, read := some (startRead p.layout failed) } } := by
  rw [startSecondPass, discardBuffer, modChan, modChan, orphanBurst_setChan, setChan_setChan, chan_setChan_same]

end Floor

/-- Settles O51: a write pass by where its stream stands, a verify pass by the results it closes with, and those results
slot by slot. -/
theorem passesEndAtTheIndexEdge : Obligations.PassesEndAtTheIndexEdge := by
  unfold Obligations.PassesEndAtTheIndexEdge
  refine ⟨fun c k s running few => ?_, fun a r j read within => ?_, fun p front back => ?_, fun p j => rfl⟩
  · intro x captured f motor producing disk
    have capture : { x.captureEdge s.base.timebase with watchdog := some 500000 } = captured := by
      rw [Channel.captureEdge_eq _ few]
      rfl
    have own : f.chan c = captured := s.floor.chan_setChan_same c captured
    have edge {t : Floor} (pass : f.producingEdge s.base c = t) :
        exec (.indexEdge c) s = .next { s with floor := t }.settle := by
      rw [exec_indexEdge running motor, Floor.indexEdge_producing producing, capture, ← pass]
    refine ⟨fun st write stream => ?_, fun p r verify plan read => ?_⟩
    · have ends : f.producingEdge s.base c = f.endWrite s.base c k st :=
        Floor.producingEdge_endsWrite (by rwa [own]) (by rwa [own]) (by rwa [own])
      refine ⟨fun erase => edge (ends.trans (Floor.endWrite_erase (by rwa [own]))), fun p plan => ?_⟩
      have planned : (f.chan c).attempt.plan = some p := by rwa [own]
      refine ⟨fun early => ?_, fun written => ⟨fun unverified => ?_, fun verified => ?_⟩⟩
      · have overrun := edge (ends.trans (Floor.endWrite_overrun planned early))
        refine ⟨fun j start before => ?_, fun fixed sectors => ⟨_, overrunSlot_lt _ fixed sectors, overrun⟩⟩
        rw [overrun, overrunSlot_sector _ start before]
      · exact edge (ends.trans (Floor.endWrite_unverified planned written unverified))
      · refine edge (ends.trans ((Floor.endWrite_verified planned written verified).trans ?_))
        rw [own, Floor.setChan_setChan, Channel.startVerify, startRead_allSlots]
        rfl
    · intro results failed second
      have ends : f.producingEdge s.base c = f.endVerifyPass s.base c p k :=
        Floor.producingEdge_endsVerify (by rwa [own]) (by rwa [own]) (by rwa [own])
      have closed : (f.chan c).attempt.closeResults = results := by rw [own]
      have pass : (f.chan c).attempt.pass = x.attempt.pass := by rw [own]
      refine ⟨fun again => ?_, fun last => ?_⟩
      · have goesOn := ends.trans ((Floor.endVerifyPass_again (by rwa [pass, closed])).trans
          (Floor.startSecondPass_eq f c p _ _))
        refine ⟨_, edge goesOn, ?_, fun d other => ?_, ?_⟩
        · rw [Floor.chan_setChan_same, closed, own]
          rfl
        · rw [Floor.chan_setChan_other _ _ _ _ other, Floor.chan_orphanBurst, Floor.chan_setChan_other _ _ _ _ other]
        · rw [Floor.orphanBurst_eq]
          exact ⟨rfl, rfl, rfl, rfl⟩
      · rw [edge (ends.trans (Floor.endVerifyPass_last (by rwa [pass, closed]))), closed]
  · have missed := r.getElem?_missed a.results j
    refine ⟨fun unsought => ?_, fun result first ended => ?_, fun sought notEnded => ?_, mem_failedSlots within,
      failedSlots_ascend _⟩
    · rw [Attempt.getElem?_closeResults read fun _ first => absurd (List.mem_of_mem_head? first) unsought, missed,
        if_neg unsought]
    · rw [Attempt.closeResults_ended read first ended, List.getElem?_set_self', missed,
        if_pos (List.mem_of_mem_head? first), List.getElem?_eq_getElem within]
      rfl
    · have reading (result : SlotResult) (first : r.slots.head? = some j) : r.phase ≠ .ended result :=
        notEnded.resolve_left (not_not.mpr first) result
      rw [Attempt.getElem?_closeResults read reading, missed, if_pos sought, List.getElem?_eq_getElem within]
      rfl
  · intro ok good
    refine ⟨verifyResult_clean p, fun allOk rest => ?_, fun result cause mem allGood => ?_⟩
    · exact verifyResult_marginal p allOk fun r mem => (SlotResult.any_good_iff r).mpr (rest r mem)
    · have failed := failureCauses_spec (result, cause) mem
      rw [verifyResult_bad (fun r mem => (SlotResult.any_good_iff r).mpr (allGood r mem)) failed.1, failed.2]

end Sys2Proof.Machine

/-! SUPPORT. The read side of a verify pass (R133 to R136, R138): one decoded byte in each phase of the slot's reading,
and the result VERIFY_SLOT_RESULT gives it. -/

namespace Sys2Proof.Machine

/-! Marks (R8, R134). -/

/-- The byte A1 hex with its missing transition, which stands before each mark in MFM. -/
def PrefixByte (e : Encoding) (clock value : Byte) : Prop := e = .mfm ∧ value = 0xA1 ∧ clock = 0x0A

/-- A mark: what follows three such bytes in MFM, clock pattern C7 hex in FM. -/
def MarkByte (e : Encoding) (prefixes : Nat) (clock value : Byte) : Prop :=
  match e with
  | .mfm => 3 ≤ prefixes ∧ ¬PrefixByte e clock value
  | .fm => clock = 0xC7

theorem isMarkPrefix_iff {e : Encoding} {clock value : Byte} :
    isMarkPrefix e clock value = true ↔ PrefixByte e clock value := by
  rw [isMarkPrefix, Bool.and_eq_true, Bool.and_eq_true, decide_eq_true_iff, decide_eq_true_iff, decide_eq_true_iff,
    and_assoc]
  rfl

theorem isMark_iff {e : Encoding} {prefixes : Nat} {clock value : Byte} :
    isMark e prefixes clock value = true ↔ MarkByte e prefixes clock value := by
  cases e with
  | mfm => rw [isMark, Bool.and_eq_true, decide_eq_true_iff, Bool.not_eq_true', ← Bool.not_eq_true, isMarkPrefix_iff,
      MarkByte]
  | fm => exact decide_eq_true_iff

theorem prefixesAfter_prefix {e : Encoding} {clock value : Byte} (prefixes : Nat)
    (isPrefix : PrefixByte e clock value) : prefixesAfter e prefixes clock value = prefixes + 1 := if_pos (isMarkPrefix_iff.mpr isPrefix)

theorem prefixesAfter_other {e : Encoding} {clock value : Byte} (prefixes : Nat) (other : ¬PrefixByte e clock value) :
    prefixesAfter e prefixes clock value = 0 := if_neg fun isPrefix => other (isMarkPrefix_iff.mp isPrefix)

/-! One decoded byte, by the phase of the slot's reading (R135, R136). -/

/-- The limit of a slot's header mark (R135). -/
def Descriptor.headerLimit (d : Descriptor) (j : Nat) : Nat :=
  d.headerAt j + headerMarkEnd d.encoding + markAllowance d.encoding

/-- The limit of a slot's data mark (R135). -/
def Descriptor.dataLimit (d : Descriptor) (j : Nat) : Nat :=
  d.headerAt j + dataMarkEnd d.encoding + markAllowance d.encoding

section

variable {b : Base} {x : Channel} {p : TrackPlan} {sl : SlotPlan} {j : Nat} {r : ReadSide} {clock value : Byte}

/-- What ends the search for a header mark: the mark, between the search start and its limit (R135, entry 32). -/
def HeaderFound (b : Base) (x : Channel) (p : TrackPlan) (j : Nat) (r : ReadSide) (clock value : Byte) : Prop :=
  MarkByte p.layout.encoding r.prefixes clock value ∧ value = 0xFE ∧
    r.searchFrom * 8000 ≤ sinceEdge b x * p.layout.rate ∧
    sinceEdge b x * p.layout.rate ≤ p.layout.headerLimit j * 8000

/-- What ends the search for a data mark: any mark up to its limit (R135). -/
def DataFound (b : Base) (x : Channel) (p : TrackPlan) (j : Nat) (r : ReadSide) (clock value : Byte) : Prop :=
  MarkByte p.layout.encoding r.prefixes clock value ∧
    sinceEdge b x * p.layout.rate ≤ p.layout.dataLimit j * 8000

/-- The read side as its search goes on. -/
def ReadSide.sought (r : ReadSide) (e : Encoding) (clock value : Byte) : ReadSide :=
  { r with prefixes := prefixesAfter e r.prefixes clock value }

theorem headerFound_iff : (isMark p.layout.encoding r.prefixes clock value && decide (value = 0xFE) &&
    reached b x p.layout.rate r.searchFrom && notPast b x p.layout.rate (p.layout.headerAt j +
      headerMarkEnd p.layout.encoding + markAllowance p.layout.encoding)) = true ↔
    HeaderFound b x p j r clock value := by
  simp only [Bool.and_eq_true, isMark_iff, decide_eq_true_eq, reached, notPast, HeaderFound, Descriptor.headerLimit,
    and_assoc]

theorem dataFound_iff : (isMark p.layout.encoding r.prefixes clock value && notPast b x p.layout.rate
    (p.layout.headerAt j + dataMarkEnd p.layout.encoding + markAllowance p.layout.encoding)) = true ↔
    DataFound b x p j r clock value := by
  simp only [Bool.and_eq_true, isMark_iff, decide_eq_true_eq, notPast, DataFound, Descriptor.dataLimit]

section

variable (phase : r.phase = .seekHeader)

include phase

theorem readStep_headerMark (found : HeaderFound b x p j r clock value) : readStep b x p sl j r clock value =
    some ({ r with phase := .header [], prefixes := 0 }, x.buffer) := by
  simp only [readStep, phase, headerFound_iff.mpr found, if_true]

theorem readStep_headerSought (notYet : ¬HeaderFound b x p j r clock value) : readStep b x p sl j r clock value =
    some (r.sought p.layout.encoding clock value, x.buffer) := by
  simp only [readStep, phase, if_neg (headerFound_iff.not.mpr notYet), ReadSide.sought]

end

section

variable {got : List Byte} (phase : r.phase = .header got)

include phase

theorem readStep_headerByte (few : got.length < 5) : readStep b x p sl j r clock value =
    some ({ r with phase := .header (got ++ [value]) }, x.buffer) := by
  simp only [readStep, phase]
  exact if_pos (by rw [List.length_append, List.length_singleton]; omega)

/-- The sixth byte after the header mark decides tests 2 and 3 (R135). -/
theorem readStep_headerTested (five : got.length = 5) : readStep b x p sl j r clock value =
    some ({ r with phase := headerTest p.layout.encoding sl (got ++ [value]), prefixes := 0 }, x.buffer) := by
  simp only [readStep, phase]
  exact if_neg (by rw [List.length_append, List.length_singleton]; omega)

end

section

variable (phase : r.phase = .seekData)

include phase

theorem readStep_dataMark (found : DataFound b x p j r clock value) (mark : value = sl.mark) :
    readStep b x p sl j r clock value =
      some ({ r with
        phase := .data 0 (crc16 (markCover p.layout.encoding ++ [sl.mark])) false, prefixes := 0 }, x.buffer) := by
  simp only [readStep, phase, dataFound_iff.mpr found, if_true, if_pos mark]

theorem readStep_otherMark (found : DataFound b x p j r clock value) (other : value ≠ sl.mark) :
    readStep b x p sl j r clock value = some ({ r with phase := .ended .markMismatch }, x.buffer) := by
  simp only [readStep, phase, dataFound_iff.mpr found, if_true, if_neg other]

theorem readStep_dataSought (notYet : ¬DataFound b x p j r clock value) : readStep b x p sl j r clock value =
    some (r.sought p.layout.encoding clock value, x.buffer) := by
  simp only [readStep, phase, if_neg (dataFound_iff.not.mpr notYet), ReadSide.sought]

end

section

variable {crc : Word16} {differs : Bool}

/-- Where the read side stands after a data byte: at the next one, or at the CRC (R135). -/
def afterData (size count : Nat) (crc : Word16) (differs : Bool) : ReadPhase :=
  if count + 1 < size then .data (count + 1) crc differs else .dataCheck crc differs []

theorem readStep_dataByte {count : Nat} (phase : r.phase = .data count crc differs) {expected : Byte}
    {buffer : List (Nat × Byte)} (data : sl.nextData j count x.buffer = some (expected, buffer)) :
    readStep b x p sl j r clock value = some ({ r with
      phase := afterData p.layout.sectorSize count (crc16Byte crc value) (differs || decide (value ≠ expected)) },
      buffer) := by
  simp only [readStep, phase, data, Option.map_some, afterData]
  split <;> rfl

theorem readStep_dataMissing {count : Nat} (phase : r.phase = .data count crc differs)
    (missing : sl.nextData j count x.buffer = none) : readStep b x p sl j r clock value = none := by
  simp only [readStep, phase, missing, Option.map_none]

theorem readStep_crcHigh (phase : r.phase = .dataCheck crc differs []) : readStep b x p sl j r clock value =
    some ({ r with phase := .dataCheck crc differs [value] }, x.buffer) := by
  simp only [readStep, phase]
  rfl

/-- The second CRC byte decides tests 6 to 8 (R135). -/
theorem readStep_crcLow {high : Byte} (phase : r.phase = .dataCheck crc differs [high]) :
    readStep b x p sl j r clock value =
      some ({ r with phase := .ended (dataTest crc differs [high, value]) }, x.buffer) := by
  simp only [readStep, phase]
  rfl

theorem readStep_ended {result : SlotResult} (phase : r.phase = .ended result) :
    readStep b x p sl j r clock value = some (r, x.buffer) := by
  simp only [readStep, phase]

end

end

/-! A channel in a verify pass. -/

/-- A channel in a verify pass, its present slot and the slots after it. -/
structure Channel.Seeks (x : Channel) (p : TrackPlan) (r : ReadSide) (j : Nat) (rest : List Nat) : Prop where
  state : x.state = .producing
  phase : x.phase = some .verify
  plan : x.attempt.plan = some p
  read : x.attempt.read = some r
  slots : r.slots = j :: rest

/-- A channel in a verify pass, with its disk and what its plan says of the present slot. -/
structure Channel.Reads (x : Channel) (k : Disk) (p : TrackPlan) (r : ReadSide) (sl : SlotPlan) (j : Nat)
    (rest : List Nat) : Prop extends x.Seeks p r j rest where
  disk : x.disk = some k
  slot : p.slots[j]? = some sl

section

variable {s : State} {c : Chan} {k : Disk} {p : TrackPlan} {r : ReadSide} {sl : SlotPlan} {j : Nat} {rest : List Nat}

/-! READ_BACK_BYTE (R134 to R136). -/

theorem exec_readBackByte (running : s.base.resetActive = false) (verifying : (s.floor.chan c).verifying = true)
    (flux : List (BitVec 9)) :
    exec (.readBackByte c flux) s = .next { s with floor := s.floor.readByte s.base c flux }.settle :=
  congrArg _ (State.channelEvent_occurs running verifying _)

section

variable (running : s.base.resetActive = false) (reads : (s.floor.chan c).Reads k p r sl j rest)
  (flux : List (BitVec 9))

include running reads

/-- A byte that the read side takes leaves its state and the buffer in the channel. -/
theorem exec_readBackByte_goes {r' : ReadSide} {buffer : List (Nat × Byte)}
    (step : let read := decodeFlux ((s.floor.chan c).readWindow k) r.spill flux
      readStep s.base (s.floor.chan c) p sl j { r with spill := read.2.2 } read.1 read.2.1 = some (r', buffer)) :
    exec (.readBackByte c flux) s = .next { s with floor := s.floor.setChan c { s.floor.chan c with
      buffer := buffer, attempt := { (s.floor.chan c).attempt with read := some r' } } }.settle := by
  obtain ⟨⟨state, phase, plan, read, slots⟩, disk, slot⟩ := reads
  rw [exec_readBackByte running (Channel.verifying_eq state phase)]
  simp only [slots] at step
  simp only [Floor.readByte, disk, plan, read, slots, slot, step]

/-- A DATA byte that is not there ends the attempt (R136). -/
theorem exec_readBackByte_underruns
    (step : let read := decodeFlux ((s.floor.chan c).readWindow k) r.spill flux
      readStep s.base (s.floor.chan c) p sl j { r with spill := read.2.2 } read.1 read.2.1 = none) :
    exec (.readBackByte c flux) s =
      .next { s with floor := s.floor.endAttempt s.base c (.bad .underrun (some sl.sector)) }.settle := by
  obtain ⟨⟨state, phase, plan, read, slots⟩, disk, slot⟩ := reads
  rw [exec_readBackByte running (Channel.verifying_eq state phase)]
  simp only [slots] at step
  simp only [Floor.readByte, disk, plan, read, slots, slot, step, TrackPlan.sectorOf_slot slot]

end

/-! VERIFY_SLOT_RESULT (R135, R138). -/

section

variable {b : Base} {x : Channel} {d : Descriptor}

theorem slotResultNow_ended {result : SlotResult} (phase : r.phase = .ended result) :
    slotResultNow b x d r j = some result := by
  simp only [slotResultNow, phase]

/-- While a reading goes on past a mark there is no result (R135). -/
theorem slotResultNow_reading (reading : (∃ got, r.phase = .header got) ∨
    (∃ count crc differs, r.phase = .data count crc differs) ∨
      ∃ crc differs got, r.phase = .dataCheck crc differs got) :
    slotResultNow b x d r j = none := by
  rcases reading with ⟨got, phase⟩ | ⟨count, crc, differs, phase⟩ | ⟨crc, differs, got, phase⟩ <;>
    simp only [slotResultNow, phase]

theorem slotResultNow_seekHeader (phase : r.phase = .seekHeader) : slotResultNow b x d r j =
    if sinceEdge b x * d.rate ≤ d.headerLimit j * 8000 then none else some .missing := by
  simp only [slotResultNow, phase, notPast, decide_eq_true_eq]
  rfl

theorem slotResultNow_seekData (phase : r.phase = .seekData) : slotResultNow b x d r j =
    if sinceEdge b x * d.rate ≤ d.dataLimit j * 8000 then none else some .missing := by
  simp only [slotResultNow, phase, notPast, decide_eq_true_eq]
  rfl

end

/-- The channel as its present slot has been given a result: its bytes dropped, the next slot sought (R135, R138). -/
def Channel.slotGiven (x : Channel) (p : TrackPlan) (r : ReadSide) (j : Nat) (rest : List Nat)
    (result : SlotResult) : Channel :=
  { x with
    buffer := x.buffer.filter fun v => decide (v.1 ≠ j), fetch := x.fetch.filter fun i => decide (i.slot ≠ j)
    attempt := { x.attempt with
      results := x.attempt.results.set j (some (verdict x.attempt.pass result))
      read := some { r with
        slots := rest, phase := .seekHeader, prefixes := 0
        searchFrom :=
          if x.attempt.pass = 2 then p.layout.headerAt (rest.headD 0) - markAllowance p.layout.encoding
          else if result = .ok then 0
          else p.layout.headerAt j + p.layout.sectorFixed + p.layout.sectorSize } } }

/-- A burst goes on, live for the clients it has not lost. -/
theorem Floor.orphanBurst_live (f : Floor) (mine : BurstWork → Bool) : f.orphanBurst mine =
    { f with burst := f.burst.map fun w => { w with live := w.live && !mine w.work } } := by
  have keeps (w : Burst) : (if mine w.work then { w with live := false } else w) =
      { w with live := w.live && !mine w.work } := by
    cases own : mine w.work <;> simp
  simp only [orphanBurst_eq, keeps]

theorem Floor.giveSlotResult_eq (f : Floor) (c : Chan) (p : TrackPlan) (r : ReadSide) (j : Nat) (rest : List Nat)
    (result : SlotResult) : f.giveSlotResult c p r j rest result =
      { f.setChan c ((f.chan c).slotGiven p r j rest result) with
        burst := f.burst.map fun w => { w with live := w.live && decide (w.work ≠ .fetch c j) } } := by
  have other (work : BurstWork) : (!decide (work = .fetch c j)) = decide (work ≠ .fetch c j) := decide_not.symm
  simp only [giveSlotResult, orphanBurst_live, other]
  rfl

section

variable (running : s.base.resetActive = false) (seeks : (s.floor.chan c).Seeks p r j rest)

include running seeks

theorem exec_verifySlotResult_given {result : SlotResult}
    (now : slotResultNow s.base (s.floor.chan c) p.layout r j = some result) :
    exec (.verifySlotResult c) s = .next { s with floor := s.floor.giveSlotResult c p r j rest result } := by
  obtain ⟨state, phase, plan, read, slots⟩ := seeks
  refine (congrArg _ (State.taken_running running _)).trans ?_
  simp only [Channel.verifying_eq state phase, if_true, Channel.slotVerdict, plan, read, slots, now, Option.map_some]

theorem exec_verifySlotResult_none (now : slotResultNow s.base (s.floor.chan c) p.layout r j = none) :
    exec (.verifySlotResult c) s = .next s := by
  obtain ⟨state, phase, plan, read, slots⟩ := seeks
  refine (congrArg _ (State.taken_running running _)).trans ?_
  simp only [Channel.verifying_eq state phase, if_true, Channel.slotVerdict, plan, read, slots, now, Option.map_none]

end

end

/-- Settles O54: one decoded byte by the phase of the slot's reading, and the slot's result by the limit it is under. -/
theorem headersAndMarksAreSought : Obligations.HeadersAndMarksAreSought := by
  unfold Obligations.HeadersAndMarksAreSought
  intro c flux k p r sl j rest s running x state phase disk plan readSide slots slot e read goes prefixByte mark
    cover allowance begins headerLimit dataLimit now onward anew send verify sought left given
  have reads : (s.floor.chan c).Reads k p r sl j rest := ⟨⟨state, phase, plan, readSide, slots⟩, disk, slot⟩
  have goesOn {r' : ReadSide} (step : readStep s.base x p sl j { r with spill := read.2.2 } read.1 read.2.1 =
      some ({ r' with spill := read.2.2 }, x.buffer)) : send = goes r' := exec_readBackByte_goes running reads flux step
  have gives {result : SlotResult} (due : slotResultNow s.base x p.layout r j = some result) :
      verify = given result :=
    (exec_verifySlotResult_given running reads.toSeeks due).trans (by rw [Floor.giveSlotResult_eq]; rfl)
  have waits (none : slotResultNow s.base x p.layout r j = none) : verify = .next s :=
    exec_verifySlotResult_none running reads.toSeeks none
  have seeks (step : readStep s.base x p sl j { r with spill := read.2.2 } read.1 read.2.1 =
      some (ReadSide.sought { r with spill := read.2.2 } e read.1 read.2.1, x.buffer)) :
      (prefixByte → send = onward) ∧ (¬prefixByte → send = anew) :=
    ⟨fun isPrefix => goesOn (r' := { r with prefixes := r.prefixes + 1 })
        (step.trans (by rw [ReadSide.sought, prefixesAfter_prefix _ isPrefix])),
      fun other => goesOn (r' := { r with prefixes := 0 })
        (step.trans (by rw [ReadSide.sought, prefixesAfter_other _ other]))⟩
  refine ⟨fun seekHeader => ?_, fun got header => ?_, fun seekData => ?_, fun result ended => ?_, fun got header => ?_,
    fun count crc differs data => ?_, fun crc differs got check => ?_⟩
  · have limit := slotResultNow_seekHeader (b := s.base) (x := x) (d := p.layout) (j := j) seekHeader
    refine ⟨fun marked isHeader start before => ?_, fun notYet => ?_, fun before => ?_, fun past => ?_⟩
    · exact goesOn (readStep_headerMark seekHeader ⟨marked, isHeader, start, before⟩)
    · exact seeks (readStep_headerSought seekHeader notYet)
    · exact waits (limit.trans (if_pos before))
    · exact gives (limit.trans (if_neg (not_le.mpr past)))
  · refine ⟨fun few => goesOn (readStep_headerByte header few), fun b0 b1 b2 b3 high five => ?_⟩
    subst five
    refine goesOn ((readStep_headerTested (r := { r with spill := read.2.2 }) header rfl).trans ?_)
    rw [headerTest, markCover_eq]
    rfl
  · intro v
    have limit := slotResultNow_seekData (b := s.base) (x := x) (d := p.layout) (j := j) seekData
    refine ⟨fun marked before same => ?_, fun marked before other => ?_, fun notYet => ?_, fun before => ?_,
      fun past => ?_⟩
    · refine goesOn ((readStep_dataMark (r := { r with spill := read.2.2 }) seekData ⟨marked, before⟩ same).trans ?_)
      rw [markCover_eq]
      rfl
    · exact goesOn (readStep_otherMark seekData ⟨marked, before⟩ other)
    · exact seeks (readStep_dataSought seekData notYet)
    · exact waits (limit.trans (if_pos before))
    · exact gives (limit.trans (if_neg (not_le.mpr past)))
  · exact gives (slotResultNow_ended ended)
  · exact waits (slotResultNow_reading (.inl ⟨got, header⟩))
  · exact waits (slotResultNow_reading (.inr (.inl ⟨count, crc, differs, data⟩)))
  · exact waits (slotResultNow_reading (.inr (.inr ⟨crc, differs, got, check⟩)))

/-- Settles O55: one decoded byte by the phase of the slot's reading, and the slot given its result by
`Floor.giveSlotResult_eq`. -/
theorem readBackIsTestedSlotBySlot : Obligations.ReadBackIsTestedSlotBySlot := by
  unfold Obligations.ReadBackIsTestedSlotBySlot
  refine ⟨fun c flux k p r sl j rest s running => ?_,
    fun c p r j rest result s running state phase plan read slots ended => ?_⟩
  · intro x state phase disk plan readSide slots slot read goes
    have reads : (s.floor.chan c).Reads k p r sl j rest := ⟨⟨state, phase, plan, readSide, slots⟩, disk, slot⟩
    have goesOn {r' : ReadSide} {buffer : List (Nat × Byte)}
        (step : readStep s.base x p sl j { r with spill := read.2.2 } read.1 read.2.1 =
          some ({ r' with spill := read.2.2 }, buffer)) : exec (.readBackByte c flux) s = .next (goes r' buffer) :=
      exec_readBackByte_goes running reads flux step
    refine ⟨fun count crc differs raw left offset data image front => ?_, fun count crc differs v data fill => ?_,
      fun count crc differs offset data image missing => ?_, fun crc differs check => goesOn (readStep_crcHigh check),
      fun result ended => goesOn (readStep_ended ended), fun crc differs high check => goesOn (readStep_crcLow check)⟩
    · exact goesOn (readStep_dataByte (r := { r with spill := read.2.2 }) data
        (SlotPlan.nextData_image count image front))
    · exact goesOn (readStep_dataByte (r := { r with spill := read.2.2 }) data
        (SlotPlan.nextData_fill j count x.buffer fill))
    · exact exec_readBackByte_underruns running reads flux
        (readStep_dataMissing data (SlotPlan.nextData_missing count image missing))
  · have given := exec_verifySlotResult_given running ⟨state, phase, plan, read, slots⟩ (slotResultNow_ended ended)
    rw [Floor.giveSlotResult_eq] at given
    have own := s.floor.chan_setChan_same c ((s.floor.chan c).slotGiven p r j rest result)
    refine ⟨_, given, rfl, rfl, rfl, ?_, ?_, ?_, ?_, ?_, rfl, fun d other => s.floor.chan_setChan_other c d _ other,
      rfl, rfl, rfl, rfl⟩
    · exact congrArg (fun x : Channel => x.attempt.results) own
    · exact congrArg (fun x : Channel => x.attempt.read.map ReadSide.slots) own
    · exact congrArg (fun x : Channel => x.attempt.read.map ReadSide.phase) own
    · exact congrArg Channel.buffer own
    · exact congrArg Channel.fetch own

end Sys2Proof.Machine

/-! SUPPORT. What the ring and LINE HOLD are read from (R150, R151, R169), and the operations that leave it as it
stands: the work on a track, aborts, plans, timers and the drive's own changes of state. -/

namespace Sys2Proof.Machine

/-- What the ring and LINE HOLD know of a port: its result cursor, its follow flag, its contribution (R151, R169). -/
structure RingPort where
  cursor : Word32
  follow : Bool
  lineHold : Bool

/-- What the ring and LINE HOLD know of this port. -/
def PortContext.ringPort (x : PortContext) : RingPort := ⟨x.resultCursor, x.follow, x.lineHold⟩

/-- All that the laws of the ring, of its cursors and of LINE HOLD speak of. -/
structure Ledger where
  ring : Ring
  line : LineHold
  portA : RingPort
  portB : RingPort

/-- The floor's part that the laws of the ring and of LINE HOLD speak of. -/
def Floor.ledger (f : Floor) : Ledger := ⟨f.ring, f.line, f.portA.ringPort, f.portB.ringPort⟩

namespace Floor

variable {b : Base} {f g : Floor} {c : Chan}

/-! Ports, channels, drives, events and bursts. -/

theorem ledger_setPort {p : PortId} {x : PortContext} (same : x.ringPort = (f.port p).ringPort) :
    (f.setPort p x).ledger = f.ledger := by
  cases p
  · exact congrArg (fun q => { f.ledger with portA := q }) same
  · exact congrArg (fun q => { f.ledger with portB := q }) same

@[simp] theorem ledger_answer (f : Floor) (p : PortId) (r : Reply) : (f.answer p r).ledger = f.ledger :=
  ledger_setPort rfl

@[simp] theorem ledger_setChan (f : Floor) (c : Chan) (x : Channel) : (f.setChan c x).ledger = f.ledger := rfl

@[simp] theorem ledger_modChan (f : Floor) (c : Chan) (g : Channel → Channel) :
    (f.modChan c g).ledger = f.ledger := rfl

@[simp] theorem ledger_modDrive (f : Floor) (c : Chan) (g : DriveLines → DriveLines) :
    (f.modDrive c g).ledger = f.ledger := rfl

@[simp] theorem ledger_post (f : Floor) (e : EventKind) : (f.post e).ledger = f.ledger := rfl

@[simp] theorem ledger_orphanBurst (f : Floor) (mine : BurstWork → Bool) :
    (f.orphanBurst mine).ledger = f.ledger := by
  rw [orphanBurst_eq]
  rfl

/-! Jobs and the waiting list (R64, R76). -/

@[simp] theorem ledger_jobs (f : Floor) (jobs : List Job) : ({ f with jobs := jobs } : Floor).ledger = f.ledger := rfl

@[simp] theorem ledger_dropJob (f : Floor) (id : Nat) : (f.dropJob id).ledger = f.ledger := rfl

@[simp] theorem ledger_putJob (f : Floor) (j : Job) : (f.putJob j).ledger = f.ledger := rfl

@[simp] theorem ledger_endJob (f : Floor) (j : Job) (state : JobState) (cause : EndCause) :
    (f.endJob j state cause).ledger = f.ledger := rfl

@[simp] theorem ledger_leaveWaiting (f : Floor) (c : Chan) : (f.leaveWaiting c).ledger = f.ledger := rfl

/-! Posting, aborts and assignments (R80, R115, R117, R120). -/

@[simp] theorem ledger_enterPosting (f : Floor) (c : Chan) (outcome : DiskOutcome) :
    (f.enterPosting c outcome).ledger = f.ledger := ledger_orphanBurst _ _

@[simp] theorem ledger_abortDisk (f : Floor) (c : Chan) (cause : Cause) : (f.abortDisk c cause).ledger = f.ledger := by
  unfold abortDisk
  split
  · exact ledger_enterPosting _ _ _
  · rfl

theorem ledger_abortAll (l : List Chan) (cause : Cause) (f : Floor) : (f.abortAll l cause).ledger = f.ledger := by
  induction l generalizing f with
  | nil => rfl
  | cons c rest ih => rw [abortAll_cons, ih, ledger_abortDisk]

theorem ledger_cancelNotices (f : Floor) (id : Nat) : (f.cancelNotices id).ledger = f.ledger := by
  rw [cancelNotices_eq]
  exact ledger_abortAll _ _ f

theorem ledger_evaluate (b : Base) (f : Floor) : (f.evaluate b).ledger = f.ledger :=
  (congrArg ledger (pass_frame b f.waiting { f with evalDue := false }) :)

/-- The ring has one record more, and but for events the ports stand. -/
theorem ledger_takeRecord (f : Floor) (c : Chan) (body : RecordBody) : (f.takeRecord c body).ledger =
    { f.ledger with ring := f.ring.append c body (f.chan c).elapsedNow } := by
  have frame := f.takeRecord_frame c body
  obtain ⟨_, portA, -⟩ := f.takeRecord_port c body .a
  obtain ⟨_, portB, -⟩ := f.takeRecord_port c body .b
  have ringA : (f.takeRecord c body).portA.ringPort = f.portA.ringPort := (congrArg PortContext.ringPort portA :)
  have ringB : (f.takeRecord c body).portB.ringPort = f.portB.ringPort := (congrArg PortContext.ringPort portB :)
  simp only [ledger, ringA, ringB, (congrArg Floor.ring frame :), (congrArg Floor.line frame :)]

/-! Plans, boundaries and recalibration (R102, R103, R110 to R112, R124). -/

@[simp] theorem ledger_requestPlan (b : Base) (f : Floor) (r : PlanRequest) :
    (f.requestPlan b r).ledger = f.ledger := rfl

@[simp] theorem ledger_seekTrack (b : Base) (f : Floor) (c : Chan) : (f.seekTrack b c).ledger = f.ledger := rfl

@[simp] theorem ledger_beginPlan (b : Base) (f : Floor) (c : Chan) : (f.beginPlan b c).ledger = f.ledger := by
  unfold beginPlan
  simp only
  repeat' split
  all_goals simp

@[simp] theorem ledger_boundary (b : Base) (f : Floor) (c : Chan) (i : Nat) : (f.boundary b c i).ledger = f.ledger := by
  unfold boundary
  simp only
  repeat' split
  all_goals simp

@[simp] theorem ledger_boundaryHere (b : Base) (f : Floor) (c : Chan) : (f.boundaryHere b c).ledger = f.ledger := by
  unfold boundaryHere
  split <;> simp

@[simp] theorem ledger_boundaryNext (b : Base) (f : Floor) (c : Chan) : (f.boundaryNext b c).ledger = f.ledger := by
  unfold boundaryNext
  split <;> simp

@[simp] theorem ledger_recalSample (b : Base) (f : Floor) (c : Chan) : (f.recalSample b c).ledger = f.ledger := by
  unfold recalSample recalDone
  repeat' split
  all_goals simp

@[simp] theorem ledger_reachSpeed (b : Base) (f : Floor) (c : Chan) : (f.reachSpeed b c).ledger = f.ledger := by
  unfold reachSpeed enterRecal
  split <;> simp

/-! Attempts and passes (R128 to R143). -/

@[simp] theorem ledger_discardBuffer (f : Floor) (c : Chan) : (f.discardBuffer c).ledger = f.ledger :=
  ledger_orphanBurst _ _

@[simp] theorem ledger_endAttempt (b : Base) (f : Floor) (c : Chan) (r : TrackResult) :
    (f.endAttempt b c r).ledger = f.ledger := by
  unfold endAttempt acceptTrack retryTrack failTrack
  simp only
  repeat' split
  all_goals simp

@[simp] theorem ledger_writeByte (b : Base) (f : Floor) (c : Chan) (st : WriteStream) :
    (f.writeByte b c st).ledger = f.ledger := by
  unfold writeByte writeUnderrun
  simp only
  repeat' split
  all_goals simp

@[simp] theorem ledger_readByte (b : Base) (f : Floor) (c : Chan) (flux : List (BitVec 9)) :
    (f.readByte b c flux).ledger = f.ledger := by
  unfold readByte
  simp only
  repeat' split
  all_goals simp

@[simp] theorem ledger_giveSlotResult (f : Floor) (c : Chan) (p : TrackPlan) (r : ReadSide) (j : Nat) (rest : List Nat)
    (result : SlotResult) : (f.giveSlotResult c p r j rest result).ledger = f.ledger := ledger_orphanBurst _ _

@[simp] theorem ledger_endWrite (b : Base) (f : Floor) (c : Chan) (k : Disk) (st : WriteStream) :
    (f.endWrite b c k st).ledger = f.ledger := by
  unfold endWrite
  split
  · exact ledger_endAttempt _ _ _ _
  · split
    · exact ledger_endAttempt _ _ _ _
    · split
      · rfl
      · exact ledger_endAttempt _ _ _ _

@[simp] theorem ledger_endVerifyPass (b : Base) (f : Floor) (c : Chan) (p : TrackPlan) (k : Disk) :
    (f.endVerifyPass b c p k).ledger = f.ledger := by
  unfold endVerifyPass startSecondPass
  simp only
  split <;> simp

@[simp] theorem ledger_startWrite (f : Floor) (c : Chan) : (f.startWrite c).ledger = f.ledger := rfl

@[simp] theorem ledger_producingEdge (b : Base) (f : Floor) (c : Chan) : (f.producingEdge b c).ledger = f.ledger := by
  unfold producingEdge
  simp only
  repeat' split
  all_goals simp

@[simp] theorem ledger_indexEdge (b : Base) (f : Floor) (c : Chan) : (f.indexEdge b c).ledger = f.ledger := by
  unfold indexEdge
  simp only
  repeat' split
  all_goals simp

theorem ledger_handPlan (b : Base) (f : Floor) (c : Chan) (p : TrackPlan) : (f.handPlan b c p).ledger = f.ledger := by
  unfold handPlan
  simp only
  repeat' split
  all_goals simp

theorem ledger_finishPlan (b : Base) (f : Floor) : (f.finishPlan b).ledger = f.ledger := by
  unfold finishPlan
  split
  · rfl
  · simp only
    split
    · rfl
    · exact ledger_handPlan _ _ _ _

/-! Timers and the handler (R102, R106, R110, R111, R120, R165, R166). -/

@[simp] theorem ledger_stepExpiry (b : Base) (f : Floor) (c : Chan) : (f.stepExpiry b c).ledger = f.ledger := by
  unfold stepExpiry
  simp only
  split <;> simp

@[simp] theorem ledger_enterFault (f : Floor) (c : Chan) : (f.enterFault c).ledger = f.ledger := rfl

@[simp] theorem ledger_enterBySeat (f : Floor) (c : Chan) : (f.enterBySeat c).ledger = f.ledger := by
  unfold enterBySeat
  split <;> rfl

theorem ledger_seatChange (f : Floor) (c : Chan) (active : Bool) : (f.seatChange c active).ledger = f.ledger := by
  unfold seatChange
  split
  case h_3 | h_4 | h_5 | h_6 => exact ledger_abortDisk _ _ _
  case h_8 =>
    simp only
    split <;> simp
  all_goals rfl

theorem ledger_debounceExpiry (f : Floor) (c : Chan) : (f.debounceExpiry c).ledger = f.ledger := by
  unfold debounceExpiry
  simp only
  split
  · rfl
  · exact ledger_seatChange _ _ _

end Floor

end Sys2Proof.Machine

/-! SUPPORT. What a step can do to the ring and to its cursors, said once: the moves of the ring, and that every request
answers some of them with no change of the line left to take (R150 to R160, R169, R170, R186). -/

namespace Sys2Proof.Machine

open Relation (ReflTransGen)

/-! The moves. -/

/-- What happens to the ring's records, its write position and the ports' result cursors, one thing at a time. -/
inductive Floor.RingMove : Floor → Floor → Prop
  /-- Records, write position and cursors stand. -/
  | stand {f g : Floor} (records : g.ring.records = f.ring.records) (writePos : g.ring.writePos = f.ring.writePos)
      (cursor : ∀ p, (g.port p).resultCursor = (f.port p).resultCursor) : RingMove f g
  /-- The ring has room for a record (R153). -/
  | append (f : Floor) (c : Chan) (body : RecordBody) (elapsed : Nat) (room : f.ring.records.length < ringSize) :
      RingMove f { f with ring := f.ring.append c body elapsed }
  /-- The oldest record of a full ring that no port follows makes room for one (R154). -/
  | replace (f : Floor) (c : Chan) (body : RecordBody) (elapsed : Nat) (full : ringSize ≤ f.ring.records.length)
      (unfollowed : f.followed = false) :
      RingMove f { f.displace with ring := f.displace.ring.append c body elapsed }
  /-- The freeing test (R155). -/
  | free (f : Floor) : RingMove f f.freeRecords
  /-- A cursor goes past the record it names (R160). -/
  | read (f : Floor) (p : PortId) {x : PortContext} {r : ResultRecord} (held : r ∈ f.ring.records)
      (named : r.sequence = (f.port p).resultCursor) (past : x.resultCursor = (f.port p).resultCursor + 1) :
      RingMove f (f.setPort p x)
  /-- A cursor goes to the write position (R186). -/
  | restart (f : Floor) (p : PortId) {x : PortContext} (cursor : x.resultCursor = f.ring.writePos) :
      RingMove f (f.setPort p x)
  /-- The ring is emptied and both cursors return to 0 (R185). -/
  | reset {f g : Floor} (ring : g.ring = Ring.reset) (cursor : ∀ p, (g.port p).resultCursor = 0) : RingMove f g

/-- One floor comes of another by moves of the ring. -/
abbrev Floor.RingMoves : Floor → Floor → Prop := ReflTransGen Floor.RingMove

namespace Floor

variable {b : Base} {f g h : Floor} {c : Chan}

theorem RingMove.of_ledger (same : g.ledger = f.ledger) : f.RingMove g := by
  have cursorA : g.portA.resultCursor = f.portA.resultCursor := (congrArg (fun l : Ledger => l.portA.cursor) same :)
  have cursorB : g.portB.resultCursor = f.portB.resultCursor := (congrArg (fun l : Ledger => l.portB.cursor) same :)
  have ring : g.ring = f.ring := (congrArg Ledger.ring same :)
  exact .stand (congrArg _ ring) (congrArg _ ring) fun p => by cases p <;> assumption

theorem RingMoves.of_ledger (same : g.ledger = f.ledger) : f.RingMoves g := .single (.of_ledger same)

theorem RingMoves.still (fg : f.RingMoves g) (same : h.ledger = g.ledger) : f.RingMoves h := fg.tail (.of_ledger same)

/-- A port's context changes but for its cursor. -/
theorem RingMoves.setPort {p : PortId} {x : PortContext} (cursor : x.resultCursor = (f.port p).resultCursor) :
    f.RingMoves (f.setPort p x) := by
  refine .single (.stand (congrArg _ (f.setPort_ring p x)) (congrArg _ (f.setPort_ring p x)) fun q => ?_)
  cases p <;> cases q
  exacts [cursor, rfl, rfl, cursor]

/-! Records offered and waiters served (R152 to R159). -/

theorem RingMoves.takeRecord (c : Chan) (body : RecordBody) (room : f.ring.records.length < ringSize) :
    f.RingMoves (f.takeRecord c body) :=
  .still (.single (.append f c body (f.chan c).elapsedNow room)) (f.ledger_takeRecord c body)

theorem RingMoves.displace_takeRecord (c : Chan) (body : RecordBody) (full : ringSize ≤ f.ring.records.length)
    (unfollowed : f.followed = false) : f.RingMoves (f.displace.takeRecord c body) :=
  .still (.single (.replace f c body (f.displace.chan c).elapsedNow full unfollowed))
    (f.displace.ledger_takeRecord c body)

theorem ringMoves_offer (f : Floor) (c : Chan) : f.RingMoves (f.offer c) := by
  unfold offer
  split
  · exact .refl
  · split
    · next room => exact .takeRecord c _ room
    · next full =>
      split
      · exact .single (.stand rfl rfl fun p => by cases p <;> rfl)
      · next followed => exact .displace_takeRecord c _ (not_lt.mp full) (Bool.eq_false_iff.mpr followed)

theorem ringMoves_serveList (l : List Chan) (f : Floor) : f.RingMoves (serveList l f) := by
  induction l generalizing f with
  | nil => exact .refl
  | cons c rest ih =>
    unfold serveList
    split
    · exact .refl
    · split
      · next room => exact (RingMoves.takeRecord c _ room).trans (ih _)
      · next full =>
        split
        · exact .refl
        · next followed =>
          exact (RingMoves.displace_takeRecord c _ (not_lt.mp full) (Bool.eq_false_iff.mpr followed)).trans (ih _)

theorem ringMoves_serveRing (f : Floor) : f.RingMoves f.serveRing :=
  .trans (.single (.free f)) (ringMoves_serveList _ _)

/-! What a step makes due (R78, R152, R170). -/

theorem ringMoves_updateLine (f : Floor) : f.RingMoves f.updateLine := by
  refine .single (.stand (congrArg _ f.updateLine_ring) (congrArg _ f.updateLine_ring) fun p => ?_)
  by_cases same : f.levelDue = f.line.recorded
  · rw [updateLine_stands same]
    cases p <;> rfl
  · rw [updateLine_changes same]
    cases p <;> rfl

theorem ringMoves_settle (b : Base) (f : Floor) : f.RingMoves (f.settle b) := by
  refine settle_induction (P := f.RingMoves) (fun g fg => fg.trans g.ringMoves_updateLine) (fun g fg => ?_) f .refl
  unfold settleOne
  split
  · exact fg.still (g.ledger_evaluate b)
  · split
    · exact fg
    · next c rest _ =>
      have popped : f.RingMoves { g with offers := rest } := fg.still rfl
      exact popped.trans (ringMoves_offer _ c)

theorem lineQuiet_settle (b : Base) (f : Floor) : (f.settle b).lineQuiet := by
  obtain ⟨g, last⟩ := settle_ends_with_updateLine b f
  rw [last]
  exact g.lineQuiet_updateLine

theorem ringMoves_resetDrive (f : Floor) (c : Chan) : f.RingMoves (f.resetDrive c) := by
  have aborted : f.RingMoves { f.abortDisk c .driveReset with offers := f.offers } :=
    .of_ledger (f.ledger_abortDisk c .driveReset)
  unfold resetDrive
  split
  case h_1 | h_2 | h_3 | h_4 => exact RingMoves.still (aborted.trans (ringMoves_offer _ c)) rfl
  case h_5 => exact .of_ledger (ledger_enterBySeat _ c)
  all_goals exact .of_ledger rfl

/-! A step of a running part: moves of the ring, and no change of the line left to take that was not left before. -/

/-- What a running part's step does to the ring, the cursors and the line. -/
structure RingStep (f g : Floor) : Prop where
  moves : f.RingMoves g
  line : f.lineQuiet → g.lineQuiet

theorem RingStep.refl (f : Floor) : f.RingStep f := ⟨.refl, id⟩

theorem RingStep.trans (fg : f.RingStep g) (gh : g.RingStep h) : f.RingStep h :=
  ⟨fg.moves.trans gh.moves, gh.line ∘ fg.line⟩

theorem lineQuiet_congr (same : g.ledger = f.ledger) (quiet : f.lineQuiet) : g.lineQuiet := by
  have read (f : Floor) : f.lineQuiet ↔
      f.ledger.line.recorded = (f.ledger.portA.lineHold || f.ledger.portB.lineHold || f.ledger.line.internal ||
        f.ledger.line.handler) ∧
      f.ledger.line.internal = !f.ledger.ring.waiters.isEmpty := Iff.rfl
  rw [read, same]
  exact quiet

theorem RingStep.of_ledger (same : g.ledger = f.ledger) : f.RingStep g := ⟨.of_ledger same, lineQuiet_congr same⟩

theorem RingStep.still (fg : f.RingStep g) (same : h.ledger = g.ledger) : f.RingStep h := fg.trans (.of_ledger same)

end Floor

section

variable {f : Floor} {s : State} {p : PortId} {payload : List Byte} {status : Status}

theorem Floor.RingMoves.reply (h : f.RingMoves s.floor) : f.RingMoves (s.reply p payload).floor :=
  h.still (s.floor.ledger_answer p _)

theorem Floor.RingStep.reply (h : f.RingStep s.floor) : f.RingStep (s.reply p payload).floor :=
  h.still (s.floor.ledger_answer p _)

theorem Floor.RingStep.refuse (h : f.RingStep s.floor) : f.RingStep (s.refuse p status).floor :=
  h.still (s.floor.ledger_answer p _)

/-- Whatever a step has moved, settling takes the change of the line (R170). -/
theorem Floor.RingStep.settled (h : f.RingMoves s.floor) : f.RingStep s.settle.floor :=
  ⟨h.trans (ringMoves_settle s.base s.floor), fun _ => lineQuiet_settle s.base s.floor⟩

theorem Floor.RingStep.evaluateNow (h : f.RingMoves s.floor) : f.RingStep s.evaluateNow.floor := .settled (h.still rfl)

end

/-! The requests that move the ring or the line (R160, R161, R171, R186). -/

section

variable (p : PortId) (payload : List Byte) (s : State)

theorem doReadResult_ringStep : s.floor.RingStep (doReadResult p payload s).floor := by
  unfold doReadResult
  simp only
  split
  · exact .reply (.refl _)
  · next r found =>
    have named : r.sequence = (s.floor.port p).resultCursor := by simpa using List.find?_some found
    have past : s.floor.RingMoves (s.floor.setPort p { s.floor.port p with
        resultCursor := (s.floor.port p).resultCursor + 1 }) :=
      .single (.read _ p (List.mem_of_find?_eq_some found) named rfl)
    split
    · exact .settled ((past.still (Floor.ledger_answer _ p _)).trans (Floor.ringMoves_serveRing _))
    · exact .reply ⟨past, fun quiet => by cases p <;> exact quiet⟩

theorem doSetResultFollow_ringStep : s.floor.RingStep (doSetResultFollow p payload s).floor := by
  unfold doSetResultFollow
  split
  · exact .refuse (.refl _)
  · next v _ =>
    have set : s.floor.RingMoves (s.floor.setPort p { s.floor.port p with follow := v }) := .setPort rfl
    exact .settled ((set.still (Floor.ledger_answer _ p _)).trans (Floor.ringMoves_serveRing _))

theorem doSetLineHold_ringStep : s.floor.RingStep (doSetLineHold p payload s).floor := by
  unfold doSetLineHold
  split
  · exact .refuse (.refl _)
  · exact .reply (.settled (.setPort rfl))

theorem doPortReset_ringStep : s.floor.RingStep (doPortReset p payload s).floor := by
  set f := s.floor.orphanBurst (BurstWork.isTransferOf p) with hf
  have orphaned : s.floor.RingMoves f := .of_ledger (Floor.ledger_orphanBurst _ _)
  have restarted : s.floor.RingMoves (f.setPort p ((f.port p).clear f.ring.writePos)) :=
    orphaned.tail (.restart f p rfl)
  exact .settled (.reply (restarted.trans (Floor.ringMoves_serveRing _)))

/-! The requests that end in settling (R69, R72, R100, R107, R114, R121). -/

theorem doStartJob_ringStep : s.floor.RingStep (doStartJob p payload s).floor := by
  unfold doStartJob
  split
  · exact .refuse (.refl _)
  · split
    · exact .refuse (.refl _)
    · split
      · exact .refuse (.refl _)
      · exact .settled (.reply (.of_ledger rfl))

theorem doCancelJob_ringStep : s.floor.RingStep (doCancelJob p payload s).floor := by
  unfold doCancelJob
  split
  · exact .refuse (.refl _)
  · split
    · exact .refuse (.refl _)
    · exact .settled (.reply (.of_ledger (Floor.ledger_cancelNotices _ _)))

theorem doSetDrive_ringStep : s.floor.RingStep (doSetDrive p payload s).floor := by
  unfold doSetDrive
  split
  · exact .refuse (.refl _)
  · simp only
    split
    · exact .refuse (.refl _)
    · split
      · exact .refuse (.refl _)
      · split
        · exact .evaluateNow (.reply (.of_ledger rfl))
        · exact .reply (.of_ledger rfl)

theorem doEnableDrive_ringStep : s.floor.RingStep (doEnableDrive p payload s).floor := by
  unfold doEnableDrive
  split
  · exact .refuse (.refl _)
  · next c _ =>
    split
    · exact .refuse (.refl _)
    · simp only
      split
      · exact .settled (.reply (.of_ledger (s.floor.ledger_enterBySeat c)))
      · exact .reply (.of_ledger (s.floor.ledger_enterBySeat c))

theorem doResumeDrive_ringStep : s.floor.RingStep (doResumeDrive p payload s).floor := by
  unfold doResumeDrive
  split
  · exact .refuse (.refl _)
  · simp only
    split
    · exact .evaluateNow (.reply (.of_ledger rfl))
    · exact .reply (.of_ledger rfl)

theorem doResetDrive_ringStep : s.floor.RingStep (doResetDrive p payload s).floor := by
  unfold doResetDrive
  split
  · exact .refuse (.refl _)
  · split
    · exact .refuse (.refl _)
    · exact .settled (.reply (Floor.ringMoves_resetDrive _ _))

/-! The requests that leave the ring and the line as they stand. -/

/-- The requests that move the ring or the line, or end in settling. -/
def Request.onRing : List Request :=
  [.portReset, .setLineHold, .startJob, .cancelJob, .setDrive, .enableDrive, .resumeDrive, .resetDrive, .readResult,
    .setResultFollow]

theorem State.runChecks_ledger (n : Nat) (s : State) : (s.runChecks n).floor.ledger = s.floor.ledger := by
  induction n generalizing s with
  | zero => rfl
  | succ n ih =>
    rw [runChecks]
    split
    · simp only
      split
      · exact ih _
      · rfl
    · rfl

theorem perform_ledger {r : Request} (other : r ∉ Request.onRing) :
    (perform r p payload s).floor.ledger = s.floor.ledger := by
  cases r with
  | portReset | setLineHold | startJob | cancelJob | setDrive | enableDrive | resumeDrive | resetDrive | readResult
  | setResultFollow => exact absurd (by decide) other
  | finishImage =>
    simp only [perform, doFinishImage]
    split
    · simp
    · split <;> simp [State.nextCheck, State.runChecks_ledger]
  | deleteImage =>
    simp only [perform, doDeleteImage]
    split
    · simp
    · split
      · simp
      · split <;> simp [State.nextCheck, State.runChecks_ledger, State.abandon]
  | readEvents | setEventMask | setCursor | writeData | readData =>
    simp only [perform, doReadEvents, doSetEventMask, doSetCursor, doWriteData, doReadData]
    repeat' split
    all_goals simp [State.startTransfer, State.countWrite]
    all_goals exact Floor.ledger_setPort rfl
  | _ =>
    simp only [perform, doReadDevice, doReadLine, doDefineFormat, doReadFormat, doRemoveFormat, doPlanQuery,
      doOpenImage, doDefineTrack, doReadImage, doReadTrackEntry, doReadStoreMap, doSetStore, doDefineJob, doStopJob,
      doRemoveJob, doReadJob, doReadDrive, doReadRing, doDisableDrive, doFreezeDrive]
    repeat' split
    all_goals simp [State.addJob, State.replyState]

end

end Sys2Proof.Machine

/-! SUPPORT. Every request, every command and so every step answers moves of the ring, and keeps the law of LINE HOLD
(R158, R169, R170). -/

namespace Sys2Proof.Machine

/-! Every request and every frame taken (R176, R178). -/

theorem perform_ringStep (r : Request) (p : PortId) (payload : List Byte) (s : State) :
    s.floor.RingStep (perform r p payload s).floor := by
  by_cases onRing : r ∈ Request.onRing
  · simp only [Request.onRing, List.mem_cons, List.not_mem_nil, or_false] at onRing
    rcases onRing with rfl | rfl | rfl | rfl | rfl | rfl | rfl | rfl | rfl | rfl
    exacts [doPortReset_ringStep p payload s, doSetLineHold_ringStep p payload s, doStartJob_ringStep p payload s,
      doCancelJob_ringStep p payload s, doSetDrive_ringStep p payload s, doEnableDrive_ringStep p payload s,
      doResumeDrive_ringStep p payload s, doResetDrive_ringStep p payload s, doReadResult_ringStep p payload s,
      doSetResultFollow_ringStep p payload s]
  · exact .of_ledger (perform_ledger p payload s onRing)

section

variable {f : Floor} {s : State}

theorem Floor.RingStep.take (h : f.RingStep s.floor) (p : PortId) (frame : HeldFrame) :
    f.RingStep (s.take p frame).floor := by
  cases frame with
  | request r payload => exact h.trans (perform_ringStep r p payload s)
  | error status => exact h.refuse

theorem State.receive_ringStep (s : State) (p : PortId) (frame : HeldFrame) :
    s.floor.RingStep (s.receive p frame).floor := by
  unfold receive
  split
  · exact perform_ringStep .portReset p _ s
  · split
    · refine .of_ledger (Floor.ledger_setPort ?_)
      unfold PortContext.enqueue
      split <;> rfl
    · exact .take (.refl _) p _

theorem Floor.RingStep.drainHolds {t : State} (h : f.RingStep t.floor) (s : State) :
    f.RingStep (s.drainHolds t).floor := by
  have drained {u : State} (h : f.RingStep u.floor) (p : PortId) (n : Nat) : f.RingStep (State.drain p n u).floor :=
    State.drain_induction (P := fun u => f.RingStep u.floor) p
      (fun u frame rest hu _ _ => .take
        (hu.still (Floor.ledger_setPort (x := { u.floor.port p with hold := rest }) rfl)) p frame) n u h
  have ended {u : State} (h : f.RingStep u.floor) (p : PortId) : f.RingStep (s.drainEnded u p).floor := by
    unfold State.drainEnded
    split
    · exact drained h p _
    · exact h
  exact ended (ended h .a) .b

/-! The store's bursts (R33, R37, R38). -/

theorem PortContext.transferBurst_ringPort (x : PortContext) (bytes : List Byte) :
    (x.transferBurst bytes).ringPort = x.ringPort := by
  unfold transferBurst
  split
  · rfl
  · split <;> rfl

theorem startBurst_ledger (b : Base) (f : Floor) (g : Grant) : (startBurst b f g).ledger = f.ledger := by
  have port (p : PortId) : (grantPort b f p).ledger = f.ledger := by
    unfold grantPort
    split
    · split
      · simp only
        split <;> rfl
      · exact Floor.ledger_setPort rfl
    · split <;> rfl
  cases g with
  | refresh => rfl
  | channel c =>
    simp only [startBurst, grantChannel]
    split <;> rfl
  | background client =>
    cases client with
    | portA => exact port .a
    | portB => exact port .b
    | checkUnit =>
      simp only [startBurst, grantCheck]
      repeat' split
      all_goals rfl

theorem State.grant_ledger (s : State) : s.grant.floor.ledger = s.floor.ledger := by
  unfold grant
  split
  · rfl
  · split
    · exact startBurst_ledger _ _ _
    · rfl

theorem State.checkBurst_ledger (s : State) (bytes : List Byte) :
    (s.checkBurst bytes).floor.ledger = s.floor.ledger := by
  unfold checkBurst
  split
  · rfl
  · simp only
    split
    · exact runChecks_ledger _ _
    · rfl

theorem State.completeBurst_ledger (s : State) (w : Burst) : (s.completeBurst w).floor.ledger = s.floor.ledger := by
  unfold completeBurst
  simp only
  split
  · cases w.work with
    | refresh | clear slot => rfl
    | fetch c slot => rfl
    | write p | read p =>
      exact Floor.ledger_setPort (f := { s.floor with burst := none }) (PortContext.transferBurst_ringPort _ _)
    | check => exact checkBurst_ledger _ _
  · rfl

end

/-! The line's law (R158, R169, R170). -/

theorem State.lineLaw_iff (s : State) : s.lineLaw = true ↔
    s.floor.line.internal = (!s.floor.ring.waiters.isEmpty) ∧
      (s.base.resetActive = true ∨ s.floor.line.recorded = s.floor.lineHeld) := by
  simp [lineLaw]

/-- What every step does to the ring, the cursors and the line. -/
structure State.RingStep (s t : State) : Prop where
  moves : s.floor.RingMoves t.floor
  line : s.lineLaw = true → t.lineLaw = true

section

variable {s t : State}

/-- Out of reset the law of the line says that no change of it is left to take. -/
theorem State.RingStep.of_running (running : s.base.resetActive = false) (h : s.floor.RingStep t.floor) :
    s.RingStep t where
  moves := h.moves
  line law := by
    obtain ⟨internal, recorded⟩ := s.lineLaw_iff.mp law
    have quiet := h.line ⟨recorded.resolve_left (by rw [running]; decide), internal⟩
    exact t.lineLaw_iff.mpr ⟨quiet.2, .inr quiet.1⟩

/-- The ring and the line stand, whatever of the base changes but for a reset. -/
theorem State.RingStep.of_ledger (same : t.floor.ledger = s.floor.ledger)
    (reset : t.base.resetActive = s.base.resetActive) : s.RingStep t where
  moves := .of_ledger same
  line law := by
    have read (u : State) : u.lineLaw = ((u.floor.ledger.line.internal == !u.floor.ledger.ring.waiters.isEmpty) &&
      (u.base.resetActive || u.floor.ledger.line.recorded == (u.floor.ledger.portA.lineHold ||
        u.floor.ledger.portB.lineHold || u.floor.ledger.line.internal || u.floor.ledger.line.handler))) := rfl
    rw [read, same, reset]
    exact law

theorem State.RingStep.refl (s : State) : s.RingStep s := ⟨.refl, id⟩

/-- A reset empties the ring and the cursors, and the line is as it is found (R169, R185). -/
theorem State.RingStep.of_reset (ring : t.floor.ring = Ring.reset) (cursor : ∀ p, (t.floor.port p).resultCursor = 0)
    (internal : t.floor.line.internal = false)
    (line : t.base.resetActive = true ∨ t.floor.line.recorded = t.floor.lineHeld) : s.RingStep t where
  moves := .single (.reset ring cursor)
  line _ := t.lineLaw_iff.mpr ⟨by rw [ring, internal]; rfl, line⟩

/-! Every command and every step. -/

theorem State.taken_ringStep {g : State → State}
    (running : s.base.resetActive = false → s.floor.RingStep (g s).floor) : s.RingStep (s.taken g) := by
  unfold taken
  split
  · exact .refl s
  · next active =>
    have up : s.base.resetActive = false := by simpa using active
    exact .of_running up (running up)

/-- An event of one channel settles whatever it has moved. -/
theorem State.channelEvent_ringStep {occurs : Bool} {g : Base → Floor → Floor}
    (event : (g s.base s.floor).ledger = s.floor.ledger) : s.RingStep (s.channelEvent occurs g) := by
  refine State.taken_ringStep fun _ => ?_
  split
  · exact .settled (.of_ledger event)
  · exact .refl _

theorem State.station_ringStep (s : State) (r : Request) (p : PortId) (payload : List Byte) :
    s.RingStep (s.station r p payload) := 
  State.taken_ringStep (g := fun s => s.receive p (heldFrame r payload)) fun _ => s.receive_ringStep p _

theorem execStoreBurstComplete_ringStep (next : execStoreBurstComplete s = .next t) : s.RingStep t := by
  unfold execStoreBurstComplete at next
  split at next
  · cases next
    exact .refl _
  · next w _ =>
    split at next
    · cases next
      exact .refl _
    · next active =>
      split at next
      · cases next
        exact .of_running (by simpa using active) (.drainHolds (.of_ledger (s.completeBurst_ledger w)) s)
      · cases next

/-- While RESET is active the handler's pull stands at the pin and is not taken (R169, R185). -/
theorem execLineHoldPinChange_ringStep (pulls : Bool) (next : execLineHoldPinChange pulls s = .next t) :
    s.RingStep t := by
  cases next
  have pulled : s.floor.RingMoves (s.floor.handlerPulls pulls) :=
    .single (.stand rfl rfl fun p => by cases p <;> rfl)
  unfold State.taken
  split
  · next active =>
    refine ⟨pulled, fun law => (State.lineLaw_iff _).mpr ⟨(s.lineLaw_iff.mp law).1, .inl active⟩⟩
  · next active => exact .of_running (by simpa using active) (.settled (s := { s with floor := _ }) pulled)

theorem execResetPinRelease_ringStep (size1 size0 : Bool) (next : execResetPinRelease size1 size0 s = .next t) :
    s.RingStep t := by
  cases next
  split
  · exact ⟨.single (.stand rfl rfl fun p => by cases p <;> rfl),
      fun law => (State.lineLaw_iff _).mpr ⟨(s.lineLaw_iff.mp law).1, .inr rfl⟩⟩
  · exact .refl s

theorem execPowerOn_ringStep (pins : PinLevels) (next : execPowerOn pins s = .next t) : s.RingStep t := by
  cases next
  refine .of_reset ?_ (fun p => by rw [s.powerOn_port]; rfl) ?_ ?_
  · rw [s.powerOn_floor]
    split <;> rfl
  · rw [s.powerOn_floor]
    split <;> rfl
  · cases active : s.base.resetActive with
    | true => exact .inl active
    | false =>
      rw [s.powerOn_floor, active]
      exact .inr rfl

theorem exec_ringStep (i : Instr) (next : exec i s = .next t) : s.RingStep t := by
  cases i with
  | powerOn pins => exact execPowerOn_ringStep pins next
  | resetPinAssert =>
    cases next
    exact .of_reset rfl (fun p => by cases p <;> rfl) rfl (.inl rfl)
  | resetPinRelease size1 size0 => exact execResetPinRelease_ringStep size1 size0 next
  | timebaseTick trk0 wprot =>
    cases next
    unfold State.taken
    split <;> exact .of_ledger rfl rfl
  | refreshTimerExpiry =>
    cases next
    exact State.taken_ringStep fun _ => .refl _
  | arbiterGrant =>
    cases next
    exact State.taken_ringStep fun _ => .drainHolds (.of_ledger s.grant_ledger) s
  | storeBurstComplete => exact execStoreBurstComplete_ringStep next
  | planBuildComplete =>
    cases next
    exact State.taken_ringStep fun _ => .of_ledger (Floor.ledger_finishPlan _ _)
  | indexEdge c =>
    cases next
    exact State.channelEvent_ringStep (Floor.ledger_indexEdge _ _ _)
  | writeStreamByte c =>
    cases next
    refine State.channelEvent_ringStep ?_
    split
    · exact Floor.ledger_writeByte _ _ _ _
    · rfl
  | writeUnderrun c =>
    cases next
    refine State.channelEvent_ringStep ?_
    split
    · exact Floor.ledger_endAttempt _ _ _ _
    · rfl
  | readBackByte c flux =>
    cases next
    exact State.channelEvent_ringStep (Floor.ledger_readByte _ _ _ _)
  | verifySlotResult c =>
    cases next
    refine State.taken_ringStep fun _ => ?_
    split
    · split
      · exact .of_ledger (Floor.ledger_giveSlotResult _ _ _ _ _ _ _)
      · exact .refl _
    · exact .refl _
  | verifyUnderrun c =>
    cases next
    refine State.channelEvent_ringStep ?_
    split
    · exact Floor.ledger_endAttempt _ _ _ _
    · rfl
  | stepPulseTimerExpiry c | settleTimerExpiry c =>
    cases next
    refine State.taken_ringStep fun _ => ?_
    split <;> exact .of_ledger rfl
  | stepTimerExpiry c =>
    cases next
    exact State.channelEvent_ringStep (Floor.ledger_stepExpiry _ _ _)
  | spinupTimerExpiry c | indexWatchdogExpiry c =>
    cases next
    exact State.channelEvent_ringStep (Floor.ledger_abortDisk _ _ _)
  | lineHoldPinChange pulls => exact execLineHoldPinChange_ringStep pulls next
  | seatedEdge c level =>
    cases next
    repeat' split
    all_goals exact .of_ledger rfl rfl
  | debounceTimerExpiry c =>
    cases next
    exact State.channelEvent_ringStep (Floor.ledger_debounceExpiry _ _)
  | fetchStart p =>
    cases next
    exact State.taken_ringStep fun _ => .of_ledger (Floor.ledger_setPort rfl)
  | fetchWindowEnd p clocks =>
    cases next
    refine State.taken_ringStep fun _ => .of_ledger (Floor.ledger_setPort ?_)
    unfold PortContext.endFetch
    split <;> rfl
  | frameRejected p bits =>
    cases next
    refine State.taken_ringStep fun _ => ?_
    unfold State.reject
    split
    · exact s.receive_ringStep p _
    all_goals exact .refl _
  | _ =>
    cases next
    exact s.station_ringStep _ _ _

theorem step_ringStep (next : step s = .next t) : s.RingStep t := by
  unfold step at next
  split at next
  · cases next
    exact .refl s
  · next i rest _ =>
    obtain ⟨moves, line⟩ := exec_ringStep (s := { s with pending := rest }) i next
    exact ⟨moves, line⟩

end

/-- Settles O10: while the part runs, whatever moves the line ends in an update of it. -/
theorem lineHoldKeepsItsLaw : Obligations.LineHoldKeepsItsLaw := by
  unfold Obligations.LineHoldKeepsItsLaw
  exact fun s t law next => (step_ringStep next).line law

end Sys2Proof.Machine

/-! SUPPORT. The law of the ring and its cursors (R150, R151, R156): the numbers of the records run on from one of them,
and every cursor is some distance from it, at most the number of records. -/

namespace Sys2Proof.Machine

/-! Numbers that run on (R150). -/

/-- The records carry consecutive sequence numbers from one up to the write position. -/
def Ring.RunsFrom (r : Ring) (first : Word32) : Prop :=
  (∀ (i : Nat) (h : i < r.records.length), (r.records[i]).sequence = first + BitVec.ofNat 32 i) ∧
    r.writePos = first + BitVec.ofNat 32 r.records.length

theorem Ring.RunsFrom.oldest {r : Ring} {first : Word32} (runs : r.RunsFrom first) : r.oldest = first := by
  obtain ⟨numbers, writePos⟩ := runs
  cases records : r.records with
  | nil => simpa [Ring.oldest, records] using writePos
  | cons x rest => simpa [Ring.oldest, records] using numbers 0 (by simp [records])

theorem Ring.consecutive_iff (r : Ring) : r.consecutive = true ↔ r.RunsFrom r.oldest := by
  simp only [consecutive, Bool.and_eq_true, decide_eq_true_eq, RunsFrom]
  refine and_congr_left fun _ => ⟨fun same i h => ?_, fun numbers => ?_⟩
  · have at_i := congrArg (·[i]?) same
    simpa [h] using at_i
  · refine List.ext_getElem (by simp) fun i h _ => ?_
    simpa using numbers i (by simpa using h)

theorem Ring.RunsFrom.consecutive {r : Ring} {first : Word32} (runs : r.RunsFrom first) : r.consecutive = true :=
  r.consecutive_iff.mpr (runs.oldest.symm ▸ runs)

/-- A record appended takes the write position as its number (R153). -/
theorem Ring.RunsFrom.append {r : Ring} {first : Word32} (runs : r.RunsFrom first) (c : Chan) (body : RecordBody)
    (elapsed : Nat) : (r.append c body elapsed).RunsFrom first := by
  obtain ⟨numbers, writePos⟩ := runs
  refine ⟨fun i h => ?_, ?_⟩
  · by_cases old : i < r.records.length
    · simpa [Ring.append, List.getElem_append_left old] using numbers i old
    · have last : i = r.records.length := by simp [Ring.append] at h; omega
      subst last
      simpa [Ring.append] using writePos
  · simp [Ring.append, writePos, BitVec.ofNat_add, BitVec.add_assoc]

/-- Without its oldest records the ring runs on from the first one left. -/
theorem Ring.RunsFrom.drop {r : Ring} {first : Word32} (runs : r.RunsFrom first) {gone kept : List ResultRecord}
    (records : r.records = gone ++ kept) :
    ({ r with records := kept } : Ring).RunsFrom (first + BitVec.ofNat 32 gone.length) := by
  obtain ⟨numbers, writePos⟩ := runs
  refine ⟨fun i h => ?_, ?_⟩
  · have number := numbers (gone.length + i) (by simpa [records] using h)
    simpa [records, BitVec.ofNat_add, BitVec.add_assoc] using number
  · simpa [records, BitVec.ofNat_add, BitVec.add_assoc] using writePos

/-- A cursor lies in the ring's bounds just where it is some distance from the oldest number (R151). -/
theorem Ring.RunsFrom.bounds_iff {r : Ring} {first : Word32} (runs : r.RunsFrom first) (cursor : Word32) :
    r.bounds cursor = true ↔ ∃ d ≤ r.records.length, cursor = first + BitVec.ofNat 32 d := by
  rw [bounds, runs.oldest, decide_eq_true_eq]
  refine ⟨fun near => ⟨_, near, ?_⟩, fun ⟨d, near, at_d⟩ => ?_⟩
  · rw [BitVec.ofNat_toNat, BitVec.setWidth_eq, add_sub_cancel]
  · rw [at_d, add_sub_cancel_left, BitVec.toNat_ofNat]
    exact (Nat.mod_le _ _).trans near

/-- A number near the oldest is that of one of the first records just where it is nearer than they are many. -/
theorem Ring.RunsFrom.named_iff {r : Ring} {first : Word32} (runs : r.RunsFrom first) (few : r.records.length ≤ 64)
    {gone kept : List ResultRecord} (records : r.records = gone ++ kept) {d : Nat} (near : d ≤ 64) :
    (∃ q ∈ gone, q.sequence = first + BitVec.ofNat 32 d) ↔ d < gone.length := by
  have total : r.records.length = gone.length + kept.length := by rw [records, List.length_append]
  have number (i : Nat) (h : i < gone.length) : gone[i].sequence = first + BitVec.ofNat 32 i := by
    have numbered := runs.1 i (by omega)
    simpa [records, h] using numbered
  refine ⟨fun ⟨q, mem, named⟩ => ?_, fun less => ⟨_, List.getElem_mem less, number d less⟩⟩
  obtain ⟨i, less, rfl⟩ := List.getElem_of_mem mem
  have same : BitVec.ofNat 32 i = BitVec.ofNat 32 d := add_left_cancel ((number i less).symm.trans named)
  have value := congrArg BitVec.toNat same
  rw [BitVec.toNat_ofNat, BitVec.toNat_ofNat, Nat.mod_eq_of_lt (by omega), Nat.mod_eq_of_lt (by omega)] at value
  omega

/-! The cursors (R151, R156). -/

/-- A non-following cursor that names a record that goes is moved up, and no other cursor moves (R156). -/
theorem PortContext.moveUp_gone {r : Ring} {first : Word32} (runs : r.RunsFrom first) (few : r.records.length ≤ 64)
    {gone kept : List ResultRecord} (records : r.records = gone ++ kept) (x : PortContext)
    (inside : r.bounds x.resultCursor = true) :
    x.moveUp r.oldest ({ r with records := kept } : Ring).oldest =
      if !x.follow && gone.any fun q => decide (q.sequence = x.resultCursor) then
        { x with resultCursor := first + BitVec.ofNat 32 gone.length }
      else x := by
  obtain ⟨d, near, at_d⟩ := (runs.bounds_iff _).mp inside
  have total : r.records.length = gone.length + kept.length := by rw [records, List.length_append]
  have distance (n : Nat) (small : n ≤ 64) : (first + BitVec.ofNat 32 n - first).toNat = n := by
    rw [add_sub_cancel_left, BitVec.toNat_ofNat, Nat.mod_eq_of_lt (by omega)]
  have before : decide ((x.resultCursor - r.oldest).toNat <
      (({ r with records := kept } : Ring).oldest - r.oldest).toNat) =
        gone.any fun q => decide (q.sequence = x.resultCursor) := by
    rw [runs.oldest, (runs.drop records).oldest, at_d, distance d (by omega), distance _ (by omega), Bool.eq_iff_iff,
      decide_eq_true_eq, ← runs.named_iff few records (d := d) (by omega)]
    simp
  rw [moveUp, before, (runs.drop records).oldest]

namespace Floor

variable {f g : Floor} {first : Word32}

/-- The law of the ring and its cursors, said from the oldest number. -/
structure Numbered (f : Floor) (first : Word32) : Prop where
  few : f.ring.records.length ≤ 64
  runs : f.ring.RunsFrom first
  near : ∀ p, f.ring.bounds (f.port p).resultCursor = true

theorem cursorLaw_iff (f : Floor) : f.cursorLaw = true ↔ ∃ first, f.Numbered first := by
  simp only [cursorLaw, Ring.law, Bool.and_eq_true, decide_eq_true_eq]
  refine ⟨fun ⟨⟨⟨few, runs⟩, nearA⟩, nearB⟩ => ⟨_, few, f.ring.consecutive_iff.mp runs, fun p => ?_⟩,
    fun ⟨first, few, runs, near⟩ => ⟨⟨⟨few, runs.consecutive⟩, near .a⟩, near .b⟩⟩
  cases p <;> assumption

theorem keepRecords_port (f : Floor) (records : List ResultRecord) (p : PortId) : (f.keepRecords records).port p =
    (f.port p).moveUp f.ring.oldest ({ f.ring with records := records } : Ring).oldest := by
  cases p <;> rfl

/-- The oldest records go, where no follower's cursor names one of them: the cursors stay in bounds (R155, R156). -/
theorem Numbered.keepRecords (law : f.Numbered first) {gone kept : List ResultRecord}
    (records : f.ring.records = gone ++ kept)
    (past : ∀ p, (f.port p).follow = true → ∀ q ∈ gone, q.sequence ≠ (f.port p).resultCursor) :
    (f.keepRecords kept).Numbered (first + BitVec.ofNat 32 gone.length) := by
  have total : f.ring.records.length = gone.length + kept.length := by rw [records, List.length_append]
  have few := law.few
  have runs : (f.keepRecords kept).ring.RunsFrom _ := law.runs.drop records
  refine ⟨?_, runs, fun p => (runs.bounds_iff _).mpr ?_⟩
  · exact show kept.length ≤ 64 by omega
  · rw [keepRecords_port, PortContext.moveUp_gone law.runs law.few records _ (law.near p)]
    split
    · exact ⟨0, Nat.zero_le _, (add_zero _).symm⟩
    · next stays =>
      obtain ⟨d, near, at_d⟩ := (law.runs.bounds_iff _).mp (law.near p)
      have beyond : gone.length ≤ d := by
        by_contra less
        obtain ⟨q, mem, named⟩ := (law.runs.named_iff law.few records (by omega)).mpr (not_le.mp less)
        rw [← at_d] at named
        cases follow : (f.port p).follow with
        | true => exact past p follow q mem named
        | false => exact stays (by simpa [follow] using ⟨q, mem, named⟩)
      refine ⟨d - gone.length, show _ ≤ kept.length by omega, ?_⟩
      rw [at_d, BitVec.add_assoc, ← BitVec.ofNat_add, Nat.add_sub_cancel' beyond]

theorem pastByAll_iff (f : Floor) (r : ResultRecord) :
    f.pastByAll r = true ↔ ∀ p, (f.port p).follow = true → (f.port p).resultCursor ≠ r.sequence := by
  have either (follow : Bool) (cursor : Word32) : (!follow || decide (cursor ≠ r.sequence)) = true ↔
      (follow = true → cursor ≠ r.sequence) := by cases follow <;> simp
  rw [pastByAll, Bool.and_eq_true, either, either]
  exact ⟨fun ⟨pastA, pastB⟩ p => by cases p <;> assumption, fun past => ⟨past .a, past .b⟩⟩

theorem Numbered.freeRecords (law : f.Numbered first) : ∃ first, f.freeRecords.Numbered first := by
  unfold Floor.freeRecords
  split
  · refine ⟨_, law.keepRecords List.takeWhile_append_dropWhile.symm fun p follow q mem => ?_⟩
    exact ((f.pastByAll_iff q).mp (List.mem_takeWhile_imp mem) p follow).symm
  · exact ⟨first, law⟩

/-- What the law is read from stands. -/
theorem Numbered.congr (law : f.Numbered first) (records : g.ring.records = f.ring.records)
    (writePos : g.ring.writePos = f.ring.writePos)
    (cursor : ∀ p, (g.port p).resultCursor = (f.port p).resultCursor) : g.Numbered first := by
  have runs : g.ring.RunsFrom first := by
    unfold Ring.RunsFrom
    rw [records, writePos]
    exact law.runs
  refine ⟨records ▸ law.few, runs, fun p => (runs.bounds_iff _).mpr ?_⟩
  rw [records, cursor]
  exact (law.runs.bounds_iff _).mp (law.near p)

/-- The oldest record goes where no port follows the ring (R154). -/
theorem Numbered.displace (law : f.Numbered first) (unfollowed : f.followed = false) :
    ∃ first, f.displace.Numbered first := by
  have free (p : PortId) : (f.port p).follow = false := by
    simp only [followed, Bool.or_eq_false_iff] at unfollowed
    cases p
    exacts [unfollowed.1, unfollowed.2]
  have records : f.ring.records = f.ring.records.take 1 ++ f.ring.records.tail := by
    rw [← List.drop_one, List.take_append_drop]
  have kept := law.keepRecords records fun p follow => by rw [free] at follow; cases follow
  exact ⟨_, kept.congr rfl rfl fun p => by cases p <;> rfl⟩

theorem Numbered.append (law : f.Numbered first) (c : Chan) (body : RecordBody) (elapsed : Nat)
    (room : f.ring.records.length < ringSize) :
    Numbered { f with ring := f.ring.append c body elapsed } first := by
  have length : (f.ring.append c body elapsed).records.length = f.ring.records.length + 1 := List.length_append
  have runs := law.runs.append c body elapsed
  refine ⟨length.trans_le room, runs, fun p => (runs.bounds_iff _).mpr ?_⟩
  obtain ⟨d, near, at_d⟩ := (law.runs.bounds_iff _).mp (law.near p)
  refine ⟨d, near.trans (length.symm ▸ Nat.le_succ _), ?_⟩
  cases p <;> exact at_d

/-- A cursor set anywhere in the ring's bounds keeps the law. -/
theorem Numbered.setPort (law : f.Numbered first) (p : PortId) {x : PortContext} {d : Nat}
    (near : d ≤ f.ring.records.length) (at_d : x.resultCursor = first + BitVec.ofNat 32 d) :
    (f.setPort p x).Numbered first := by
  have ring := f.setPort_ring p x
  refine ⟨ring ▸ law.few, ring ▸ law.runs, fun q => ?_⟩
  have own : f.ring.bounds x.resultCursor = true := (law.runs.bounds_iff _).mpr ⟨d, near, at_d⟩
  rw [ring]
  cases p <;> cases q
  exacts [own, law.near .b, law.near .a, own]

/-- Every move of the ring keeps the law of the ring and its cursors. -/
theorem RingMove.numbered (move : f.RingMove g) (law : f.Numbered first) : ∃ first, g.Numbered first := by
  cases move with
  | stand records writePos cursor => exact ⟨_, law.congr records writePos cursor⟩
  | append c body elapsed room => exact ⟨_, law.append c body elapsed room⟩
  | replace c body elapsed full unfollowed =>
    obtain ⟨_, displaced⟩ := law.displace unfollowed
    refine ⟨_, displaced.append c body elapsed ?_⟩
    have few := law.few
    have left : f.displace.ring.records.length = f.ring.records.length - 1 := List.length_tail
    rw [left]
    exact show f.ring.records.length - 1 < 64 by omega
  | free => exact law.freeRecords
  | read p held named past =>
    obtain ⟨i, less, rfl⟩ := List.getElem_of_mem held
    refine ⟨_, law.setPort p (d := i + 1) less ?_⟩
    rw [past, ← named, law.runs.1 i less, BitVec.add_assoc, BitVec.ofNat_add]
    rfl
  | restart p cursor => exact ⟨_, law.setPort p le_rfl (cursor.trans law.runs.2)⟩
  | reset ring cursor =>
    have runs : g.ring.RunsFrom 0 := by
      rw [ring]
      exact ⟨nofun, rfl⟩
    exact ⟨0, by rw [ring]; exact Nat.zero_le 64, runs,
      fun p => (runs.bounds_iff _).mpr ⟨0, Nat.zero_le _, by rw [cursor]; rfl⟩⟩

theorem RingMoves.numbered (moves : f.RingMoves g) (law : f.Numbered first) : ∃ first, g.Numbered first := by
  induction moves with
  | refl => exact ⟨first, law⟩
  | tail _ move ih =>
    obtain ⟨_, ih⟩ := ih
    exact move.numbered ih

/-- Every move of the ring keeps it at 64 records or fewer (R150). -/
theorem RingMove.few (move : f.RingMove g) (few : f.ring.records.length ≤ 64) : g.ring.records.length ≤ 64 := by
  cases move with
  | stand records => rwa [records]
  | append c body elapsed room => exact List.length_append.trans_le room
  | replace c body elapsed full unfollowed =>
    have length : (f.displace.ring.append c body elapsed).records.length = f.ring.records.length - 1 + 1 := by
      rw [← List.length_tail]
      exact List.length_append
    exact length.trans_le (show _ ≤ 64 by omega)
  | free =>
    unfold freeRecords
    split
    · exact (List.length_dropWhile_le _ _).trans few
    · exact few
  | read p | restart p => rwa [setPort_ring]
  | reset ring =>
    rw [ring]
    exact Nat.zero_le 64

theorem RingMoves.few (moves : f.RingMoves g) (few : f.ring.records.length ≤ 64) : g.ring.records.length ≤ 64 := by
  induction moves with
  | refl => exact few
  | tail _ move ih => exact move.few ih

end Floor

/-- Settles O6: every step answers moves of the ring, and each of them keeps both laws. -/
theorem ringNeverOverfills : Obligations.RingNeverOverfills := by
  unfold Obligations.RingNeverOverfills
  refine ⟨fun s t law next => ?_, fun s t law next => ?_⟩
  · exact decide_eq_true ((step_ringStep next).moves.few (of_decide_eq_true law))
  · obtain ⟨first, numbered⟩ := s.floor.cursorLaw_iff.mp law
    exact t.floor.cursorLaw_iff.mpr ((step_ringStep next).moves.numbered numbered)

end Sys2Proof.Machine

/-! SUPPORT. The ring frees its oldest records and serves its waiters (R154 to R159): what one record taken leaves, and
a pass down the waiter list with a follower and with none. -/

namespace Sys2Proof.Machine

theorem PortContext.moveUp_eq (x : PortContext) (old new : Word32) :
    ∃ cursor, x.moveUp old new = { x with resultCursor := cursor } := by
  unfold moveUp
  split
  · exact ⟨_, rfl⟩
  · exact ⟨x.resultCursor, rfl⟩

namespace Floor

variable {f g h : Floor} {c : Chan} {body : RecordBody} {bodies : Chan → RecordBody}

/-! Freeing (R155, R156). -/

theorem freeRecords_unfollowed (unfollowed : f.followed = false) : f.freeRecords = f := by
  rw [freeRecords, unfollowed]
  rfl

/-! One record taken, with or without displacement (R153, R154). -/

/-- A channel's record has been taken: it has no disk left, the other channels stand, whether a port follows
stands, and both ports keep their events and have RESULTS_WAITING. -/
structure Took (f g : Floor) (c : Chan) : Prop where
  other : ∀ d, d ≠ c → g.chan d = f.chan d
  left : (g.chan c).disk = none ∧ (g.chan c).record = none
  followed : g.followed = f.followed
  evalDue : g.evalDue = true
  posted : ∀ p, .resultsWaiting ∈ (g.port p).events
  events : ∀ p, ∀ e ∈ (f.port p).events, e ∈ (g.port p).events

theorem completePosting_left (f : Floor) (c : Chan) (outcome : DiskOutcome) :
    ((f.completePosting c outcome).chan c).disk = none ∧ ((f.completePosting c outcome).chan c).record = none := by
  have set (x : Channel) (disk : x.disk = none) (record : x.record = none) :
      ((f.setChan c x).chan c).disk = none ∧ ((f.setChan c x).chan c).record = none := by
    rw [chan_setChan_same]
    exact ⟨disk, record⟩
  exact f.completePosting_cases (P := fun t => (t.chan c).disk = none ∧ (t.chan c).record = none) c outcome
    (fun _ => set _ rfl rfl) (fun _ _ => set _ rfl rfl) (fun _ _ _ => set _ rfl rfl) fun _ _ _ => set _ rfl rfl

theorem followed_congr (same : ∀ p, (g.port p).follow = (f.port p).follow) : g.followed = f.followed :=
  congrArg₂ or (same .a) (same .b)

theorem takeRecord_took (f : Floor) (c : Chan) (body : RecordBody) : f.Took (f.takeRecord c body) c where
  other d other := (f.takeRecord_other body other).1
  left := completePosting_left _ c body.outcome
  followed := followed_congr fun p => by
    obtain ⟨_, port, -⟩ := f.takeRecord_port c body p
    rw [port]
  evalDue := rfl
  posted p := by
    obtain ⟨_, port, mem⟩ := f.takeRecord_port c body p
    rw [port]
    exact (mem _).mpr (.inr (.inl rfl))
  events p e old := by
    obtain ⟨_, port, mem⟩ := f.takeRecord_port c body p
    rw [port]
    exact (mem e).mpr (.inl old)

/-- Displacement moves cursors and posts RESULTS_DROPPED; nothing else of a port changes (R154, R156). -/
theorem displace_port (f : Floor) (p : PortId) : ∃ cursor, f.displace.port p =
    { f.port p with resultCursor := cursor, events := addEvent (f.port p).events .resultsDropped } := by
  obtain ⟨cursor, moved⟩ := PortContext.moveUp_eq (f.port p) f.ring.oldest
    ({ f.ring with records := f.ring.records.tail } : Ring).oldest
  refine ⟨cursor, ?_⟩
  calc f.displace.port p
      = ((f.keepRecords f.ring.records.tail).post .resultsDropped).port p := by cases p <;> rfl
    _ = _ := by rw [post_port, keepRecords_port, moved]

theorem displace_followed (f : Floor) : f.displace.followed = f.followed := followed_congr fun p => by
  obtain ⟨_, port⟩ := f.displace_port p
  rw [port]

theorem displace_ring (f : Floor) : f.displace.ring =
    { f.ring with records := f.ring.records.tail, dropped := min 65535 (f.ring.dropped + 1) } := rfl

theorem displace_events (f : Floor) (p : PortId) (e : EventKind) :
    e ∈ (f.displace.port p).events ↔ e = .resultsDropped ∨ e ∈ (f.port p).events := by
  obtain ⟨_, port⟩ := f.displace_port p
  rw [port]
  exact mem_addEvent

theorem displace_took (f : Floor) (c : Chan) (body : RecordBody) : f.Took (f.displace.takeRecord c body) c := by
  have took := f.displace.takeRecord_took c body
  exact { took with
    followed := took.followed.trans f.displace_followed
    events := fun p e old => took.events p e ((f.displace_events p e).mpr (.inr old)) }

theorem takeRecord_ring (f : Floor) (c : Chan) (body : RecordBody) :
    (f.takeRecord c body).ring = f.ring.append c body (f.chan c).elapsedNow :=
  (congrArg Ledger.ring (f.ledger_takeRecord c body) :)

/-! Several records taken. -/

/-- The records of a list of channels have been taken. -/
structure Served (f g : Floor) (l : List Chan) : Prop where
  other : ∀ c, c ∉ l → g.chan c = f.chan c
  left : ∀ c ∈ l, (g.chan c).disk = none ∧ (g.chan c).record = none
  due : f.evalDue = true → g.evalDue = true
  events : ∀ p, ∀ e ∈ (f.port p).events, e ∈ (g.port p).events
  posted : l ≠ [] → g.evalDue = true ∧ ∀ p, .resultsWaiting ∈ (g.port p).events

theorem Served.nil (f : Floor) : f.Served f [] where
  other _ _ := rfl
  left _ h := absurd h List.not_mem_nil
  due := id
  events _ _ h := h
  posted h := absurd rfl h

theorem Served.cons {l : List Chan} (took : f.Took g c) (served : g.Served h l) : f.Served h (c :: l) where
  other d new := by
    rw [List.mem_cons, not_or] at new
    exact (served.other d new.2).trans (took.other d new.1)
  left d mem := by
    by_cases later : d ∈ l
    · exact served.left d later
    · have own : d = c := (List.mem_cons.mp mem).resolve_right later
      rw [served.other d later, own]
      exact took.left
  due _ := served.due took.evalDue
  events p e old := served.events p e (took.events p e old)
  posted _ := ⟨served.due took.evalDue, fun p => served.events p _ (took.posted p)⟩

/-- The records that channels offer, numbered from the given one (R150, R153). -/
def offered (f : Floor) (bodies : Chan → RecordBody) : Word32 → List Chan → List ResultRecord
  | _, [] => []
  | w, c :: rest =>
    { sequence := w, body := bodies c, elapsed := (f.chan c).elapsedNow } :: offered f bodies (w + 1) rest

theorem offered_eq (f : Floor) (bodies : Chan → RecordBody) (w : Word32) (l : List Chan) : f.offered bodies w l =
    l.mapIdx fun i c =>
      { sequence := w + BitVec.ofNat 32 i, body := bodies c, elapsed := (f.chan c).elapsedNow } := by
  induction l generalizing w with
  | nil => rfl
  | cons c rest ih =>
    have later (i : Nat) : w + 1 + BitVec.ofNat 32 i = w + BitVec.ofNat 32 (i + 1) := by
      rw [BitVec.ofNat_add, BitVec.add_assoc, BitVec.add_comm 1]
      rfl
    simp only [offered, ih, List.mapIdx_cons, later, BitVec.add_zero]

@[simp] theorem offered_length (f : Floor) (w : Word32) (l : List Chan) : (f.offered bodies w l).length = l.length := by
  rw [offered_eq, List.length_mapIdx]

/-- A record depends on its own channel only. -/
theorem offered_congr (w : Word32) {l : List Chan} (same : ∀ c ∈ l, g.chan c = f.chan c) :
    g.offered bodies w l = f.offered bodies w l := by
  induction l generalizing w with
  | nil => rfl
  | cons c rest ih =>
    rw [offered, offered, same c List.mem_cons_self, ih _ fun d mem => same d (List.mem_cons_of_mem c mem)]

/-! A pass down the waiter list (R157, R159). -/

/-- The waiters are a list of channels, each with its record. -/
structure Waits (f : Floor) (bodies : Chan → RecordBody) (l : List Chan) : Prop where
  few : f.ring.records.length ≤ 64
  waiters : f.ring.waiters = l
  once : l.Nodup
  record : ∀ c ∈ l, (f.chan c).record = some (bodies c)

theorem Waits.ring {l : List Chan} (waits : f.Waits bodies l) : { f.ring with waiters := l } = f.ring := by
  rw [← waits.waiters]

/-- The first waiter's record taken leaves the rest of the list waiting with theirs. -/
theorem Waits.next {rest : List Chan} (waits : f.Waits bodies (c :: rest)) (took : f.Took g c)
    (few : g.ring.records.length ≤ 64)
    (waiters : g.ring.waiters = f.ring.waiters.filter fun d => decide (d ≠ c)) :
    g.Waits bodies rest ∧ ∀ w l, (∀ d ∈ l, d ∈ rest) → g.offered bodies w l = f.offered bodies w l := by
  obtain ⟨new, once⟩ := List.nodup_cons.mp waits.once
  have other {d : Chan} (mem : d ∈ rest) : g.chan d = f.chan d := took.other d (ne_of_mem_of_not_mem mem new)
  refine ⟨⟨few, ?_, once, fun d mem => ?_⟩, fun w l sub => offered_congr w fun d mem => other (sub d mem)⟩
  · rw [waiters, waits.waiters, List.filter_cons_of_neg (by simp), List.filter_eq_self]
    exact fun d mem => decide_eq_true (ne_of_mem_of_not_mem mem new)
  · rw [other mem]
    exact waits.record d (List.mem_cons_of_mem c mem)

theorem serveList_room {rest : List Chan} (record : (f.chan c).record = some body)
    (room : f.ring.records.length < 64) : serveList (c :: rest) f = serveList rest (f.takeRecord c body) := by
  simp only [serveList, record]
  exact if_pos room

theorem serveList_full {rest : List Chan} (record : (f.chan c).record = some body)
    (full : f.ring.records.length = 64) : serveList (c :: rest) f =
      if f.followed then f else serveList rest (f.displace.takeRecord c body) := by
  simp only [serveList, record]
  exact if_neg (by rw [full]; decide)

/-- With a follower as many records are taken as the ring has room for, and the other channels go on waiting (R157). -/
theorem serveList_followed (l : List Chan) (waits : f.Waits bodies l) (followed : f.followed = true) :
    let n := min l.length (64 - f.ring.records.length)
    f.Served (serveList l f) (l.take n) ∧ (serveList l f).ring = { f.ring with
      records := f.ring.records ++ f.offered bodies f.ring.writePos (l.take n)
      writePos := f.ring.writePos + BitVec.ofNat 32 n, waiters := l.drop n } := by
  induction l generalizing f with
  | nil => exact ⟨.nil f, by simpa [serveList, offered] using waits.ring.symm⟩
  | cons c rest ih =>
    have record := waits.record c List.mem_cons_self
    have few := waits.few
    by_cases room : f.ring.records.length < 64
    · set g := f.takeRecord c (bodies c) with hg
      have ring : g.ring = f.ring.append c (bodies c) (f.chan c).elapsedNow := f.takeRecord_ring c _
      have length : g.ring.records.length = f.ring.records.length + 1 := by rw [ring]; exact List.length_append
      have took : f.Took g c := f.takeRecord_took c _
      obtain ⟨waits', same⟩ := waits.next took (by omega) (by rw [ring]; rfl)
      obtain ⟨served, ring'⟩ := ih waits' (took.followed.trans followed)
      have one : min (c :: rest).length (64 - f.ring.records.length) =
          min rest.length (64 - g.ring.records.length) + 1 := by
        rw [length, List.length_cons]
        omega
      intro n
      rw [show n = _ from one, serveList_room record room, List.take_succ_cons, List.drop_succ_cons]
      refine ⟨.cons took served, ring'.trans ?_⟩
      rw [same _ _ fun d mem => List.mem_of_mem_take mem, ring]
      simp only [Ring.append, offered, List.append_assoc, List.singleton_append, BitVec.ofNat_add, BitVec.add_assoc,
        BitVec.add_comm 1]
      rfl
    · have full : f.ring.records.length = 64 := by omega
      rw [serveList_full record full, if_pos followed, full]
      exact ⟨.nil f, by simpa [offered] using waits.ring.symm⟩

/-- With no follower every record is taken, and the oldest records go for those the ring has no room for (R154,
R159). -/
theorem serveList_unfollowed (l : List Chan) (waits : f.Waits bodies l) (unfollowed : f.followed = false)
    (dropped : f.ring.dropped ≤ 65535) :
    let all := f.ring.records ++ f.offered bodies f.ring.writePos l
    f.Served (serveList l f) l ∧
      (serveList l f).ring = { f.ring with
        records := all.drop (all.length - 64), writePos := f.ring.writePos + BitVec.ofNat 32 l.length, waiters := []
        dropped := min 65535 (f.ring.dropped + (all.length - 64)) } ∧
      (64 < all.length → ∀ p, .resultsDropped ∈ ((serveList l f).port p).events) := by
  induction l generalizing f with
  | nil =>
    have few := waits.few
    refine ⟨.nil f, ?_, fun more => absurd more (by simpa [offered] using few)⟩
    simpa [serveList, offered, few, dropped] using waits.ring.symm
  | cons c rest ih =>
    have record := waits.record c List.mem_cons_self
    have few := waits.few
    intro all
    have split : all = (f.ring.records ++ [{ sequence := f.ring.writePos, body := bodies c
                                             elapsed := (f.chan c).elapsedNow }]) ++
        f.offered bodies (f.ring.writePos + 1) rest := by simp [all, offered]
    have total : all.length = f.ring.records.length + rest.length + 1 := by simp [split]; omega
    have position : f.ring.writePos + 1 + BitVec.ofNat 32 rest.length =
        f.ring.writePos + BitVec.ofNat 32 (c :: rest).length := by
      rw [List.length_cons, BitVec.ofNat_add, BitVec.add_assoc, BitVec.add_comm 1]
      rfl
    by_cases room : f.ring.records.length < 64
    · set g := f.takeRecord c (bodies c) with hg
      have ring : g.ring = f.ring.append c (bodies c) (f.chan c).elapsedNow := f.takeRecord_ring c _
      have length : g.ring.records.length = f.ring.records.length + 1 := by rw [ring]; exact List.length_append
      have took : f.Took g c := f.takeRecord_took c _
      obtain ⟨waits', same⟩ := waits.next took (by omega) (by rw [ring]; rfl)
      obtain ⟨served, ring', displaced⟩ := ih waits' (took.followed.trans unfollowed) (by rw [ring]; exact dropped)
      have all' : g.ring.records ++ g.offered bodies g.ring.writePos rest = all := by
        rw [same _ _ fun d mem => mem, ring, split]
        rfl
      rw [all'] at ring' displaced
      rw [serveList_room record room]
      refine ⟨.cons took served, ring'.trans ?_, displaced⟩
      rw [ring]
      simp only [Ring.append, position]
    · have full : f.ring.records.length = 64 := by omega
      rw [serveList_full record full, if_neg (by rw [unfollowed]; decide)]
      set g := f.displace.takeRecord c (bodies c) with hg
      have ring : g.ring = f.displace.ring.append c (bodies c) (f.chan c).elapsedNow := f.displace.takeRecord_ring c _
      have length : g.ring.records.length = 64 := by
        rw [ring, ← full]
        simp [Ring.append, displace_ring]
        omega
      have took : f.Took g c := f.displace_took c _
      obtain ⟨waits', same⟩ := waits.next took length.le (by rw [ring]; rfl)
      obtain ⟨served, ring', -⟩ := ih waits' (took.followed.trans unfollowed) (by
        rw [ring]
        exact min_le_left _ _)
      have all' : g.ring.records ++ g.offered bodies g.ring.writePos rest = all.tail := by
        have nonempty : f.ring.records ≠ [] := List.ne_nil_of_length_pos (by omega)
        rw [same _ _ fun d mem => mem, ring, split, List.tail_append_of_ne_nil (by simp),
          List.tail_append_of_ne_nil nonempty]
        rfl
      have one : all.length - 64 = all.tail.length - 64 + 1 := by rw [List.length_tail]; omega
      rw [all'] at ring'
      refine ⟨.cons took served, ring'.trans ?_, fun _ p => served.events p _ ?_⟩
      · have count : min 65535 (min 65535 (f.ring.dropped + 1) + (all.tail.length - 64)) =
            min 65535 (f.ring.dropped + (all.length - 64)) := by omega
        rw [ring, List.drop_tail, ← one]
        simp only [Ring.append, position, displace_ring, count]
      · exact (f.displace.takeRecord_took c _).events p _ ((f.displace_events p _).mpr (.inl rfl))

end Floor

/-- Settles O43: freeing by `PortContext.moveUp_gone`, serving by a pass down the waiter list. -/
theorem freeingServesTheWaiters : Obligations.FreeingServesTheWaiters := by
  unfold Obligations.FreeingServesTheWaiters
  refine ⟨fun f => ⟨rfl, fun ⟨freeA, freeB⟩ => ?_, fun follower law => ?_⟩,
    fun f waiters bodies few dropped list once record => ?_⟩
  · exact Floor.freeRecords_unfollowed (by rw [Floor.followed, freeA, freeB]; rfl)
  · obtain ⟨first, law⟩ := f.cursorLaw_iff.mp law
    have records : f.ring.records = f.ring.records.takeWhile f.pastByAll ++ f.ring.records.dropWhile f.pastByAll :=
      List.takeWhile_append_dropWhile.symm
    refine ⟨_, _, records, fun r mem => ?_, fun r rest kept => ?_, ?_⟩
    · have past := (f.pastByAll_iff r).mp (List.mem_takeWhile_imp mem)
      exact ⟨past .a, past .b⟩
    · have stops : ¬f.pastByAll r = true := by
        have head := List.head?_dropWhile_not f.pastByAll f.ring.records
        rw [kept] at head
        simpa using head
      rw [f.pastByAll_iff] at stops
      push Not at stops
      obtain ⟨p, follow, named⟩ := stops
      cases p
      exacts [.inl ⟨follow, named⟩, .inr ⟨follow, named⟩]
    · intro oldest moved
      have new : oldest = first + BitVec.ofNat 32 (f.ring.records.takeWhile f.pastByAll).length :=
        (Ring.oldest_eq _).symm.trans (law.runs.drop records).oldest
      have move (p : PortId) : (f.port p).moveUp f.ring.oldest
          ({ f.ring with records := f.ring.records.dropWhile f.pastByAll } : Ring).oldest = moved (f.port p) := by
        simp only [moved, new]
        exact PortContext.moveUp_gone law.runs law.few records (f.port p) (law.near p)
      rw [Floor.freeRecords, if_pos (f.followed_iff.mpr follower)]
      exact congrArg₂ (fun x y : PortContext => { f with
        ring := { f.ring with records := f.ring.records.dropWhile f.pastByAll }, portA := x, portB := y })
        (move .a) (move .b)
  · intro t taken
    have waits : f.Waits bodies waiters := ⟨few, list, once, record⟩
    have eq (n : Nat) : taken n = f.offered bodies f.ring.writePos (waiters.take n) := (f.offered_eq bodies _ _).symm
    refine ⟨fun follower => ?_, fun ⟨freeA, freeB⟩ => ?_⟩
    · intro n
      obtain ⟨served, ring⟩ := Floor.serveList_followed waiters waits (f.followed_iff.mpr follower)
      rw [eq]
      refine ⟨ring, served.other, served.left, fun room => ?_⟩
      have posted := served.posted (List.ne_nil_of_length_pos (by rw [List.length_take]; omega))
      exact ⟨posted.1, posted.2 .a, posted.2 .b⟩
    · intro all
      have unfollowed : f.followed = false := by rw [Floor.followed, freeA, freeB]; rfl
      obtain ⟨served, ring, displaced⟩ := Floor.serveList_unfollowed waiters waits unfollowed dropped
      have same : all = f.ring.records ++ f.offered bodies f.ring.writePos waiters := by
        simp only [all, eq, List.take_length]
      rw [same]
      exact ⟨ring, served.left, fun more => ⟨displaced more .a, displaced more .b⟩⟩

end Sys2Proof.Machine

/-! SUPPORT. The requests on a port's own context (R155, R160, R161, R164, R181 to R183, R186): the event sets that a
payload's codes name, and what each request answers. -/

namespace Sys2Proof.Machine

/-! Event sets (R180, R183). -/

theorem EventKind.ofCode_eq_some_iff {v : Byte} {e : EventKind} : EventKind.ofCode v.toNat = some e ↔ e.code = v := by
  refine ⟨fun read => ?_, fun code => by rw [← code]; cases e <;> rfl⟩
  have value : e.code.toNat = v.toNat := by
    unfold ofCode at read
    split at read
    all_goals cases read
    all_goals next at_v => exact at_v.symm
  exact BitVec.eq_of_toNat_eq value

theorem EventKind.ofCode_eq_none_iff {n : Nat} : EventKind.ofCode n = none ↔ n = 0 ∨ 7 < n := by
  refine ⟨fun none => ?_, fun beyond => ?_⟩
  · by_contra known
    have range : n = 1 ∨ n = 2 ∨ n = 3 ∨ n = 4 ∨ n = 5 ∨ n = 6 ∨ n = 7 := by omega
    rcases range with rfl | rfl | rfl | rfl | rfl | rfl | rfl <;> cases none
  · rcases beyond with rfl | beyond
    · rfl
    · obtain ⟨m, rfl⟩ := Nat.exists_eq_add_of_le' (show 8 ≤ n from beyond)
      rfl

theorem eventCodes_eq_none_iff (codes : List Byte) :
    eventCodes codes = none ↔ ∃ v ∈ codes, v = 0 ∨ 7 < v.toNat := by
  induction codes with
  | nil => simp [eventCodes]
  | cons v rest ih =>
    have zero : v = 0 ↔ v.toNat = 0 := BitVec.toNat_inj.symm
    rw [List.exists_mem_cons_iff, ← ih, zero, ← EventKind.ofCode_eq_none_iff]
    cases first : EventKind.ofCode v.toNat <;> cases others : eventCodes rest <;> simp [eventCodes, first, others]

/-- The set read holds the kinds whose codes are given, each once. -/
theorem eventCodes_eq_some {codes : List Byte} {set : List EventKind} (read : eventCodes codes = some set) :
    set.Nodup ∧ ∀ e, e ∈ set ↔ e.code ∈ codes := by
  induction codes generalizing set with
  | nil =>
    cases read
    simp
  | cons v rest ih =>
    unfold eventCodes at read
    split at read
    · next k others first more =>
      cases read
      obtain ⟨-, mem⟩ := ih more
      refine ⟨addEvent_nodup _ _, fun e => ?_⟩
      rw [mem_addEvent, mem, List.mem_cons, ← EventKind.ofCode_eq_some_iff.mp first, EventKind.code_injective.eq_iff]
    · cases read

/-! The requests (R160, R161, R182, R183, R186). -/

theorem PortContext.attn_iff (x : PortContext) : x.attn = true ↔ ∃ e, e ∈ x.events ∧ e ∈ x.mask := by
  simp [attn]

theorem BurstWork.isTransferOf_iff (p : PortId) (work : BurstWork) :
    work.isTransferOf p = true ↔ (∃ bytes, work = .write p bytes) ∨ work = .read p := by
  cases work <;> simp [isTransferOf]

section

variable {s : State} {p : PortId}

theorem exec_setEventMask {payload : List Byte} (ready : s.ready p) (length : payload.length = 8) :
    exec (.setEventMask p payload) s = .next (doSetEventMask p payload s) :=
  next_station_ready .setEventMask ready (by rw [length]; rfl)

theorem exec_readResult (ready : s.ready p) : exec (.readResult p []) s = .next (doReadResult p [] s) :=
  next_station_ready .readResult ready rfl

theorem exec_setResultFollow (ready : s.ready p) (v : Byte) :
    exec (.setResultFollow p [v]) s = .next (doSetResultFollow p [v] s) :=
  next_station_ready .setResultFollow ready rfl

/-- The record at a cursor is the first that carries its number (R160). -/
theorem Ring.at_eq_some {r : Ring} {cursor : Word32} {front back : List ResultRecord} {x : ResultRecord}
    (records : r.records = front ++ x :: back) (named : x.sequence = cursor)
    (first : ∀ q ∈ front, q.sequence ≠ cursor) : r.at cursor = some x := by
  rw [Ring.at, records, List.find?_append, List.find?_eq_none.mpr fun q mem => by simpa using first q mem]
  simp [named]

theorem Ring.at_eq_none {r : Ring} {cursor : Word32} (absent : ∀ q ∈ r.records, q.sequence ≠ cursor) :
    r.at cursor = none := List.find?_eq_none.mpr fun q mem => by simpa using absent q mem

end

/-- Settles O60: each request at a ready port by its own definition, the sets read by `eventCodes_eq_some`. -/
theorem portRequestsActOnTheirPort : Obligations.PortRequestsActOnTheirPort := by
  unfold Obligations.PortRequestsActOnTheirPort
  refine ⟨fun p s ready => ?_, fun p s running => ?_, PortContext.attn_iff, fun payload => ?_,
    BurstWork.isTransferOf_iff, fun p v s ready notZero notOne => ?_⟩
  · intro x one
    refine ⟨next_station_ready .readEvents ready rfl, fun payload set length read => ?_,
      fun payload length read => ?_, fun absent => ?_, fun front r back records named first free => ?_,
      fun front r back records named first follows => ?_, fun v => ⟨_, rfl, ?_⟩⟩
    · rw [exec_setEventMask ready length, doSetEventMask, read]
    · rw [exec_setEventMask ready length, doSetEventMask, read]
    · rw [exec_readResult ready, doReadResult, Ring.at_eq_none absent]
    · rw [exec_readResult ready, doReadResult, Ring.at_eq_some records named first]
      exact congrArg _ (if_neg (Bool.eq_false_iff.mp free))
    · rw [exec_readResult ready, doReadResult, Ring.at_eq_some records named first]
      exact congrArg _ (if_pos follows)
    · rw [exec_setResultFollow ready, doSetResultFollow, readFlag_flagByte]
  · refine congrArg Host.Outcome.next ((s.station_portReset p running).trans ?_)
    have port : (s.floor.orphanBurst (BurstWork.isTransferOf p)).port p = s.floor.port p := by
      rw [Floor.orphanBurst_eq]
      cases p <;> rfl
    have ring : (s.floor.orphanBurst (BurstWork.isTransferOf p)).ring = s.floor.ring := by rw [Floor.orphanBurst_eq]
    rw [doPortReset]
    simp only [port, ring]
    rfl
  · intro count codes code
    have same (e : EventKind) : code e = e.code := by cases e <;> rfl
    have read : readEventSet payload = if count ≤ 7 then eventCodes codes else none := by
      simp only [readEventSet, num_one, codes, count]
    by_cases few : count ≤ 7
    · rw [read, if_pos few, eventCodes_eq_none_iff]
      refine ⟨(or_iff_right (not_lt.mpr few)).symm, fun set known => ?_⟩
      obtain ⟨once, mem⟩ := eventCodes_eq_some known
      exact ⟨once, fun e => by rw [mem, same]⟩
    · rw [read, if_neg few]
      exact ⟨iff_of_true rfl (.inl (not_le.mp few)), nofun⟩
  · rw [exec_setResultFollow ready, doSetResultFollow, readFlag_beyond notZero notOne]

end Sys2Proof.Machine
